-- ==== Sys2Proof/Word.lean ====
section
/-! DEFINITION. The words of the model: bytes, 16-bit and 32-bit fields, and the plainest arithmetic over them. -/

namespace Sys2Proof

/-- One byte field's data (R4). -/
abbrev Byte := BitVec 8

/-- A 16-bit field, read as signed or unsigned by its user. -/
abbrev Half := BitVec 16

/-- A value of the Time Base microsecond counter (R1). -/
abbrev Micros := BitVec 32

/-- Two bytes, most significant byte first (00_scope.md, "Numbers and byte order"). -/
abbrev ofBytes (hi lo : Byte) : Half := hi ++ lo

/-- The most significant byte of a 16-bit field. -/
abbrev hiByte (h : Half) : Byte := h.extractLsb' 8 8

/-- The least significant byte of a 16-bit field. -/
abbrev loByte (h : Half) : Byte := h.extractLsb' 0 8

end Sys2Proof
end

