-- ==== Sys2Proof/Syntax.lean ====
section
/-! DEFINITION. The names of the KL-24's modes and codes, the frames as they stand on the lines, and the commands: one
constructor of `Instr` per row of spec/opcode_table.json. -/

namespace Sys2Proof

/-- Leg positions on the body (00_scope.md; codes in R26). -/
inductive LegPos where
  | lf | rf | lh | rh
  deriving DecidableEq, Repr

/-- Gait kinds (codes in R26). -/
inductive Gait where
  | stand | crawl | diagonal
  deriving DecidableEq, Repr

/-- Contact classes (codes in R26). -/
inductive Contact where
  | air | touch | loaded
  deriving DecidableEq, Repr

/-- Leg states (section 5.1; the codes of the last eight in R26). -/
inductive LegState where
  | setup | ready | stance | claim | unload | swing | search | load | hold
  deriving DecidableEq, Repr

/-- Wait reasons (codes in R26). -/
inductive WaitReason where
  | none | intent | phase | turn | ownContact | fault | peerStale | neighbour | slipNearby | bodyStale | supportCount
  | margin | claimLost
  deriving DecidableEq, Repr

/-- The codes of a Phase Notice (R26). -/
inductive Notice where
  | lift | withdraw | touchdown | loaded | slip | slipEnd | conflict
  deriving DecidableEq, Repr

/-- The known frame kinds of the stride bus (R6). -/
inductive FrameKind where
  | alarm | phaseNotice | legReport | bodyReport | intent | control | setup | footDetail | diagnostic | event
  deriving DecidableEq, Repr

/-- Roster roles (R31). -/
inductive Role where
  | absent | leg | body | mission
  deriving DecidableEq, Repr

/-- A complete stride-bus frame as received: claim byte, payload, and the two check bytes in their order (R6, R11). -/
structure RxFrame where
  claim   : Byte
  payload : List Byte
  check2  : Byte
  check1  : Byte
  deriving DecidableEq, Repr

/-- Thirty line samples of one byte field: samples 3k, 3k+1 and 3k+2 are those of bit k (k = 0 the start bit, 9 the stop
bit), 1 is recessive (R5, R60, R135). -/
abbrev Samples := BitVec 30

/-- How a frame of the foot link or of the drive link ended (R60, R61, R135). -/
inductive LinkEnd where
  /-- a byte field whose stop bit reads dominant, after the bytes already accepted -/
  | framing (got : List Byte) (field : Samples)
  /-- 3 whole recessive bit times after a stop bit, before the last byte field -/
  | truncated (got : List Byte)
  /-- every byte field accepted -/
  | whole (bytes : List Byte)
  deriving DecidableEq, Repr

/-- The commands of the block: one constructor per row of spec/opcode_table.json. `dt` is the time in microseconds since
the command before (log entry 1). -/
inductive Instr where
  /-- FULL_RESET (R27), with the strap pins it samples (R3) -/
  | fullReset (station : Fin 8) (rate : Fin 4)
  /-- INTERFRAME_SPACE (R7) -/
  | interframeSpace (dt : Nat)
  /-- TX_BEGIN (R19); `deferred`: another station's start edge is seen before the node drives -/
  | txBegin (dt : Nat) (deferred : Bool)
  /-- ARBITRATION_LOSS (R20) at the data bit numbered `bit` of the claim byte -/
  | arbitrationLoss (dt : Nat) (bit : Fin 8)
  /-- TX_ABORT (R21); `sentRecessive` is the level sent when the other was read -/
  | txAbort (dt : Nat) (sentRecessive : Bool)
  /-- TX_COMPLETION (R22) -/
  | txCompletion (dt : Nat)
  /-- FRAMING_ERROR (R5): the bytes of the frame accepted so far, and the samples of the byte field that is not accepted; a
  start bit that reads recessive makes it the glitch of R5 (log entry 33) -/
  | framingError (dt : Nat) (got : List Byte) (field : Samples)
  /-- TRUNCATION (R8), with the bytes of the frame accepted so far -/
  | truncation (dt : Nat) (got : List Byte)
  /-- CLAIM_PARITY_ERROR (R9) -/
  | claimParityError (dt : Nat) (claim : Byte)
  /-- UNKNOWN_KIND (R10) -/
  | unknownKind (dt : Nat) (claim : Byte)
  /-- CHECK_ERROR (R12) -/
  | checkError (dt : Nat) (frame : RxFrame)
  /-- STATION_CLASH (R14) -/
  | stationClash (dt : Nat) (frame : RxFrame)
  /-- SBI_CLASH_WATCH_EXPIRY (R14) -/
  | sbiClashWatchExpiry (dt : Nat)
  /-- BUS_STUCK (R24) -/
  | busStuck (dt : Nat)
  /-- SETUP_FRAME (R29) -/
  | setupFrame (dt : Nat) (frame : RxFrame)
  /-- ALARM_RECEIVED (R153) -/
  | alarmReceived (dt : Nat) (frame : RxFrame)
  /-- PHASE_NOTICE_RECEIVED (R44) -/
  | phaseNoticeReceived (dt : Nat) (frame : RxFrame)
  /-- LEG_REPORT_RECEIVED (R43) -/
  | legReportReceived (dt : Nat) (frame : RxFrame)
  /-- BODY_REPORT_RECEIVED (R46) -/
  | bodyReportReceived (dt : Nat) (frame : RxFrame)
  /-- INTENT_RECEIVED (R48) -/
  | intentReceived (dt : Nat) (frame : RxFrame)
  /-- INFO_FRAME_RECEIVED (R15) -/
  | infoFrameReceived (dt : Nat) (frame : RxFrame)
  /-- START (R37) -/
  | start (dt : Nat) (frame : RxFrame)
  /-- RESTART (R38) -/
  | restart (dt : Nat) (frame : RxFrame)
  /-- RESUME (R155) -/
  | resume (dt : Nat) (frame : RxFrame)
  /-- CLEAR_FAULTS (R157) -/
  | clearFaults (dt : Nat) (frame : RxFrame)
  /-- QUERY (R148) -/
  | query (dt : Nat) (frame : RxFrame)
  /-- EVENT_TEST (R160) -/
  | eventTest (dt : Nat) (frame : RxFrame)
  /-- AGEING_READ (R55) -/
  | ageingRead (dt : Nat)
  /-- PT_CLASH_WATCH_EXPIRY (R52) -/
  | ptClashWatchExpiry (dt : Nat)
  /-- FORCE_SAMPLE_GOOD (R63), the nine bytes of a Force Sample frame -/
  | forceSampleGood (dt : Nat) (bytes : List Byte)
  /-- FORCE_SAMPLE_BAD (R61) -/
  | forceSampleBad (dt : Nat) (ended : LinkEnd)
  /-- FORCE_SAMPLE_UNFIT (R61), the nine bytes of a Force Sample frame -/
  | forceSampleUnfit (dt : Nat) (bytes : List Byte)
  /-- FOOT_LINK_LOST (R72) -/
  | footLinkLost (dt : Nat)
  /-- STATUS_REPLY (R137), the ten bytes of a Status frame -/
  | statusReply (dt : Nat) (bytes : List Byte)
  /-- BAD_REPLY (R137) -/
  | badReply (dt : Nat) (ended : LinkEnd)
  /-- SETPOINT_END (R136) -/
  | setpointEnd (dt : Nat)
  /-- ANSWER_WINDOW_CLOSE (R137) -/
  | answerWindowClose (dt : Nat)
  /-- CONTROL_PERIOD_EXPIRY (R79) -/
  | controlPeriodExpiry (dt : Nat)
  /-- SUPPORT_CHECK_RESULT (R87) -/
  | supportCheckResult (dt : Nat)
  /-- CLAIM_TIMER_EXPIRY (R108) -/
  | claimTimerExpiry (dt : Nat)
  /-- UNLOAD_TIMER_EXPIRY (R92) -/
  | unloadTimerExpiry (dt : Nat)
  /-- FOOTHOLD_TIMER_EXPIRY (R98) -/
  | footholdTimerExpiry (dt : Nat)
  /-- LOAD_TIMER_EXPIRY (R102) -/
  | loadTimerExpiry (dt : Nat)
  /-- SLIP_TIMER_EXPIRY (R104) -/
  | slipTimerExpiry (dt : Nat)
  /-- EPOCH_TICK (R145) -/
  | epochTick (dt : Nat)
  /-- FOOT_LINK_IDLE (R60) -/
  | footLinkIdle (dt : Nat)
  /-- DRIVE_LINK_IDLE (R135) -/
  | driveLinkIdle (dt : Nat)
  deriving DecidableEq, Repr

end Sys2Proof
end

