-- ==== Sys2Proof/Decode.lean ====
section
/-! DEFINITION. Reading bytes: the samples of a byte field (R5), the claim byte (R9, R10), payload lengths (R6), the check
(R11, R12), the codes of R26, and `decodeTableWord` over the rows of the opcode table that give bits (there are none). -/

namespace Sys2Proof

/-! ## Byte fields (R4, R5) -/

/-- The ten bits of the byte field of `b`, start bit first, data most significant bit first, recessive = true (R4). -/
def byteField (b : Byte) : List Bool :=
  false :: (((List.range 8).map fun i => b.getLsbD (7 - i)) ++ [true])

/-- The bits of bytes sent back to back, each in its byte field, in the order they are driven; recessive = true (R4). -/
def lineBits (l : List Byte) : List Bool := l.flatMap byteField

/-- The majority of three samples (R5). -/
def majority (x y z : Bool) : Bool := (x && y) || (x && z) || (y && z)

/-- Bit `k` of a byte field, the majority of its three samples (R5). -/
def fieldBit (f : Samples) (k : Nat) : Bool :=
  majority (f.getLsbD (3 * k)) (f.getLsbD (3 * k + 1)) (f.getLsbD (3 * k + 2))

/-- The data byte of a byte field, most significant bit first. -/
def fieldData (f : Samples) : Byte :=
  (List.range 8).foldl (fun acc i => (acc <<< 1) ||| (if fieldBit f (i + 1) then 1#8 else 0#8)) 0#8

/-- How a byte field ends (R5): a glitch, a framing error, or an accepted byte. -/
inductive FieldEnd where
  | glitch
  | framing (data : Byte)
  | accepted (data : Byte)
  deriving DecidableEq, Repr

/-- The three cases of R5, from the samples. -/
def readField (f : Samples) : FieldEnd :=
  if fieldBit f 0 then .glitch
  else if fieldBit f 9 then .accepted (fieldData f)
  else .framing (fieldData f)

/-! ## Codes (R26) -/

/-- The kind code of a frame kind (R6). -/
def FrameKind.code : FrameKind → Nat
  | .alarm => 1 | .phaseNotice => 2 | .legReport => 3 | .bodyReport => 4 | .intent => 5
  | .control => 6 | .setup => 7 | .footDetail => 8 | .diagnostic => 9 | .event => 10

/-- The known kind of a kind code, if it is one of 1 to 10 (R9, R10). -/
def kindOfCode : Nat → Option FrameKind
  | 1 => some .alarm | 2 => some .phaseNotice | 3 => some .legReport | 4 => some .bodyReport | 5 => some .intent
  | 6 => some .control | 7 => some .setup | 8 => some .footDetail | 9 => some .diagnostic | 10 => some .event
  | _ => none

/-- Payload bytes of each kind (R6). -/
def FrameKind.payloadLen : FrameKind → Nat
  | .alarm => 2 | .phaseNotice => 4 | .legReport => 13 | .bodyReport => 10 | .intent => 12
  | .control => 3 | .setup => 4 | .footDetail => 8 | .diagnostic => 11 | .event => 4

/-- Byte fields in a whole frame of each kind (R6): claim byte, payload, two check bytes. -/
def FrameKind.fields (k : FrameKind) : Nat := k.payloadLen + 3

/-- Leg position code. -/
def LegPos.code : LegPos → Nat
  | .lf => 0 | .rf => 1 | .lh => 2 | .rh => 3

/-- The leg position of a code, from its two bits. -/
def legPosOfCode (n : Nat) : LegPos :=
  match n % 4 with
  | 0 => .lf | 1 => .rf | 2 => .lh | _ => .rh

/-- Gait code. -/
def Gait.code : Gait → Nat
  | .stand => 0 | .crawl => 1 | .diagonal => 2

/-- Contact class code. -/
def Contact.code : Contact → Nat
  | .air => 0 | .touch => 1 | .loaded => 2

/-- The contact class of a code in a received report; code 3 names no class and is taken as AIR (R43). -/
def contactOfCode (n : Nat) : Contact :=
  match n % 4 with
  | 1 => .touch | 2 => .loaded | _ => .air

/-- Leg state code. SETUP is never reported (section 5.1) and shows 0. -/
def LegState.code : LegState → Nat
  | .setup => 0 | .ready => 0 | .stance => 1 | .claim => 2 | .unload => 3 | .swing => 4 | .search => 5 | .load => 6
  | .hold => 7

/-- The leg state of a code, from its three bits. -/
def legStateOfCode (n : Nat) : LegState :=
  match n % 8 with
  | 0 => .ready | 1 => .stance | 2 => .claim | 3 => .unload | 4 => .swing | 5 => .search | 6 => .load | _ => .hold

/-- Wait reason code. -/
def WaitReason.code : WaitReason → Nat
  | .none => 0 | .intent => 1 | .phase => 2 | .turn => 3 | .ownContact => 4 | .fault => 5 | .peerStale => 6
  | .neighbour => 7 | .slipNearby => 8 | .bodyStale => 9 | .supportCount => 10 | .margin => 11 | .claimLost => 12

/-- Notice code. -/
def Notice.code : Notice → Nat
  | .lift => 1 | .withdraw => 2 | .touchdown => 3 | .loaded => 4 | .slip => 5 | .slipEnd => 6 | .conflict => 7

/-- The roster role of a 2-bit code (R31). -/
def roleOfCode (n : Nat) : Role :=
  match n % 4 with
  | 0 => .absent | 1 => .leg | 2 => .body | _ => .mission

/-- The 2-bit code of a roster role (R31). -/
def Role.code : Role → Nat
  | .absent => 0 | .leg => 1 | .body => 2 | .mission => 3

/-! ## The claim byte (R9) -/

/-- Whether a byte holds an even number of ones (R9). -/
def evenOnes (b : Byte) : Bool := ((List.range 8).filter b.getLsbD).length % 2 == 0

/-- The kind code in bits 7–4 of a claim byte. -/
def claimCode (b : Byte) : Nat := b.toNat / 16

/-- The source station in bits 3–1 of a claim byte. -/
def claimSource (b : Byte) : Fin 8 := Fin.ofNat 8 (b.toNat / 2)

/-- The claim byte of a kind and a source station, with the parity bit that makes the ones even (R9). -/
def claimByte (k : FrameKind) (station : Fin 8) : Byte :=
  let b := BitVec.ofNat 8 (k.code * 16 + station.val * 2)
  if evenOnes b then b else b ||| 1#8

/-- The kind of a claim byte whose parity is good and whose kind is known; otherwise none (R9, R10). -/
def claimKind (b : Byte) : Option FrameKind :=
  if evenOnes b then kindOfCode (claimCode b) else none

/-! ## The check (R11, R12) -/

/-- One byte's step of the two running sums, C1 then C2 (R11). -/
def sumStep (c : Nat × Nat) (b : Byte) : Nat × Nat :=
  let c1 := (c.1 + b.toNat) % 255
  (c1, (c.2 + c1) % 255)

/-- The sums C1 and C2 over bytes, both starting at 0 (R11). -/
def sums (l : List Byte) : Nat × Nat := l.foldl sumStep (0, 0)

/-- The check byte that is sent first (C2). -/
def checkC2 (l : List Byte) : Byte := BitVec.ofNat 8 (sums l).2

/-- The check byte that is sent second (C1). -/
def checkC1 (l : List Byte) : Byte := BitVec.ofNat 8 (sums l).1

/-- A byte of a payload, by its number b0, b1, … (R26). -/
def byteAt (l : List Byte) (i : Nat) : Byte := l.getD i 0#8

/-- A 16-bit field of a payload whose first byte is number `i` (R26). -/
def halfAt (l : List Byte) (i : Nat) : Half := ofBytes (byteAt l i) (byteAt l (i + 1))

/-- The kind named by a received frame's claim byte. -/
def RxFrame.kind (f : RxFrame) : Option FrameKind := claimKind f.claim

/-- The source station named by a received frame's claim byte. -/
def RxFrame.source (f : RxFrame) : Fin 8 := claimSource f.claim

/-- Payload byte `i` of a received frame. -/
def RxFrame.b (f : RxFrame) (i : Nat) : Byte := byteAt f.payload i

/-- Whether the frame is complete: a known kind with good parity and the payload length of that kind (R8). -/
def RxFrame.complete (f : RxFrame) : Bool :=
  match f.kind with
  | some k => f.payload.length == k.payloadLen
  | none => false

/-- Whether the two received check bytes agree with the sums over claim byte and payload (R12). -/
def RxFrame.checkAgrees (f : RxFrame) : Bool :=
  f.check2 == checkC2 (f.claim :: f.payload) && f.check1 == checkC1 (f.claim :: f.payload)

/-- A good frame (R12). -/
def RxFrame.good (f : RxFrame) : Bool := f.complete && f.checkAgrees

/-- Whether accepted bytes are the beginning, and not the whole, of a frame of a known kind: the state in which the engine
expects further byte fields (R8). -/
def partialFrame (got : List Byte) : Bool :=
  match got with
  | [] => false
  | c :: rest =>
    match claimKind c with
    | some k => decide (rest.length < k.payloadLen + 2)
    | none => false

/-! ## The frames of the two local links (R61, R135) -/

/-- Byte fields of a Force Sample frame (R60). -/
def forceFields : Nat := 9

/-- Byte fields of a Status frame (R135). -/
def statusFields : Nat := 10

/-- Whether the bytes are a whole link frame of `n` byte fields whose last two are the check over those before them. -/
def linkCheckAgrees (n : Nat) (l : List Byte) : Bool :=
  l.length == n && byteAt l (n - 2) == checkC2 (l.take (n - 2)) && byteAt l (n - 1) == checkC1 (l.take (n - 2))

/-- Whether a link frame of `n` byte fields failed on the line: a framing error or a truncation (R60). -/
def linkFailed (n : Nat) : LinkEnd → Bool
  | .framing got field =>
    decide (got.length < n) && (match readField field with | .framing _ => true | _ => false)
  | .truncated got => decide (0 < got.length ∧ got.length < n)
  | .whole _ => false

/-- The sensor-fault bit of a Force Sample frame (R61). -/
def sensorFault (l : List Byte) : Bool := (byteAt l 6).getLsbD 7

/-! ## What each row of the table can carry -/

/-- A good frame of the given kind. -/
def goodOfKind (k : FrameKind) (f : RxFrame) : Bool := f.good && f.kind == some k

/-- A good Control frame whose command code is `code`, or is outside 1 to 6: such a frame is dropped by R17, and
CONTROL_DROPPED stands within each of the six rows (95_what_each_step_holds.md). -/
def controlOf (code : Nat) (f : RxFrame) : Bool :=
  goodOfKind .control f && ((f.b 1).toNat == code || (f.b 1).toNat == 0 || decide (6 < (f.b 1).toNat))

/-- A good frame that is handed to no block (R15). -/
def infoFrame (f : RxFrame) : Bool :=
  goodOfKind .footDetail f || goodOfKind .diagnostic f || goodOfKind .event f

/-- A byte field that ends in a framing error, after `got` accepted bytes of one frame (R5). The claim byte's parity and
kind are judged before its stop bit (R25), so a failing claim byte has a known kind. -/
def framingEnd (got : List Byte) (field : Samples) : Bool :=
  match readField field with
  | .framing data => if got.isEmpty then (claimKind data).isSome else partialFrame got
  | _ => false

/-- A falling edge whose start bit reads recessive, between the byte fields of one frame or before the first (R5). -/
def glitchField (got : List Byte) (field : Samples) : Bool :=
  readField field == .glitch && (got.isEmpty || partialFrame got)

/-- The claim byte has an odd number of ones (R9). -/
def badParity (c : Byte) : Bool := !evenOnes c

/-- The claim byte has good parity and names no known kind (R10). -/
def unknownClaim (c : Byte) : Bool := evenOnes c && (kindOfCode (claimCode c)).isNone

/-- A Force Sample frame with a correct check and the given sensor-fault bit (R61). -/
def forceFrame (fault : Bool) (l : List Byte) : Bool := linkCheckAgrees forceFields l && sensorFault l == fault

/-- A failed Force Sample frame or a check mismatch (R61). -/
def badForce (e : LinkEnd) : Bool :=
  linkFailed forceFields e ||
    (match e with | .whole l => l.length == forceFields && !linkCheckAgrees forceFields l | _ => false)

/-- A Status frame with a correct check and a state code of 0 to 3 (R137). -/
def statusFrame (l : List Byte) : Bool := linkCheckAgrees statusFields l && decide ((byteAt l 1).toNat < 4)

/-! ## The opcode table's words -/

/-- The command that a word spells by the bits of spec/opcode_table.json. No row of the table gives bits, so no word spells
a command (log entry 24). -/
def decodeTableWord (_nbits _w : Nat) : Option Instr := none

end Sys2Proof
end

