-- ==== Sys2Proof/Config.lean ====
section
/-! DEFINITION. What an implementation of the board fixes: the strap pins. The spec leaves no computed value open, so no
opaque constant (free value) stands here. -/

namespace Sys2Proof.Config

/-- The station straps that `State.reset` assumes. DESIGN CHOICE (log entry 4): the straps are the board's (R3), and
FULL_RESET carries the ones sampled. -/
def strapStation : Fin 8 := 0

/-- The bit-rate straps that `State.reset` assumes. DESIGN CHOICE (log entry 4). -/
def strapRate : Fin 4 := 0

end Sys2Proof.Config
end

