-- ==== Sys2Proof/Machine/State.lean ====
section
/-! DEFINITION. The state of the KL-24: one record per block of 00_scope.md, the queue of waiting commands, and the state
after full reset. -/

namespace Sys2Proof.Machine
open Sys2Proof

/-- Why a command could stop the block. It has no constructor: no rule of the spec stops the node, and the spec's own
faults are state of the Fault Unit (R149). Raised by nobody; safe. -/
inductive Fault where
  deriving DecidableEq, Repr

/-- Why a command could be refused. -/
inductive Refusal where
  /-- Raised only by an arm of `exec` whose command has no meaning yet, of which there is none. Safe. -/
  | notModelled (mnemonic : String)
  deriving DecidableEq, Repr

/-- A timer: the microseconds left until it expires (0: it is due), or none when it is stopped. -/
abbrev Timer := Option Nat

/-- A point in µm in the body frame (00_scope.md, "Coordinates and units"). -/
structure P3 where
  x : Int
  y : Int
  z : Int
  deriving DecidableEq, Repr

/-! ## Time Base (R1, R145) -/

/-- The Time Base. -/
structure TimeBase where
  us         : Micros
  epoch      : Half
  epochTimer : Timer
  deriving DecidableEq, Repr

/-! ## Stride Bus Interface (chapter 1) -/

/-- Receive engine of the bus (R7) and of the two local links (R60, R135). -/
inductive RxState where
  | waitIdle | idle | inFrame
  deriving DecidableEq, Repr

/-- Transmit side (R18). -/
inductive TxState where
  | idle | arbitrating | sending | stuck
  deriving DecidableEq, Repr

/-- A frame the node sends: claim byte and payload as built, and whether it is locked (R140). -/
structure TxFrame where
  claim   : Byte
  payload : List Byte
  locked  : Bool
  deriving DecidableEq, Repr

/-- The ten bus counters, in the order of R25. -/
structure Counters where
  rxGood    : Byte
  framing   : Byte
  check     : Byte
  truncated : Byte
  parity    : Byte
  unknown   : Byte
  stranger  : Byte
  arbLost   : Byte
  txError   : Byte
  sent      : Byte
  deriving DecidableEq, Repr

/-- The Stride Bus Interface; `finishing` holds the microseconds left of the dominant bit of an aborted frame (R21). -/
structure Sbi where
  station    : Fin 8
  rateCode   : Fin 4
  rx         : RxState
  recessive  : Nat
  rxAborted  : Bool
  dominant   : Nat
  tx         : TxState
  txElapsed  : Nat
  attempt    : Option TxFrame
  txLine     : List Byte
  finishing  : Nat
  clashWatch : Option Micros
  counters   : Counters
  deriving DecidableEq, Repr

/-! ## Setup Block (chapter 2) -/

/-- The Setup Block (R27). -/
structure SetupBlock where
  words        : Vector Half 54
  ptr          : Nat
  refused      : Byte
  clampCount   : Byte
  firstClamped : Option Nat
  sumC2        : Byte
  sumC1        : Byte
  deriving DecidableEq, Repr

/-! ## Peer Table (chapter 3) -/

/-- A peer's sway request as carried, in 2 mm units (R42). -/
structure SwayUnits where
  x : Byte
  y : Byte
  deriving DecidableEq, Repr

/-- The LEG part of a record (R42). The wait reason is held as its code, 13 to 15 included (R43). -/
structure LegPart where
  pos         : LegPos
  state       : LegState
  slip        : Bool
  contact     : Contact
  wait        : BitVec 4
  steps       : Byte
  footX       : Half
  footY       : Half
  sway        : Option SwayUnits
  stanceLimit : Bool
  deriving DecidableEq, Repr

/-- The BODY part of a record (R42). -/
structure BodyPart where
  comX  : Half
  comY  : Half
  pitch : Half
  roll  : Half
  deriving DecidableEq, Repr

/-- The MISSION part of a record (R42), after the clamps of R48. -/
structure MissionPart where
  gait     : Gait
  vx       : Int
  vy       : Int
  omega    : Int
  cycle    : Nat
  step     : Nat
  offset   : Int
  seq      : Byte
  clampSet : Byte
  deriving DecidableEq, Repr

/-- The role part of a present record; its constructor is the record's role (R41). -/
inductive Part where
  | leg (l : LegPart)
  | body (b : BodyPart)
  | mission (m : MissionPart)
  deriving DecidableEq, Repr

/-- A present record (R41). -/
structure Record where
  tag   : Micros
  stale : Bool
  guard : Bool
  part  : Part
  deriving DecidableEq, Repr

/-- The Peer Table; an empty record is `none`. -/
structure PeerTable where
  records      : Vector (Option Record) 8
  peerSilent   : Bool
  bodySilent   : Bool
  intentSilent : Bool
  tilt         : Bool
  clashWatch   : Option Micros
  deriving DecidableEq, Repr

/-! ## Foot Sense Unit and Filter Engine (chapter 4) -/

/-- One axis of the Filter Engine: its delay line (entry 0 the newest), its output and its sticky limit flag. -/
structure Axis where
  line  : Vector Half 16
  out   : Int
  limit : Bool
  deriving DecidableEq, Repr

/-- The Foot Sense Unit (R62). -/
structure FootSense where
  link       : RxState
  bad        : Byte
  ax         : Axis
  ay         : Axis
  az         : Axis
  limitCond  : Bool
  refill     : Nat
  contact    : Contact
  prevFz     : Option Half
  slipping   : Bool
  slipRun    : Nat
  okRun      : Nat
  watch      : Timer
  linkCond   : Bool
  stuckRun   : Nat
  stuckCond  : Bool
  recovery   : Nat
  degraded   : Bool
  causeLink  : Bool
  causeStuck : Bool
  refHeight  : Int
  deriving DecidableEq, Repr

/-! ## Phase Engine (chapter 5) -/

/-- The applied record (R80): gait, cycle period in ms, step height in mm. -/
structure Applied where
  gait  : Gait
  cycle : Nat
  step  : Nat
  deriving DecidableEq, Repr

/-- A displacement or a request in the plane, in mm. -/
structure P2 where
  x : Int
  y : Int
  deriving DecidableEq, Repr

/-- The Phase Engine (R78). -/
structure PhaseEngine where
  leg            : LegState
  phi            : BitVec 16
  steps          : Byte
  applied        : Applied
  turn           : Option Byte
  lead           : Bool
  wait           : WaitReason
  period         : Timer
  claimT         : Timer
  unloadT        : Timer
  footholdT      : Timer
  loadT          : Timer
  slipT          : Timer
  checkPending   : Bool
  timeoutPassed  : Bool
  stubs          : Nat
  stubRise       : Bool
  watchArmed     : Bool
  attempts       : Nat
  deadlinePassed : Bool
  replacing      : Bool
  loadPending    : Bool
  origin         : Option LegState
  slipReported   : Bool
  ownSway        : Option P2
  deriving DecidableEq, Repr

/-! ## Support Check Unit (chapter 6) -/

/-- A support foot of a snapshot (R112): leg position and foot x, y in mm. -/
structure SupportFoot where
  pos : LegPos
  at2 : P2
  deriving DecidableEq, Repr

/-- The snapshot of a check request (R112). -/
structure Snapshot where
  own  : LegPos
  gait : Gait
  feet : List SupportFoot
  com  : P2
  deriving DecidableEq, Repr

/-- A result of the Support Check Unit (R113); `reason` is the outcome's wait reason code. -/
structure CheckResult where
  pass   : Bool
  reason : WaitReason
  n      : Nat
  margin : Int
  sway   : Option P2
  deriving DecidableEq, Repr

/-- The Support Check Unit. -/
structure SupportUnit where
  checking : Bool
  inFlight : Option Snapshot
  last     : CheckResult
  deriving DecidableEq, Repr

/-! ## Trajectory Unit and Drive Link Port (chapter 7) -/

/-- The swing plan (R129). -/
structure SwingPlan where
  startX  : Int
  startY  : Int
  targetX : Int
  targetY : Int
  z0      : Int
  h       : Int
  kEnd    : Nat
  k       : Nat
  deriving DecidableEq, Repr

/-- The stub state of the swing plan (R131). -/
structure StubState where
  z  : Int
  k  : Nat
  d0 : Int
  j  : Nat
  deriving DecidableEq, Repr

/-- The path of a re-place rise (R133). -/
structure RisePath where
  sx : Int
  sy : Int
  sz : Int
  dx : Int
  dy : Int
  j  : Nat
  deriving DecidableEq, Repr

/-- Setpoint modes (R135). -/
inductive Mode where
  | hold | position | soft
  deriving DecidableEq, Repr

/-- A Setpoint frame's fields (R135); coordinates in 0.1 mm. -/
structure Setpoint where
  mode : Mode
  tag  : Byte
  x    : Half
  y    : Half
  z    : Half
  deriving DecidableEq, Repr

/-- The Trajectory Unit with its Drive Link Port (R123); `line` holds the ten bytes of the Setpoint on the drive link. -/
structure Trajectory where
  p              : P3
  stanceZ        : Int
  lowering       : Bool
  plan           : SwingPlan
  stub           : StubState
  rise           : RisePath
  contact        : P3
  stanceLimit    : Bool
  clampCond      : Bool
  measured       : P3
  driveLimit     : Bool
  tag            : Byte
  lastZ          : Option Int
  priorZ         : Option Int
  pressing       : Bool
  setpoint       : Option Setpoint
  line           : List Byte
  sending        : Timer
  window         : Timer
  misses         : Byte
  driveLost      : Bool
  driveFault     : Bool
  started        : Bool
  frozen         : Bool
  descentStopped : Bool
  pressFrozen    : Bool
  link           : RxState
  deriving DecidableEq, Repr

/-! ## Transmit Queue (chapter 8) -/

/-- The Transmit Queue (R140, R144), head first. -/
structure TxQueue where
  frames  : List TxFrame
  dropped : Byte
  deriving DecidableEq, Repr

/-! ## Fault Unit and Event Ring (chapter 9) -/

/-- The 17 faults of R149 (codes in R26). -/
inductive FaultCode where
  | driveFault | driveLost | noFoothold | slipPersist | tilt | clash | busStuck | overlap
  | footLinkLost | forceStuck | filterLimit | peerSilent | bodySilent | intentSilent | weakFoothold | workspaceClamp
  | setupClamped
  deriving DecidableEq, Repr

/-- A record of the event ring (R158). -/
structure EventRecord where
  code   : Byte
  detail : Byte
  epoch  : Half
  deriving DecidableEq, Repr

/-- The first-fault record (R149). -/
structure FirstFault where
  code  : FaultCode
  epoch : Half
  deriving DecidableEq, Repr

/-- The Fault Unit (R149); flags and conditions stand at the fault's place in the table of 9.2. -/
structure FaultUnit where
  flags         : Vector Bool 17
  conds         : Vector Bool 17
  clashStation  : Bool
  clashPosition : Bool
  first         : Option FirstFault
  alarmsInHold  : Byte
  ring          : List EventRecord
  lost          : Byte
  retry         : Bool
  deriving DecidableEq, Repr

/-! ## The whole block -/

/-- The state of the node and the commands that wait for it, first in, first out. -/
structure State where
  time    : TimeBase
  sbi     : Sbi
  setup   : SetupBlock
  pt      : PeerTable
  fsu     : FootSense
  pe      : PhaseEngine
  scu     : SupportUnit
  tu      : Trajectory
  txq     : TxQueue
  flt     : FaultUnit
  pending : List Instr
  deriving DecidableEq, Repr

/-! ## Values after full reset -/

/-- R1, R145. -/
def TimeBase.reset : TimeBase := { us := 0#32, epoch := 0#16, epochTimer := none }

/-- R25. -/
def Counters.reset : Counters :=
  { rxGood := 0#8, framing := 0#8, check := 0#8, truncated := 0#8, parity := 0#8, unknown := 0#8, stranger := 0#8
    arbLost := 0#8, txError := 0#8, sent := 0#8 }

/-- R2, R3, R7, R14, R18, R24, R25. -/
def Sbi.reset (station : Fin 8) (rate : Fin 4) : Sbi :=
  { station := station, rateCode := rate, rx := .waitIdle, recessive := 0, rxAborted := false, dominant := 0, tx := .idle
    txElapsed := 0, attempt := none, txLine := [], finishing := 0, clashWatch := none, counters := Counters.reset }

/-- R27. -/
def SetupBlock.reset : SetupBlock :=
  { words := Vector.replicate 54 0#16, ptr := 0, refused := 0#8, clampCount := 0#8, firstClamped := none
    sumC2 := 0#8, sumC1 := 0#8 }

/-- R59. -/
def PeerTable.reset : PeerTable :=
  { records := Vector.replicate 8 none, peerSilent := false, bodySilent := false, intentSilent := false, tilt := false
    clashWatch := none }

/-- R62. -/
def Axis.reset : Axis := { line := Vector.replicate 16 0#16, out := 0, limit := false }

/-- R60, R61, R62. -/
def FootSense.reset : FootSense :=
  { link := .waitIdle, bad := 0#8, ax := Axis.reset, ay := Axis.reset, az := Axis.reset, limitCond := false, refill := 0
    contact := .air, prevFz := none, slipping := false, slipRun := 0, okRun := 0, watch := none, linkCond := false
    stuckRun := 0, stuckCond := false, recovery := 0, degraded := false, causeLink := false, causeStuck := false
    refHeight := 0 }

/-- R78. -/
def PhaseEngine.reset : PhaseEngine :=
  { leg := .setup, phi := 0#16, steps := 0#8, applied := { gait := .stand, cycle := 2000, step := 60 }, turn := none
    lead := false, wait := .none, period := none, claimT := none, unloadT := none, footholdT := none, loadT := none
    slipT := none, checkPending := false, timeoutPassed := false, stubs := 0, stubRise := false, watchArmed := false
    attempts := 0, deadlinePassed := false, replacing := false, loadPending := false, origin := none
    slipReported := false, ownSway := none }

/-- R113: n 0, margin 0, outcome fail and wait reason code NONE. -/
def CheckResult.reset : CheckResult := { pass := false, reason := .none, n := 0, margin := 0, sway := none }

/-- R113. -/
def SupportUnit.reset : SupportUnit := { checking := false, inFlight := none, last := CheckResult.reset }

/-- A cleared swing plan (R123). -/
def SwingPlan.reset : SwingPlan :=
  { startX := 0, startY := 0, targetX := 0, targetY := 0, z0 := 0, h := 0, kEnd := 0, k := 0 }

/-- A cleared stub state (R123). -/
def StubState.reset : StubState := { z := 0, k := 0, d0 := 0, j := 0 }

/-- A cleared re-place state (R123). -/
def RisePath.reset : RisePath := { sx := 0, sy := 0, sz := 0, dx := 0, dy := 0, j := 0 }

/-- The origin of the body frame. -/
def P3.zero : P3 := { x := 0, y := 0, z := 0 }

/-- R123, R135. -/
def Trajectory.reset : Trajectory :=
  { p := P3.zero, stanceZ := 0, lowering := false, plan := SwingPlan.reset, stub := StubState.reset
    rise := RisePath.reset, contact := P3.zero, stanceLimit := false, clampCond := false, measured := P3.zero
    driveLimit := false, tag := 0#8, lastZ := none, priorZ := none, pressing := false, setpoint := none
    line := [], sending := none, window := none, misses := 0#8, driveLost := false, driveFault := false, started := false
    frozen := false, descentStopped := false, pressFrozen := false, link := .waitIdle }

/-- R144. -/
def TxQueue.reset : TxQueue := { frames := [], dropped := 0#8 }

/-- R149. -/
def FaultUnit.reset : FaultUnit :=
  { flags := Vector.replicate 17 false, conds := Vector.replicate 17 false, clashStation := false
    clashPosition := false, first := none, alarmsInHold := 0#8, ring := [], lost := 0#8, retry := false }

/-- The node after full reset with the given straps, no command waiting. -/
def State.resetWith (station : Fin 8) (rate : Fin 4) : State :=
  { time := TimeBase.reset, sbi := Sbi.reset station rate, setup := SetupBlock.reset, pt := PeerTable.reset
    fsu := FootSense.reset, pe := PhaseEngine.reset, scu := SupportUnit.reset, tu := Trajectory.reset
    txq := TxQueue.reset, flt := FaultUnit.reset, pending := [] }

/-- The machine after full reset (R27), with the straps of Config. -/
def State.reset : State := State.resetWith Config.strapStation Config.strapRate

end Sys2Proof.Machine
end

