-- ==== Sys2Proof/Machine/Ops.lean ====
section
/-! DEFINITION. Shared operations: exact arithmetic with the roundings of 00_scope.md, saturating counts, timers, and the
passing of time (R1). -/

namespace Sys2Proof.Machine
open Sys2Proof

/-! ## Arithmetic -/

/-- "Clamped to": a value outside lo..hi is replaced by the nearer bound. -/
def clampInt (lo hi v : Int) : Int := if v < lo then lo else if hi < v then hi else v

/-- A count of 8 bits that goes up by one and saturates at 255. -/
def satInc (c : Byte) : Byte := if c = 255#8 then c else c + 1#8

/-- Rounded to the nearest integer, an exact half away from zero; the divisor is positive. -/
def roundHalfAway (n : Int) (d : Nat) : Int :=
  let m : Nat := (2 * n.natAbs + d) / (2 * d)
  if n < 0 then -(m : Int) else m

/-- One bit of the integer square root: keep bit `k` when the square still fits. -/
def sqrtStep (n r k : Nat) : Nat := if (r + 2 ^ k) * (r + 2 ^ k) ≤ n then r + 2 ^ k else r

/-- The greatest integer below `2 ^ k` above `r` whose square is at most `n`, bit by bit. -/
def sqrtBits (n : Nat) : Nat → Nat → Nat
  | 0, r => r
  | k + 1, r => sqrtBits n k (sqrtStep n r k)

/-- The floor of √n: the greatest integer whose square is at most n (R117). -/
def floorSqrt (n : Nat) : Nat := sqrtBits n (n.log2 / 2 + 1) 0

/-- The ceiling of √n: the least integer whose square is at least n (R116, R133). -/
def ceilSqrt (n : Nat) : Nat :=
  let r := floorSqrt n
  if r * r = n then r else r + 1

/-- A signed 16-bit field as an integer. -/
abbrev sgn (h : Half) : Int := h.toInt

/-! ## Constants of the rules, in microseconds -/

/-- The control period (R79). -/
def controlPeriodUs : Nat := 2000
/-- One advance of the epoch (R145). -/
def epochUs : Nat := 1000
/-- The claim timer (R89). -/
def claimUs : Nat := 20000
/-- The link watch (R72). -/
def linkWatchUs : Nat := 2000
/-- A Setpoint frame on the drive link: 100 bit times of 0.25 µs (R135). -/
def setpointUs : Nat := 25
/-- The answer window (R136). -/
def windowUs : Nat := 400
/-- Both clash watches (R14, R52). -/
def clashUs : Nat := 1000000
/-- The ageing read's multiple (R55). -/
def ageingUs : Nat := 1048576
/-- The interframe space in bit times (R7). -/
def interframeBits : Nat := 11
/-- The gap that truncates a frame, in bit times (R8). -/
def gapBits : Nat := 3
/-- The dominant run of a stuck line, in bit times (R24). -/
def stuckBits : Nat := 64

/-- A parameter in ms as a timer. -/
def msTimer (ms : Nat) : Timer := some (ms * 1000)

/-! ## Timers and the passing of time -/

/-- A running timer after `dt` µs; at 0 it is due (log entry 3). -/
def Timer.after (t : Timer) (dt : Nat) : Timer := t.map (· - dt)

/-- A timer that is due: its expiry may be taken now. -/
def due (t : Timer) : Bool := t == some 0

/-- Bit time of the stride bus in µs (R3). -/
def bitTimeUs (rate : Fin 4) : Nat := if rate = 0 then 4 else if rate = 1 then 2 else 1

/-- Whether the node is sending a frame (R18). -/
def transmitting (s : State) : Bool := s.sbi.tx == .arbitrating || s.sbi.tx == .sending

/-- The transmit side after `dt` µs: the start bit and the 8 data bits of the claim byte are ARBITRATING, what follows is
SENDING (R18; log entry 10); the bit of an aborted frame runs to its end (R21). -/
def Sbi.after (b : Sbi) (dt : Nat) : Sbi :=
  let c := { b with finishing := b.finishing - dt }
  match b.tx with
  | .arbitrating =>
    { c with txElapsed := b.txElapsed + dt
             tx := if 9 * bitTimeUs b.rateCode ≤ b.txElapsed + dt then .sending else .arbitrating }
  | .sending => { c with txElapsed := b.txElapsed + dt }
  | _ => c

/-- The Time Base after `dt` µs (R1, R145). -/
def TimeBase.after (t : TimeBase) (dt : Nat) : TimeBase :=
  { t with us := t.us + BitVec.ofNat 32 dt, epochTimer := t.epochTimer.after dt }

/-- The Phase Engine's timers after `dt` µs (R78, R79). -/
def PhaseEngine.after (p : PhaseEngine) (dt : Nat) : PhaseEngine :=
  { p with period := p.period.after dt, claimT := p.claimT.after dt, unloadT := p.unloadT.after dt
           footholdT := p.footholdT.after dt, loadT := p.loadT.after dt, slipT := p.slipT.after dt }

/-- `dt` µs pass: the microsecond counter and every running timer move, nothing else (R1; log entry 1). -/
def elapse (s : State) (dt : Nat) : State :=
  { s with
    time := s.time.after dt
    sbi := s.sbi.after dt
    pe := s.pe.after dt
    fsu := { s.fsu with watch := s.fsu.watch.after dt }
    tu := { s.tu with sending := s.tu.sending.after dt, window := s.tu.window.after dt } }

/-- The age of a time tag: (now − tag) mod 2³² (R1, R53). -/
def ageOf (s : State) (tag : Micros) : Nat := (s.time.us - tag).toNat

/-- Whether 1000 ms have passed since the time a clash watch holds (R14, R52). -/
def watchPassed (s : State) (w : Option Micros) : Bool :=
  match w with
  | some t => decide (clashUs ≤ ageOf s t)
  | none => false

end Sys2Proof.Machine
end

