-- ==== Sys2Proof/Machine/Operands.lean ====
section
/-! DEFINITION. What the commands read as operands: the parameter words by name (R31, R32), the roster, the quantities
derived from the applied record (R81), the leg relations (R57, R58), and the groups of leg states. -/

namespace Sys2Proof

/-- β, the stance fraction (R81). -/
def Gait.beta : Gait → Nat
  | .diagonal => 32768
  | _ => 49152

/-! ## Groups of leg states -/

/-- The walking states (section 5.1). -/
def LegState.walking : LegState → Bool
  | .setup => false
  | .ready => false
  | _ => true

/-- The states in which a neighbour counts as moving (R86, condition 7). -/
def LegState.moving : LegState → Bool
  | .claim => true | .unload => true | .swing => true | .search => true | .load => true
  | _ => false

/-- The states in which the foot carries stance motion and sway (R119, R125, R128). -/
def LegState.standing : LegState → Bool
  | .stance => true | .claim => true | .unload => true
  | _ => false

/-- The states past CLAIM in which the leg is stepping (R73, R110). -/
def LegState.stepping : LegState → Bool
  | .unload => true | .swing => true | .search => true | .load => true
  | _ => false

end Sys2Proof

namespace Sys2Proof.Machine
open Sys2Proof

/-! ## Parameter words (R31, R32) -/

/-- A parameter word read as unsigned. -/
def State.uword (s : State) (i : Fin 54) : Nat := (s.setup.words[i]).toNat

/-- A parameter word read as signed. -/
def State.sword (s : State) (i : Fin 54) : Int := (s.setup.words[i]).toInt

/-- LEG_POS. -/
def State.legPos (s : State) : LegPos := legPosOfCode (s.uword 0)
/-- NEUTRAL_X, mm. -/
def State.neutralX (s : State) : Int := s.sword 2
/-- NEUTRAL_Y, mm. -/
def State.neutralY (s : State) : Int := s.sword 3
/-- NEUTRAL_Z, mm. -/
def State.neutralZ (s : State) : Int := s.sword 4
/-- BOX_X_MIN, mm. -/
def State.boxXMin (s : State) : Int := s.sword 5
/-- BOX_X_MAX, mm. -/
def State.boxXMax (s : State) : Int := s.sword 6
/-- BOX_Y_MIN, mm. -/
def State.boxYMin (s : State) : Int := s.sword 7
/-- BOX_Y_MAX, mm. -/
def State.boxYMax (s : State) : Int := s.sword 8
/-- BOX_Z_MIN, mm. -/
def State.boxZMin (s : State) : Int := s.sword 9
/-- BOX_Z_MAX, mm. -/
def State.boxZMax (s : State) : Int := s.sword 10
/-- MARGIN_M, mm. -/
def State.marginM (s : State) : Nat := s.uword 11
/-- CORRIDOR_W, mm. -/
def State.corridorW (s : State) : Nat := s.uword 12
/-- SWAY_MAX, mm. -/
def State.swayMax (s : State) : Nat := s.uword 13
/-- SWAY_RATE, mm/s. -/
def State.swayRate (s : State) : Nat := s.uword 14
/-- T_TOUCH, 0.5 N. -/
def State.tTouch (s : State) : Nat := s.uword 15
/-- T_LOADED, 0.5 N. -/
def State.tLoaded (s : State) : Nat := s.uword 16
/-- T_UNLOAD, 0.5 N. -/
def State.tUnload (s : State) : Nat := s.uword 17
/-- HYST, 0.5 N. -/
def State.hyst (s : State) : Nat := s.uword 18
/-- MU, 1/256. -/
def State.mu (s : State) : Nat := s.uword 19
/-- SLIP_COUNT, samples. -/
def State.slipCount (s : State) : Nat := s.uword 20
/-- SLIP_LIMIT, ms. -/
def State.slipLimit (s : State) : Nat := s.uword 21
/-- FILTER_N, taps − 1. -/
def State.filterN (s : State) : Nat := s.uword 22
/-- COEF_k, Q1.15. -/
def State.coef (s : State) (k : Fin 16) : Int := s.sword ⟨23 + k.val, by omega⟩
/-- STALE_MS, ms. -/
def State.staleMs (s : State) : Nat := s.uword 39
/-- REPORT_PERIOD, ms. -/
def State.reportPeriod (s : State) : Nat := s.uword 40
/-- REPORT_OFFSET, ms. -/
def State.reportOffset (s : State) : Nat := s.uword 41
/-- DETAIL_PERIOD, ms, 0 for off. -/
def State.detailPeriod (s : State) : Nat := s.uword 42
/-- FOOTHOLD_F, eighths. -/
def State.footholdF (s : State) : Nat := s.uword 43
/-- SEARCH_DEPTH, mm. -/
def State.searchDepth (s : State) : Nat := s.uword 44
/-- SEARCH_SPEED, mm/s. -/
def State.searchSpeed (s : State) : Nat := s.uword 45
/-- REPLACE_STEP, mm. -/
def State.replaceStep (s : State) : Nat := s.uword 46
/-- REPLACE_MAX, count. -/
def State.replaceMax (s : State) : Nat := s.uword 47
/-- STUB_LIFT, mm. -/
def State.stubLift (s : State) : Nat := s.uword 48
/-- UNLOAD_MS, ms. -/
def State.unloadMs (s : State) : Nat := s.uword 49
/-- LOAD_MS, ms. -/
def State.loadMs (s : State) : Nat := s.uword 50
/-- TILT_LIMIT, mrad. -/
def State.tiltLimit (s : State) : Nat := s.uword 51
/-- EVENT_MASK. -/
def State.eventMask (s : State) : Half := s.setup.words[52]
/-- INTENT_STALE, ms. -/
def State.intentStale (s : State) : Nat := s.uword 53

/-! ## The roster (R31) -/

/-- The role that a roster word gives a station: bits 2n+1 and 2n. -/
def roleIn (w : Half) (n : Fin 8) : Role := roleOfCode (w.toNat / 4 ^ n.val)

/-- The role of a station in the stored roster. -/
def State.role (s : State) (n : Fin 8) : Role := roleIn s.setup.words[1] n

/-- The eight station numbers, lowest first. -/
def stations : List (Fin 8) := List.finRange 8

/-- The station of a role that the roster names at most once (R33), if there is one. -/
def State.stationOf (s : State) (r : Role) : Option (Fin 8) := stations.find? fun n => s.role n == r

/-! ## Quantities derived from the applied record (R81) -/

/-- T_st, the stance time in ms, floored. -/
def Applied.tSt (a : Applied) : Nat := a.gait.beta * a.cycle / 65536

/-- T_sw, the swing time in ms. -/
def Applied.tSw (a : Applied) : Nat := a.cycle - a.tSt

/-- Δ, the phase step of a control period, floored. -/
def Applied.delta (a : Applied) : Nat := 131072 / a.cycle

/-- β under the gait applied, as a phase. -/
def State.beta (s : State) : BitVec 16 := BitVec.ofNat 16 s.pe.applied.gait.beta

/-- The foothold deadline: floor(T_sw × FOOTHOLD_F / 8) ms (R93). -/
def State.footholdMs (s : State) : Nat := s.pe.applied.tSw * s.footholdF / 8

/-! ## Leg relations (R57, R58, R84, R85) -/

/-- How a leg peer stands to the node (R57). -/
inductive Relation where
  | same | lateral | ipsilateral | diagonal
  deriving DecidableEq, Repr

/-- The relation of two leg positions (R57). -/
def relation : LegPos → LegPos → Relation
  | .lf, .lf => .same | .lf, .rf => .lateral | .lf, .lh => .ipsilateral | .lf, .rh => .diagonal
  | .rf, .rf => .same | .rf, .lf => .lateral | .rf, .rh => .ipsilateral | .rf, .lh => .diagonal
  | .lh, .lh => .same | .lh, .rh => .lateral | .lh, .lf => .ipsilateral | .lh, .rf => .diagonal
  | .rh, .rh => .same | .rh, .lh => .lateral | .rh, .rf => .ipsilateral | .rh, .lf => .diagonal

/-- Whether a relation is exclusive under a gait (R58). -/
def exclusiveUnder (g : Gait) : Relation → Bool
  | .lateral => true
  | .ipsilateral => true
  | .diagonal => g != .diagonal
  | .same => false

/-- The leg positions in the order of their codes. -/
def legPositions : List LegPos := [.lf, .rf, .lh, .rh]

/-- The positions exclusive to the node's own under the gait applied (R58). -/
def State.exclusivePositions (s : State) : List LegPos :=
  legPositions.filter fun p => exclusiveUnder s.pe.applied.gait (relation s.legPos p)

/-- The predecessor of a leg position under a gait (R84). -/
def predecessor : Gait → LegPos → Option LegPos
  | .stand, _ => none
  | .crawl, .lf => some .lh
  | .crawl, .rf => some .rh
  | .crawl, .lh => some .rf
  | .crawl, .rh => some .lf
  | .diagonal, .lf => some .rf
  | .diagonal, .rf => some .lf
  | .diagonal, .lh => some .rh
  | .diagonal, .rh => some .lh

/-- The lead positions of a gait (R84). -/
def isLead : Gait → LegPos → Bool
  | .crawl, .lh => true
  | .diagonal, .lf => true
  | .diagonal, .rh => true
  | _, _ => false

end Sys2Proof.Machine
end

