-- ==== Sys2Proof/Machine/Queue.lean ====
section
/-! DEFINITION. The Transmit Queue (R140 to R143): order, supersede and drop rules, the removal of a Lift Notice, and what
the owner of a lost frame is told (R107, R142, R159). -/

namespace Sys2Proof.Machine
open Sys2Proof

/-- An unlocked frame of the node: claim byte of the kind and the station, and a payload. -/
def State.newFrame (s : State) (k : FrameKind) (payload : List Byte) : TxFrame :=
  { claim := claimByte k s.sbi.station, payload := payload, locked := false }

/-- The kind of a frame the node sends. -/
def TxFrame.kind (f : TxFrame) : Option FrameKind := kindOfCode (claimCode f.claim)

/-- A Lift Notice: a Phase Notice with code LIFT (R141). -/
def TxFrame.isLift (f : TxFrame) : Bool :=
  f.kind == some .phaseNotice && (byteAt f.payload 1).toNat == Notice.lift.code

/-- An Event frame. -/
def TxFrame.isEvent (f : TxFrame) : Bool := f.kind == some .event

/-- Frames of one kind for R141; for a Diagnostic, of the same block number. -/
def sameSlot (f g : TxFrame) : Bool :=
  f.kind == g.kind && (f.kind != some .diagnostic || byteAt f.payload 0 == byteAt g.payload 0)

/-- A new frame enters behind the frames of lower or equal claim value (R140). -/
def insertFrame (f : TxFrame) : List TxFrame → List TxFrame
  | [] => [f]
  | g :: rest => if f.claim < g.claim then f :: g :: rest else g :: insertFrame f rest

/-- Of the unlocked frames of the highest claim value, the one placed last: its place in the list and itself (R142). -/
def victim : List TxFrame → Option (Nat × TxFrame)
  | [] => none
  | g :: rest =>
    match victim rest with
    | none => if g.locked then none else some (0, g)
    | some (i, v) => if !g.locked && decide (v.claim < g.claim) then some (0, g) else some (i + 1, v)

/-- The most frames the queue holds (R140). -/
def queueMax : Nat := 8

/-- A frame not settled by R141 is placed: it enters, or a full queue loses a frame and counts it (R142). The second
component is the frame that left or was dropped. -/
def TxQueue.takeIn (q : TxQueue) (f : TxFrame) : TxQueue × Option TxFrame :=
  if q.frames.length < queueMax then ({ q with frames := insertFrame f q.frames }, none)
  else
    match victim q.frames with
    | some (i, v) =>
      if f.claim < v.claim then
        ({ frames := insertFrame f (q.frames.eraseIdx i), dropped := satInc q.dropped }, some v)
      else ({ q with dropped := satInc q.dropped }, some f)
    | none => ({ q with dropped := satInc q.dropped }, some f)

/-- A frame is placed (R140 to R142). The second component is the frame that left or was dropped by R142. -/
def TxQueue.place (q : TxQueue) (f : TxFrame) : TxQueue × Option TxFrame :=
  match f.kind with
  | some .alarm => if q.frames.any (sameSlot f) then (q, none) else q.takeIn f
  | some .legReport | some .footDetail | some .diagnostic =>
    match q.frames.find? (sameSlot f) with
    | some held =>
      if held.locked then (q, none)
      else ({ q with frames := q.frames.map fun g => if sameSlot f g then f else g }, none)
    | none => q.takeIn f
  | _ => q.takeIn f

/-- The head frame is locked (R140). -/
def lockHead : List TxFrame → List TxFrame
  | [] => []
  | f :: rest => { f with locked := true } :: rest

/-- The locked frame leaves (completion or abort, R140). -/
def dropLocked (l : List TxFrame) : List TxFrame := l.filter fun f => !f.locked

/-- The locked frame is unlocked and stays in its place (loss of arbitration, R140). -/
def unlockAll (l : List TxFrame) : List TxFrame := l.map fun f => { f with locked := false }

/-! ## The Phase Engine's part: wait reason and claim return -/

/-- The wait reason takes a value; the own sway request is present only while it is MARGIN (R118). -/
def PhaseEngine.withWait (p : PhaseEngine) (w : WaitReason) : PhaseEngine :=
  { p with wait := w, ownSway := if w = .margin then p.ownSway else none }

/-- A change of leg state, which clears the check-pending mark (R87). -/
def PhaseEngine.enter (p : PhaseEngine) (l : LegState) : PhaseEngine := { p with leg := l, checkPending := false }

/-- The claim return of R92: from CLAIM to STANCE with CLAIM_LOST, φ at β, no notice. -/
def claimReturn (s : State) : State :=
  { s with pe := ({ s.pe.enter .stance with claimT := none, timeoutPassed := false, phi := s.beta }).withWait
                   .claimLost }

/-- The Phase Engine is told "claim failed" (R107); out of CLAIM it changes nothing (R109). -/
def claimFailed (s : State) : State := if s.pe.leg = .claim then claimReturn s else s

/-- The Lift Notice leaves the queue at the request, locked or not (R143). -/
def removeLift (s : State) : State :=
  { s with txq := { s.txq with frames := s.txq.frames.filter fun f => !f.isLift } }

/-- Whether the Lift Notice in the queue is locked (R108). -/
def liftLocked (s : State) : Bool := s.txq.frames.any fun f => f.isLift && f.locked

/-- The owner of a frame that left or was dropped is told (R142): the Phase Engine for a Lift Notice, the Fault Unit, which
sets the retry mark, for an Event frame (R159). -/
def tellLost (s : State) (f : TxFrame) : State :=
  if f.isLift then claimFailed s
  else if f.isEvent then { s with flt := { s.flt with retry := true } }
  else s

/-- A block places a frame in the Transmit Queue. -/
def placeFrame (s : State) (f : TxFrame) : State :=
  match s.txq.place f with
  | (q, none) => { s with txq := q }
  | (q, some lost) => tellLost { s with txq := q } lost

/-- A Phase Notice as R94 builds it. -/
def State.noticeFrame (s : State) (n : Notice) (named : Byte) : TxFrame :=
  s.newFrame .phaseNotice
    [BitVec.ofNat 8 (s.legPos.code * 64 + s.pe.leg.code * 8 + s.pe.applied.gait.code * 2 + s.fsu.slipping.toNat),
     BitVec.ofNat 8 n.code, s.pe.steps, named]

/-- The Phase Engine hands the Transmit Queue a Phase Notice that names no station. -/
def handNotice (s : State) (n : Notice) : State := placeFrame s (s.noticeFrame n 0xFF#8)

end Sys2Proof.Machine
end

