-- ==== Sys2Proof/Machine/Flags.lean ====
section
/-! DEFINITION. The Fault Unit: codes and classes (R26), flags, conditions and first-fault record (R149 to R151), the
consequences of a class-A fault and HOLD entry (R105, R152), and the event ring (R158, R159). -/

namespace Sys2Proof.Machine
open Sys2Proof

/-- The place of a fault in the table of 9.2. -/
def FaultCode.idx : FaultCode → Fin 17
  | .driveFault => 0 | .driveLost => 1 | .noFoothold => 2 | .slipPersist => 3 | .tilt => 4 | .clash => 5
  | .busStuck => 6 | .overlap => 7 | .footLinkLost => 8 | .forceStuck => 9 | .filterLimit => 10 | .peerSilent => 11
  | .bodySilent => 12 | .intentSilent => 13 | .weakFoothold => 14 | .workspaceClamp => 15 | .setupClamped => 16

/-- Class A: codes 0x01 to 0x08 (R26). -/
def FaultCode.classA (c : FaultCode) : Bool := decide (c.idx.val < 8)

/-- The cause code of a fault (R26): 0x01 to 0x08 for class A, 0x11 to 0x19 for class B. -/
def FaultCode.code (c : FaultCode) : Byte :=
  BitVec.ofNat 8 (if c.classA then c.idx.val + 1 else c.idx.val + 9)

/-- The events of R158; an alarm carries its source station. -/
inductive EventKind where
  | faultLatched | peerSilent | holdEntered | resumeTaken | resumeRefused | faultsCleared
  | alarmFrom (station : Fin 8) | alarmsDuringHold
  | lineRecovered | stationClash | positionClash
  | contactDegraded | contactRestored
  | startRefused | intentClamped | unloadStuck | rePlace
  | namedInConflict
  | test
  deriving DecidableEq, Repr

/-- Event codes (R158). -/
def EventKind.code : EventKind → Nat
  | .faultLatched => 0x01 | .peerSilent => 0x02 | .holdEntered => 0x03 | .resumeTaken => 0x05 | .resumeRefused => 0x06
  | .faultsCleared => 0x07 | .alarmFrom st => 0x08 + st.val | .alarmsDuringHold => 0x10
  | .lineRecovered => 0x20 | .stationClash => 0x21 | .positionClash => 0x22
  | .contactDegraded => 0x30 | .contactRestored => 0x31
  | .startRefused => 0x40 | .intentClamped => 0x41 | .unloadStuck => 0x42 | .rePlace => 0x43
  | .namedInConflict => 0x50
  | .test => 0x60

/-- The bit of an event's category in EVENT_MASK (R31, R158). -/
def EventKind.categoryBit : EventKind → Nat
  | .lineRecovered => 0 | .stationClash => 0 | .positionClash => 0
  | .contactDegraded => 1 | .contactRestored => 1
  | .startRefused => 2 | .intentClamped => 2 | .unloadStuck => 2 | .rePlace => 2
  | .namedInConflict => 3
  | .test => 5
  | _ => 4

/-- The most records the ring holds (R158). -/
def ringMax : Nat := 16

/-- Whether an event's category is let in (R28, R158): every category before setup completion, the mask after it. -/
def eventAllowed (s : State) (e : EventKind) : Bool := s.pe.leg == .setup || s.eventMask.getLsbD e.categoryBit

/-- The Event frame of a ring record (R26, R159). -/
def State.eventFrame (s : State) (r : EventRecord) : TxFrame :=
  s.newFrame .event [r.code, r.detail, hiByte r.epoch, loByte r.epoch]

/-- The Fault Unit offers an Event frame for the oldest record when the ring is not empty, no Event frame is held in the
queue and the retry mark is clear (R159). -/
def offerEvent (s : State) : State :=
  match s.flt.ring with
  | [] => s
  | r :: _ =>
    if s.txq.frames.any TxFrame.isEvent || s.flt.retry then s else placeFrame s (s.eventFrame r)

/-- An event that is let in is added to the ring, or is counted as lost if the ring is full (R158). -/
def addRecord (s : State) (e : EventKind) (detail : Byte) : State :=
  if s.flt.ring.length < ringMax then
    { s with flt := { s.flt with
        ring := s.flt.ring ++ [{ code := BitVec.ofNat 8 e.code, detail := detail, epoch := s.time.epoch }] } }
  else { s with flt := { s.flt with lost := satInc s.flt.lost } }

/-- A block has an event recorded (R158), and the ring is offered to the queue (R159). -/
def recordEvent (s : State) (e : EventKind) (detail : Byte) : State :=
  if eventAllowed s e then offerEvent (addRecord s e detail) else s

/-- Whether a fault's flag is latched. -/
def latched (s : State) (c : FaultCode) : Bool := s.flt.flags[c.idx]

/-- Whether a fault's condition is active. -/
def active (s : State) (c : FaultCode) : Bool := s.flt.conds[c.idx]

/-- Whether some class-A flag is latched. -/
def classALatched (s : State) : Bool := (List.finRange 17).any fun i => decide (i.val < 8) && s.flt.flags[i]

/-- Whether some class-B flag is latched. -/
def classBLatched (s : State) : Bool := (List.finRange 17).any fun i => decide (8 ≤ i.val) && s.flt.flags[i]

/-- The number of flags latched. -/
def latchedCount (s : State) : Nat := ((List.finRange 17).filter fun i => s.flt.flags[i]).length

/-- The lowest latched class-A code, 0 if none (R156). -/
def lowestClassA (s : State) : Byte :=
  match (List.finRange 17).find? fun i => decide (i.val < 8) && s.flt.flags[i] with
  | some i => BitVec.ofNat 8 (i.val + 1)
  | none => 0#8

/-- Which of the three axes a report names (R65, R128). -/
structure Axes where
  x : Bool
  y : Bool
  z : Bool
  deriving DecidableEq, Repr

/-- Whether some axis is among them. -/
def Axes.any (a : Axes) : Bool := a.x || a.y || a.z

/-- What a block reports, with the detail that the report carries: PEER_SILENT the silent station (R54); a station clash the
clashing frame's kind and arrival time tag (R14), a position clash the source station and the leg position carried (R52);
FILTER_LIMIT and WORKSPACE_CLAMP the axes (R65, R128); OVERLAP the station that sent the CONFLICT (R111); DRIVE_FAULT whether
its detail is OFF (R138). The Fault Unit holds of it what R149 and R150 name, the silent station, the kind and the source
station of a clash. DESIGN CHOICE (log entries 34, 35, 36): no rule says where it holds or shows the time tag, the leg
position, the axes, OVERLAP's station and the detail OFF, and here it does so nowhere. -/
inductive Report where
  | plain (c : FaultCode)
  | peerSilent (station : Fin 8)
  | stationClash (kind : FrameKind) (arrival : Micros)
  | positionClash (station : Fin 8) (pos : LegPos)
  | filterLimit (limited : Axes)
  | workspaceClamp (clamped : Axes)
  | overlap (station : Fin 8)
  | driveFault (off : Bool)
  deriving DecidableEq, Repr

/-- The fault that a report is of. -/
def Report.fault : Report → FaultCode
  | .plain c => c
  | .peerSilent _ => .peerSilent
  | .stationClash _ _ => .clash
  | .positionClash _ _ => .clash
  | .filterLimit _ => .filterLimit
  | .workspaceClamp _ => .workspaceClamp
  | .overlap _ => .overlap
  | .driveFault _ => .driveFault

/-- Step 1 of R150: the condition, and for CLASH its source, becomes active. -/
def raiseCondition (s : State) (r : Report) : State :=
  { s with flt := { s.flt with
      conds := s.flt.conds.set r.fault.idx true
      clashStation := s.flt.clashStation || (match r with | .stationClash _ _ => true | _ => false)
      clashPosition := s.flt.clashPosition || (match r with | .positionClash _ _ => true | _ => false) } }

/-- Step 2 of R150: a clear flag is latched, and an empty first-fault record takes the code and the epoch. -/
def latchFlag (s : State) (c : FaultCode) : State :=
  if latched s c then s
  else
    { s with flt := { s.flt with
        flags := s.flt.flags.set c.idx true
        first := match s.flt.first with
          | none => some { code := c, epoch := s.time.epoch }
          | some f => some f } }

/-- Step 3 of R150, with the BUS event that a CLASH source adds when it goes from ended to active (log entry 13). `before`
is the state before the report. -/
def reportEvents (before s : State) (r : Report) : State :=
  let s := match r with
    | .peerSilent st => recordEvent s .peerSilent (BitVec.ofNat 8 st.val)
    | _ => if latched before r.fault then s else recordEvent s .faultLatched r.fault.code
  match r with
  | .stationClash k _ => if before.flt.clashStation then s else recordEvent s .stationClash (BitVec.ofNat 8 k.code)
  | .positionClash st _ => if before.flt.clashPosition then s else recordEvent s .positionClash (BitVec.ofNat 8 st.val)
  | _ => s

/-- The cause code HOLD_PERSISTS (R26). -/
def holdPersists : Byte := 0x20#8

/-- The Fault Unit places an Alarm with a cause and a detail. -/
def placeAlarm (s : State) (cause detail : Byte) : State := placeFrame s (s.newFrame .alarm [cause, detail])

/-- HOLD entry (R105): origin recorded, timers stopped, wait reason NONE, and the HOLD motion marks of R154: a descent does
not begin on a foot already in contact. -/
def enterHold (s : State) : State :=
  let o := s.pe.leg
  { s with
    pe := ({ s.pe.enter .hold with
              origin := some o, claimT := none, unloadT := none, footholdT := none, loadT := none, slipT := none
              timeoutPassed := false }).withWait .none
    tu := { s.tu with
              descentStopped := (o == .swing || o == .search) && s.fsu.contact != .air
              pressFrozen := false } }

/-- The Fault Unit directs the Phase Engine to HOLD (R105); a leg in HOLD keeps its origin, and a leg that does not walk is
not directed. With origin CLAIM the Lift Notice is removed (R109, R143). -/
def directHold (s : State) : State :=
  if s.pe.leg.walking && s.pe.leg != .hold then
    if s.pe.leg = .claim then enterHold (removeLift s) else enterHold s
  else s

/-- The consequences of a class-A report (R152). -/
def classAConsequence (s : State) (c : FaultCode) : State :=
  if s.pe.leg.walking && s.pe.leg != .hold then
    let code := BitVec.ofNat 8 s.pe.leg.code
    recordEvent (directHold (placeAlarm s c.code code)) .holdEntered code
  else s

/-- A block reports a fault to the Fault Unit (R150). -/
def reportFault (s : State) (r : Report) : State :=
  let t := reportEvents s (latchFlag (raiseCondition s r) r.fault) r
  if r.fault.classA then classAConsequence t r.fault else t

/-- A block reports the end of a condition other than CLASH (R151). -/
def endFault (s : State) (c : FaultCode) : State :=
  { s with flt := { s.flt with conds := s.flt.conds.set c.idx false } }

/-- The end of the station source of CLASH (R14, R151). -/
def endStationClash (s : State) : State :=
  { s with flt := { s.flt with
      clashStation := false, conds := s.flt.conds.set FaultCode.clash.idx s.flt.clashPosition } }

/-- The end of the position source of CLASH (R52, R151). -/
def endPositionClash (s : State) : State :=
  { s with flt := { s.flt with
      clashPosition := false, conds := s.flt.conds.set FaultCode.clash.idx s.flt.clashStation } }

/-- A fault that is an occurrence: its condition becomes active and ends within the report (R151). -/
def reportOccurrence (s : State) (r : Report) : State := endFault (reportFault s r) r.fault

end Sys2Proof.Machine
end

