-- ==== Sys2Proof/Machine/Peer.lean ====
section
/-! DEFINITION. The Peer Table: reads and staleness (R53 to R56), the effective intent (R50), leg positions and clashes
(R51, R52), storage of each frame kind (R43 to R49), the tilt test (R47). -/

namespace Sys2Proof.Machine
open Sys2Proof

/-! ## Records -/

/-- The record of a station. -/
def State.record (s : State) (n : Fin 8) : Option Record := s.pt.records[n]

/-- Write the record of a station. -/
def setRecord (s : State) (n : Fin 8) (r : Option Record) : State :=
  { s with pt := { s.pt with records := s.pt.records.set n r } }

/-- The LEG part of a record, if it holds one. -/
def Record.legPart (r : Record) : Option LegPart :=
  match r.part with
  | .leg l => some l
  | _ => none

/-- The LEG part of a station's present record. -/
def State.legOf (s : State) (n : Fin 8) : Option LegPart := (s.record n).bind Record.legPart

/-- Every reader passes over the node's own record (R41). -/
def State.peers (s : State) : List (Fin 8) := stations.filter fun n => n != s.sbi.station

/-- The staleness limit of a record in µs, by its role (R53). -/
def staleLimit (s : State) (r : Record) : Nat :=
  match r.part with
  | .mission _ => s.intentStale * 1000
  | _ => s.staleMs * 1000

/-- A new stale mark raises the silence fault of the record's role (R54). -/
def raiseSilence (s : State) (n : Fin 8) (p : Part) : State :=
  match p with
  | .leg _ => reportFault { s with pt := { s.pt with peerSilent := true } } (.peerSilent n)
  | .body _ => reportFault { s with pt := { s.pt with bodySilent := true } } (.plain .bodySilent)
  | .mission _ => reportFault { s with pt := { s.pt with intentSilent := true } } (.plain .intentSilent)

/-- The judgement that a read of a station's record makes (R53): a present record whose age is greater than its limit, and
whose mark is clear, is marked and raises its silence fault. -/
def judge (s : State) (n : Fin 8) : State :=
  match s.record n with
  | none => s
  | some r =>
    if r.stale then s
    else if staleLimit s r < ageOf s r.tag then
      raiseSilence (setRecord s n (some { r with stale := true })) n r.part
    else s

/-- Whether a station's record, once judged, is present and fresh. -/
def fresh (s : State) (n : Fin 8) : Bool :=
  match s.record n with
  | some r => !r.stale
  | none => false

/-- The LEG part of a station's record if, once judged, it is present and fresh. -/
def freshLeg (s : State) (n : Fin 8) : Option LegPart := if fresh s n then s.legOf n else none

/-- The peer whose present LEG record holds a position (R56). -/
def State.peerAt (s : State) (p : LegPos) : Option (Fin 8) :=
  s.peers.find? fun n => match s.legOf n with
    | some l => l.pos == p
    | none => false

/-- A read by leg position judges the record it finds (R56). -/
def judgeAt (s : State) (p : LegPos) : State :=
  match s.peerAt p with
  | some n => judge s n
  | none => s

/-- The LEG part found at a position, fresh or stale. -/
def State.legAt (s : State) (p : LegPos) : Option LegPart := (s.peerAt p).bind s.legOf

/-- The LEG part found at a position, if fresh. -/
def State.freshLegAt (s : State) (p : LegPos) : Option LegPart := (s.peerAt p).bind (freshLeg s)

/-- Read every present LEG record of a peer, lowest station first (log entry 11). -/
def judgeLegs (s : State) : State :=
  s.peers.foldl (fun t n => if (t.legOf n).isSome then judge t n else t) s

/-- Read the record of the station that the roster gives a role (BODY or MISSION). -/
def judgeRole (s : State) (r : Role) : State :=
  match s.stationOf r with
  | some n => judge s n
  | none => s

/-! ## Effective intent (R50) -/

/-- The intent that every block walks by. -/
structure EffIntent where
  gait   : Gait
  vx     : Int
  vy     : Int
  omega  : Int
  cycle  : Nat
  step   : Nat
  offset : Int
  deriving DecidableEq, Repr

/-- The standing default (R50, case 2). -/
def standingDefault : EffIntent :=
  { gait := .stand, vx := 0, vy := 0, omega := 0, cycle := 2000, step := 60, offset := 0 }

/-- The effective intent of a stored MISSION part: velocities are zero in STAND (R50, case 1). -/
def MissionPart.effective (m : MissionPart) : EffIntent :=
  let still := m.gait == .stand
  { gait := m.gait, vx := if still then 0 else m.vx, vy := if still then 0 else m.vy
    omega := if still then 0 else m.omega, cycle := m.cycle, step := m.step, offset := m.offset }

/-- The effective intent, from a MISSION record that has been judged (R50). -/
def effIntent (s : State) : EffIntent :=
  match s.stationOf .mission with
  | none => standingDefault
  | some n =>
    match s.record n with
    | some r =>
      if r.stale then standingDefault
      else match r.part with
        | .mission m => m.effective
        | _ => standingDefault
    | none => standingDefault

/-! ## Leg positions and clashes (R51, R52) -/

/-- The leg position that a Leg Report or Phase Notice carries. -/
def carriedPos (f : RxFrame) : LegPos := legPosOfCode ((f.b 0).toNat / 64)

/-- Whether a frame with this position from this source clashes (R51). -/
def positionClashes (s : State) (src : Fin 8) (p : LegPos) : Bool :=
  p == s.legPos || s.peers.any fun n => n != src && (match s.legOf n with
    | some l => l.pos == p
    | none => false)

/-- A clashing frame goes to the clash watch (R52): the first is reported, with its source and the position it carried, and
each restarts the watch. -/
def positionClash (s : State) (src : Fin 8) (p : LegPos) : State :=
  let t := if s.pt.clashWatch.isNone then reportFault s (.positionClash src p) else s
  { t with pt := { t.pt with clashWatch := some s.time.us } }

/-! ## Storage (R43 to R49) -/

/-- Whether some peer's LEG record carries a stale mark (R54). -/
def anyLegMarked (s : State) : Bool :=
  s.peers.any fun n => match s.record n with
    | some r => r.stale && r.legPart.isSome
    | none => false

/-- A stored frame that leaves a silence condition without a mark ends it (R54). -/
def silenceEnd (s : State) (role : Role) : State :=
  match role with
  | .leg =>
    if s.pt.peerSilent && !anyLegMarked s then
      endFault { s with pt := { s.pt with peerSilent := false } } .peerSilent
    else s
  | .body =>
    if s.pt.bodySilent then endFault { s with pt := { s.pt with bodySilent := false } } .bodySilent else s
  | .mission =>
    if s.pt.intentSilent then endFault { s with pt := { s.pt with intentSilent := false } } .intentSilent else s
  | .absent => s

/-- Store a part with the arrival's time tag: the record is present and its stale mark is clear (section 3.2). -/
def storePart (s : State) (src : Fin 8) (guard : Bool) (p : Part) (role : Role) : State :=
  silenceEnd (setRecord s src (some { tag := s.time.us, stale := false, guard := guard, part := p })) role

/-- The LEG part that a Leg Report carries (R43, layout of R26). -/
def decodeLegReport (f : RxFrame) : LegPart :=
  let w := (f.b 1).extractLsb' 2 4
  { pos := carriedPos f
    state := legStateOfCode ((f.b 0).toNat / 8)
    slip := (f.b 0).getLsbD 0
    contact := contactOfCode ((f.b 1).toNat / 64)
    wait := w
    steps := f.b 3
    footX := halfAt f.payload 4
    footY := halfAt f.payload 6
    sway := if w.toNat = WaitReason.margin.code then some { x := f.b 10, y := f.b 11 } else none
    stanceLimit := (f.b 12).getLsbD 7 }

/-- The notice guard keeps the three held fields of the record (R45). -/
def LegPart.keepHeld (new old : LegPart) : LegPart :=
  { new with state := old.state, slip := old.slip, steps := old.steps }

/-- A Leg Report that passes the position test is stored (R43); a set notice guard excepts the held fields and is ended
(R45). -/
def storeLegReport (s : State) (src : Fin 8) (f : RxFrame) : State :=
  let new := decodeLegReport f
  let part := match s.record src with
    | some r => if r.guard then (match r.legPart with | some old => new.keepHeld old | none => new) else new
    | none => new
  storePart s src false (.leg part) .leg

/-- The LEG part of a record that a Phase Notice makes present (R44). -/
def LegPart.empty (p : LegPos) : LegPart :=
  { pos := p, state := .ready, slip := false, contact := .air, wait := 0#4, steps := 0#8, footX := 0#16, footY := 0#16
    sway := none, stanceLimit := false }

/-- The state that a Phase Notice gives the record: STANCE for WITHDRAW, otherwise the state of b0 (R44). -/
def noticeState (f : RxFrame) : LegState :=
  if (f.b 1).toNat = Notice.withdraw.code then .stance else legStateOfCode ((f.b 0).toNat / 8)

/-- A Phase Notice that passes the position test updates state, slip and step count and sets the notice guard (R44, R45). -/
def storeNotice (s : State) (src : Fin 8) (f : RxFrame) : State :=
  let old := match s.legOf src with
    | some l => l
    | none => LegPart.empty (carriedPos f)
  storePart s src true
    (.leg { old with state := noticeState f, slip := (f.b 0).getLsbD 0, steps := f.b 2 }) .leg

/-- Over the tilt limit (R47); the absolute value of −32768 is 32768. -/
def overTilt (s : State) (b : BodyPart) : Bool :=
  decide (s.tiltLimit < (sgn b.pitch).natAbs) || decide (s.tiltLimit < (sgn b.roll).natAbs)

/-- The tilt test of a stored Body Report (R47). -/
def tiltTest (s : State) (b : BodyPart) : State :=
  if overTilt s b then
    if s.pt.tilt then s else reportFault { s with pt := { s.pt with tilt := true } } (.plain .tilt)
  else if s.pt.tilt then endFault { s with pt := { s.pt with tilt := false } } .tilt
  else s

/-- The BODY part that a Body Report carries (R46). -/
def decodeBody (f : RxFrame) : BodyPart :=
  { comX := halfAt f.payload 0, comY := halfAt f.payload 2, pitch := halfAt f.payload 4, roll := halfAt f.payload 6 }

/-- A Body Report is stored and put through the tilt test (R46). -/
def storeBody (s : State) (src : Fin 8) (f : RxFrame) : State :=
  let b := decodeBody f
  tiltTest (storePart s src false (.body b) .body) b

/-- The velocity limits of a gait: vx, vy (mm/s) and ω (mrad/s); STAND has none (R48). -/
def velocityLimits : Gait → Option (Int × Int × Int)
  | .stand => none
  | .crawl => some (150, 80, 300)
  | .diagonal => some (400, 150, 600)

/-- A velocity clamped to ±limit, where there is one (R48). -/
def clampVelocity (lim : Option Int) (v : Int) : Int :=
  match lim with
  | some l => clampInt (-l) l v
  | none => v

/-- The gait kind of an Intent: bits 1–0 of b0, code 3 taken as STAND (R48). -/
def intentGait (f : RxFrame) : Gait :=
  match (f.b 0).toNat % 4 with
  | 1 => .crawl | 2 => .diagonal | _ => .stand

/-- One bit of the clamp set (R48). -/
def clampBit (i : Nat) (changed : Bool) : Byte := if changed then BitVec.ofNat 8 (2 ^ i) else 0#8

/-- The MISSION part that an Intent becomes: every field clamped, with the clamp set (R48, layout of R26). -/
def decodeIntent (f : RxFrame) : MissionPart :=
  let g := intentGait f
  let lim := velocityLimits g
  let vx := sgn (halfAt f.payload 1)
  let vy := sgn (halfAt f.payload 3)
  let om := sgn (halfAt f.payload 5)
  let cy : Int := (halfAt f.payload 7).toNat
  let st : Int := (f.b 9).toNat
  let off := (f.b 10).toInt
  let vx' := clampVelocity (lim.map fun l => l.1) vx
  let vy' := clampVelocity (lim.map fun l => l.2.1) vy
  let om' := clampVelocity (lim.map fun l => l.2.2) om
  let cy' := clampInt 600 4000 cy
  let st' := clampInt 20 180 st
  let off' := clampInt (-60) 60 off
  { gait := g, vx := vx', vy := vy', omega := om', cycle := cy'.toNat, step := st'.toNat, offset := off'
    seq := f.b 11
    clampSet := clampBit 0 (vx' != vx) ||| clampBit 1 (vy' != vy) ||| clampBit 2 (om' != om) |||
      clampBit 3 (cy' != cy) ||| clampBit 4 (st' != st) ||| clampBit 5 (off' != off) |||
      clampBit 6 ((f.b 0).toNat % 4 == 3) }

/-- The clamp set held in a station's record; an empty record counts as an empty set (R49). -/
def heldClampSet (s : State) (src : Fin 8) : Byte :=
  match s.record src with
  | some r => (match r.part with | .mission m => m.clampSet | _ => 0#8)
  | none => 0#8

/-- An Intent is clamped and stored; a new, non-empty clamp set is recorded as an event (R48, R49). -/
def storeIntent (s : State) (src : Fin 8) (f : RxFrame) : State :=
  let m := decodeIntent f
  let t := storePart s src false (.mission m) .mission
  if m.clampSet != 0#8 && m.clampSet != heldClampSet s src then recordEvent t .intentClamped m.clampSet else t

end Sys2Proof.Machine
end

