-- ==== Sys2Proof/Machine/Phase.lean ====
section
/-! DEFINITION. The Phase Engine between expiries: change points and the turn record (R80, R84), the entries to CLAIM,
UNLOAD, SWING, LOAD and STANCE and the cancel (R89 to R93, R101 to R103), stub and search (R96 to R100), slip (R104). -/

namespace Sys2Proof.Machine
open Sys2Proof

/-! ## Change point and turn record -/

/-- A change point (R80): gait, cycle period and step height are copied from the effective intent; a change of gait sets
the turn record to awaiting and sets the lead mark. -/
def changePoint (s : State) : State :=
  let t := judgeRole s .mission
  let e := effIntent t
  let changed := e.gait != t.pe.applied.gait
  { t with pe := { t.pe with
      applied := { gait := e.gait, cycle := e.cycle, step := e.step }
      turn := if changed then none else t.pe.turn
      lead := changed || t.pe.lead } }

/-- The turn record at an entry to STANCE from LOAD (R84, point 2): the predecessor's step count, fresh or stale, or
awaiting. -/
def recordTurn (s : State) : State :=
  match predecessor s.pe.applied.gait s.legPos with
  | none => { s with pe := { s.pe with turn := none } }
  | some p =>
    let t := judgeAt s p
    { t with pe := { t.pe with turn := (t.legAt p).map LegPart.steps } }

/-- An awaiting turn record takes the predecessor's step count if its record is present (R84, point 3). -/
def fillTurn (s : State) : State := if s.pe.turn.isNone then recordTurn s else s

/-! ## CLAIM and UNLOAD -/

/-- Entry to CLAIM (R89). -/
def enterClaim (s : State) : State :=
  handNotice
    { s with pe := ({ s.pe.enter .claim with claimT := some claimUs, timeoutPassed := false }).withWait .none } .lift

/-- Entry to UNLOAD, with the stance z recorded (R90, R126). -/
def enterUnload (s : State) : State :=
  { s with
    pe := ({ s.pe.enter .unload with claimT := none, timeoutPassed := false, unloadT := msTimer s.unloadMs }).withWait
            .none
    tu := { s.tu with stanceZ := s.tu.p.z } }

/-- The Phase Engine is told that its Lift Notice completed (R22, R90, R105). -/
def claimCompleted (s : State) : State := if s.pe.leg = .claim then enterUnload s else s

/-- The claim is given up: the notice is removed and the leg returns to STANCE (R106, R108, R111). -/
def giveUpClaim (s : State) : State := claimReturn (removeLift s)

/-- A cancel from UNLOAD (R92). -/
def cancelUnload (s : State) : State :=
  handNotice
    { s with
      pe := ({ s.pe.enter .stance with phi := s.beta, unloadT := none }).withWait .claimLost
      tu := { s.tu with lowering := true } } .withdraw

/-! ## SWING -/

/-- The swing plan of R129, from the effective intent and the applied record. -/
def planSwing (s : State) (e : EffIntent) : SwingPlan :=
  let ux := e.vx - (e.omega * s.neutralY).tdiv 1000
  let uy := e.vy + (e.omega * s.neutralX).tdiv 1000
  let tst : Int := s.pe.applied.tSt
  { startX := s.tu.p.x, startY := s.tu.p.y
    targetX := clampInt (s.boxXMin * 1000) (s.boxXMax * 1000) ((s.neutralX + (ux * tst).tdiv 2000) * 1000)
    targetY := clampInt (s.boxYMin * 1000) (s.boxYMax * 1000) ((s.neutralY + (uy * tst).tdiv 2000) * 1000)
    z0 := s.tu.p.z, h := (s.pe.applied.step : Int) * 1000, kEnd := max 10 (s.pe.applied.tSw / 2), k := 0 }

/-- Entry to SWING (R93, R126, R129). -/
def enterSwing (s : State) : State :=
  let t := judgeRole s .mission
  { t with
    pe := ({ t.pe.enter .swing with
              unloadT := none, footholdT := msTimer t.footholdMs, lead := false, deadlinePassed := false
              stubs := 0, stubRise := false, attempts := 0, watchArmed := t.fsu.contact == Contact.air }).withWait .none
    tu := { t.tu with plan := planSwing t (effIntent t), stub := StubState.reset, lowering := false, stanceZ := 0 } }

/-! ## LOAD and STANCE -/

/-- Entry to LOAD from SWING or SEARCH (R101); the load-pending mark is cleared and the WEAK_FOOTHOLD condition ends (R103,
R151). -/
def enterLoad (s : State) : State :=
  let t := { s with pe := ({ s.pe.enter .load with
    steps := s.pe.steps + 1#8, phi := 0#16, footholdT := none, stubRise := false, watchArmed := false
    replacing := false, loadT := msTimer s.loadMs, loadPending := false }).withWait .none }
  let t := handNotice (endFault t .weakFoothold) .touchdown
  { t with tu := { t.tu with contact := t.tu.p } }

/-- Entry to STANCE from LOAD: change point and turn record (R102, R80, R84); with or without the LOADED notice. -/
def enterStance (s : State) (notice : Bool) : State :=
  let t := { s with pe := ({ s.pe.enter .stance with loadT := none }).withWait .none }
  let t := recordTurn (changePoint t)
  if notice then handNotice t .loaded else t

/-- A late LOADED after a weak foothold (R103). -/
def lateLoaded (s : State) : State :=
  let t := if s.pe.leg = .stance then handNotice s .loaded else s
  let t := endFault t .weakFoothold
  { t with pe := { t.pe with loadPending := false } }

/-! ## Stub, search and re-place -/

/-- The first stub of a swing (R96): the Trajectory Unit holds k and xy and raises z (R131). -/
def beginStub (s : State) : State :=
  { s with
    pe := { s.pe with stubs := 1, stubRise := true, watchArmed := false }
    tu := { s.tu with stub := { z := s.tu.p.z, k := s.tu.plan.k, d0 := 0, j := 0 } } }

/-- The rise path of a re-place direction (R133), from the xy of p toward the neutral point. -/
def risePath (s : State) : RisePath :=
  let nx := s.neutralX * 1000 - s.tu.p.x
  let ny := s.neutralY * 1000 - s.tu.p.y
  let ld : Int := ceilSqrt (nx * nx + ny * ny).toNat
  let step : Int := (s.replaceStep : Int) * 1000
  let near := ld ≤ step
  { sx := s.tu.p.x, sy := s.tu.p.y, sz := s.tu.p.z, j := 0
    dx := if near then nx else (step * nx).tdiv ld
    dy := if near then ny else (step * ny).tdiv ld }

/-- The search is exhausted (R99): a re-place while attempts remain, otherwise NO_FOOTHOLD. -/
def exhaustSearch (s : State) : State :=
  let t := { s with pe := { s.pe with footholdT := none } }
  if s.pe.attempts < s.replaceMax then
    recordEvent
      { t with
        pe := { t.pe with attempts := s.pe.attempts + 1, replacing := true, watchArmed := false }
        tu := { t.tu with rise := risePath s } } .rePlace (BitVec.ofNat 8 (s.pe.attempts + 1))
  else reportOccurrence t (.plain .noFoothold)

/-- Entry to SEARCH at a swing end, with the three cases of R97. -/
def enterSearch (s : State) : State :=
  let t := { s with pe := ({ s.pe.enter .search with replacing := false }).withWait .none }
  if s.fsu.contact != .air then enterLoad t
  else if s.pe.deadlinePassed then exhaustSearch t
  else t

/-! ## Events of the Foot Sense Unit -/

/-- A contact in SWING, judged by the swing period index and the stub count (R95). -/
def swingContact (s : State) : State :=
  if s.pe.stubs = 0 ∧ 2 * s.tu.plan.k < s.tu.plan.kEnd then beginStub s else enterLoad s

/-- A class change in HOLD (R154): it stops a vertical descent, or turns the press of a LOAD origin into a freeze. -/
def holdContact (s : State) (new : Contact) : State :=
  if s.pe.origin = some .swing ∨ s.pe.origin = some .search then
    if new = .air then s else { s with tu := { s.tu with descentStopped := true } }
  else if s.pe.origin = some .load ∧ new = .loaded then { s with tu := { s.tu with pressFrozen := true } }
  else s

/-- Whether a class change is a contact for the watch (R95). -/
def isContact (s : State) (old new : Contact) : Bool := s.pe.watchArmed && old == .air && new != .air

/-- A class-change event, by the leg state (R68, R95, R98, R100, R102, R103, R154). -/
def classChange (s : State) (old new : Contact) : State :=
  let t := if s.pe.loadPending && new == .loaded then lateLoaded s else s
  match s.pe.leg with
  | .swing =>
    if new = .air then { t with pe := { t.pe with watchArmed := true } }
    else if isContact s old new then swingContact { t with pe := { t.pe with watchArmed := false } } else t
  | .search =>
    if s.pe.replacing then t
    else if new = .air then { t with pe := { t.pe with watchArmed := true } }
    else if isContact s old new then enterLoad t else t
  | .load => if new = .loaded then enterStance t true else t
  | .hold => holdContact t new
  | _ => t

/-- A slip-start event (R104). -/
def slipStart (s : State) : State :=
  if s.pe.leg.walking && s.pe.leg != .hold then
    let t := handNotice s .slip
    { t with
      pe := { t.pe with slipT := msTimer t.slipLimit }
      tu := { t.tu with frozen := t.tu.frozen || t.pe.leg.standing } }
  else s

/-- The end of a reported SLIP_PERSIST condition at a slip-end (R104). -/
def endSlipPersist (s : State) : State :=
  if s.pe.slipReported then
    let t := endFault s .slipPersist
    { t with pe := { t.pe with slipReported := false } }
  else s

/-- A slip-end event (R104). -/
def slipEnd (s : State) : State :=
  if s.pe.leg = .hold then endSlipPersist { s with tu := { s.tu with frozen := false } }
  else if s.pe.leg.walking then
    let t := handNotice s .slipEnd
    endSlipPersist
      { t with pe := { t.pe with slipT := none }, tu := { t.tu with frozen := false } }
  else s

end Sys2Proof.Machine
end

