-- ==== Sys2Proof/Machine/Foot.lean ====
section
/-! DEFINITION. The Foot Sense Unit and its Filter Engine: the filter (R63 to R66), the contact class and the unload test
(R67 to R69), slip (R70, R71), the watches and degraded contact (R72 to R76). -/

namespace Sys2Proof.Machine
open Sys2Proof

/-! ## Filter Engine (R63 to R66) -/

/-- A delay line shifts: entry k becomes entry k + 1 and the new raw value becomes entry 0 (R63). -/
def shiftIn (x : Half) (l : Vector Half 16) : Vector Half 16 :=
  Vector.ofFn fun i => if i.val = 0 then x else l[i.val - 1]

/-- The accumulator of one axis: the sum of 2 × COEF_k × x_k for k = 0 to FILTER_N (R64). -/
def accumulate (s : State) (l : Vector Half 16) : Int :=
  ((List.finRange 16).map fun k => if k.val ≤ s.filterN then 2 * s.coef k * sgn l[k] else 0).sum

/-- The output before limiting: the floor of (accumulator + 32768) / 65536 (R64). -/
def filterRaw (s : State) (l : Vector Half 16) : Int := (accumulate s l + 32768).fdiv 65536

/-- The limits of an output (R65). -/
def limitOut (v : Int) : Int := clampInt (-32768) 32767 v

/-- Whether the output of a line is limited (R65). -/
def isLimited (s : State) (l : Vector Half 16) : Bool := limitOut (filterRaw s l) != filterRaw s l

/-- One axis takes a raw value: shift, filter, limit and sticky flag (R63 to R65). -/
def Axis.take (s : State) (a : Axis) (x : Half) : Axis :=
  let l := shiftIn x a.line
  { line := l, out := limitOut (filterRaw s l), limit := a.limit || isLimited s l }

/-- The filter-limit condition after a sample of which these axes were limited (R65). DESIGN CHOICE (log entry 36): the
report carries them, and no rule says where they are held or shown beside the sticky flags, so they are nowhere. -/
def judgeLimit (s : State) (limited : Axes) : State :=
  if limited.any then
    if s.fsu.limitCond then s
    else reportFault { s with fsu := { s.fsu with limitCond := true } } (.filterLimit limited)
  else if s.fsu.limitCond then endFault { s with fsu := { s.fsu with limitCond := false } } .filterLimit
  else s

/-- Step 1 of R63: the three delay lines shift, the outputs are computed and limited, and the refill count goes up. -/
def enterSample (s : State) (fx fy fz : Half) : State :=
  let limited : Axes :=
    { x := isLimited s (shiftIn fx s.fsu.ax.line), y := isLimited s (shiftIn fy s.fsu.ay.line)
      z := isLimited s (shiftIn fz s.fsu.az.line) }
  judgeLimit
    { s with fsu := { s.fsu with
        ax := s.fsu.ax.take s fx, ay := s.fsu.ay.take s fy, az := s.fsu.az.take s fz
        refill := min 17 (s.fsu.refill + 1) } } limited

/-- The delay lines and outputs are zeroed and the refill count becomes 0; the sticky flags stay (R65, R66, R76). -/
def zeroLines (f : FootSense) : FootSense :=
  { f with
    ax := { Axis.reset with limit := f.ax.limit }, ay := { Axis.reset with limit := f.ay.limit }
    az := { Axis.reset with limit := f.az.limit }, refill := 0 }

/-- The refill has finished once the refill count exceeds FILTER_N + 1 (R66). -/
def refillDone (s : State) : Bool := decide (s.filterN + 1 < s.fsu.refill)

/-! ## Contact class (R67 to R69) -/

/-- A, the threshold of falling to AIR (R67). -/
def State.thresholdA (s : State) : Int := max ((s.tTouch : Int) - s.hyst) 0

/-- B, the threshold of falling from LOADED to TOUCH (R67). -/
def State.thresholdB (s : State) : Int := (s.tLoaded : Int) - s.hyst

/-- The new class from the class before and Fz_f (R67). -/
def nextClass (s : State) (c : Contact) (fz : Int) : Contact :=
  match c with
  | .air => if (s.tLoaded : Int) ≤ fz then .loaded else if (s.tTouch : Int) ≤ fz then .touch else .air
  | .touch => if (s.tLoaded : Int) ≤ fz then .loaded else if fz < s.thresholdA then .air else .touch
  | .loaded => if fz < s.thresholdA then .air else if fz < s.thresholdB then .touch else .loaded

/-- The contact class takes a value; a change is handed to the Phase Engine at once (R68). -/
def setContact (s : State) (new : Contact) : State :=
  if new = s.fsu.contact then s
  else classChange { s with fsu := { s.fsu with contact := new } } s.fsu.contact new

/-- The unload test (R69). -/
def unloaded (s : State) : Bool :=
  if s.fsu.degraded then s.fsu.contact == .air
  else if refillDone s then decide (s.fsu.az.out < s.tUnload) else false

/-! ## Slip (R70, R71) -/

/-- The tangential estimate Ft (R70). -/
def tangential (fx fy : Int) : Nat := max fx.natAbs fy.natAbs + min fx.natAbs fy.natAbs / 2

/-- Whether a judged sample is a slip sample, for a class other than AIR (R70). -/
def slipSample (s : State) : Bool :=
  decide (0 < s.fsu.az.out) &&
    decide ((s.mu : Int) * s.fsu.az.out < ((tangential s.fsu.ax.out s.fsu.ay.out * 256 : Nat) : Int))

/-- The slip state is left: both runs become 0 and the slip-end event is handed (R71). -/
def leaveSlip (s : State) : State :=
  slipEnd { s with fsu := { s.fsu with slipping := false, slipRun := 0, okRun := 0 } }

/-- A judged sample's effect on the slip state (R70, R71). -/
def judgeSlip (s : State) : State :=
  if s.fsu.contact = .air then
    if s.fsu.slipping then leaveSlip s else { s with fsu := { s.fsu with slipRun := 0 } }
  else if s.fsu.slipping then
    if slipSample s then { s with fsu := { s.fsu with okRun := 0 } }
    else if s.slipCount ≤ s.fsu.okRun + 1 then leaveSlip s
    else { s with fsu := { s.fsu with okRun := s.fsu.okRun + 1 } }
  else if slipSample s then
    if s.slipCount ≤ s.fsu.slipRun + 1 then
      slipStart { s with fsu := { s.fsu with slipping := true, slipRun := 0, okRun := 0 } }
    else { s with fsu := { s.fsu with slipRun := s.fsu.slipRun + 1 } }
  else { s with fsu := { s.fsu with slipRun := 0 } }

/-! ## Degraded contact (R72 to R76) -/

/-- Why contact is degraded (R74); its detail in the event. -/
inductive Cause where
  | link | stuck
  deriving DecidableEq, Repr

/-- The detail of "contact degraded" (R74). -/
def Cause.detail : Cause → Byte
  | .link => 1#8
  | .stuck => 2#8

/-- A cause is added to the unit's causes. -/
def FootSense.addCause (f : FootSense) (c : Cause) : FootSense :=
  { f with causeLink := f.causeLink || c == .link, causeStuck := f.causeStuck || c == .stuck }

/-- Entering degraded contact, or a second cause (R74). -/
def degrade (s : State) (c : Cause) : State :=
  if s.fsu.degraded then { s with fsu := s.fsu.addCause c }
  else
    let t := { s with fsu := { s.fsu.addCause c with degraded := true } }
    let t := if t.fsu.slipping then leaveSlip t
             else { t with fsu := { t.fsu with slipRun := 0, okRun := 0 } }
    recordEvent { t with fsu := { t.fsu with refHeight := t.tu.measured.z, recovery := 0 } } .contactDegraded c.detail

/-- The link watch is started again by a good sample, which ends the link condition (R72). -/
def restartWatch (s : State) : State :=
  let t := { s with fsu := { s.fsu with watch := some linkWatchUs } }
  if s.fsu.linkCond then endFault { t with fsu := { t.fsu with linkCond := false } } .footLinkLost else t

/-- The most the stuck run counts (R73). -/
def stuckMax : Nat := 512

/-- The stuck run at a good sample (R73). -/
def stuckStep (s : State) (fz : Half) : State :=
  match s.fsu.prevFz with
  | none => { s with fsu := { s.fsu with stuckRun := 1 } }
  | some prev =>
    if fz = prev then { s with fsu := { s.fsu with stuckRun := min stuckMax (s.fsu.stuckRun + 1) } }
    else
      let t := { s with fsu := { s.fsu with stuckRun := 1 } }
      if s.fsu.stuckCond then endFault { t with fsu := { t.fsu with stuckCond := false } } .forceStuck else t

/-- A stuck run of 512 in a moving state raises FORCE_STUCK and degrades the contact (R73). -/
def judgeStuck (s : State) : State :=
  if s.fsu.stuckRun = stuckMax ∧ s.fsu.stuckCond = false ∧ s.pe.leg.stepping then
    degrade (reportFault { s with fsu := { s.fsu with stuckCond := true } } (.plain .forceStuck)) .stuck
  else s

/-- The recovery run that ends degraded contact (R76). -/
def recoverAt : Nat := 16

/-- Leaving degraded contact at a sample, which is entered again as the first of the refill (R63, R76; log entry 14). -/
def restoreContact (s : State) (fx fy fz : Half) : State :=
  let t := { s with fsu := { zeroLines s.fsu with
    degraded := false, causeLink := false, causeStuck := false, recovery := recoverAt } }
  recordEvent (enterSample t fx fy fz) .contactRestored 0#8

/-- The recovery run at a good sample while degraded (R76). -/
def recoveryStep (s : State) (fx fy fz : Half) : State :=
  if s.fsu.degraded then
    let differs := match s.fsu.prevFz with
      | some prev => fz != prev
      | none => false
    if differs then
      if recoverAt ≤ s.fsu.recovery + 1 then restoreContact s fx fy fz
      else { s with fsu := { s.fsu with recovery := s.fsu.recovery + 1 } }
    else { s with fsu := { s.fsu with recovery := 0 } }
  else s

/-- Steps 3 and 4 of R63: contact and slip, unless degraded or refilling (R66). -/
def judgeSample (s : State) : State :=
  if !s.fsu.degraded && refillDone s then
    judgeSlip (setContact s (nextClass s s.fsu.contact s.fsu.az.out))
  else s

/-- A good sample after setup completion, in the five steps of R63. -/
def takeSample (s : State) (fx fy fz : Half) : State :=
  let t := enterSample s fx fy fz
  let t := recoveryStep (judgeStuck (stuckStep (restartWatch t) fz)) fx fy fz
  let t := judgeSample t
  { t with fsu := { t.fsu with prevFz := some fz } }

/-- The expiry of the link watch (R72). -/
def loseLink (s : State) : State :=
  let t := { s with fsu := { s.fsu with watch := none } }
  let t := if s.fsu.linkCond then t
           else degrade (reportFault { t with fsu := { t.fsu with linkCond := true } } (.plain .footLinkLost)) .link
  { t with fsu := { t.fsu with recovery := 0 } }

/-- The class that a lag gives under a pressing Setpoint (R75), in µm. -/
def lagClass (lag : Int) : Contact := if lag < 3000 then .air else if lag < 8000 then .touch else .loaded

/-- The degraded judgement at a good Status frame: measured z, the z of the Setpoint answered, its pressing mark (R75). -/
def degradedJudge (s : State) (z setZ : Int) (pressing : Bool) : State :=
  if s.fsu.degraded then
    if pressing then setContact { s with fsu := { s.fsu with refHeight := z } } (lagClass (z - setZ))
    else if s.fsu.contact ≠ .air ∧ s.fsu.refHeight + 6000 ≤ z then setContact s .air
    else s
  else s

end Sys2Proof.Machine
end

