-- ==== Sys2Proof/Machine/Path.lean ====
section
/-! DEFINITION. The Trajectory Unit: sway (R119, R120), stance and body height (R125 to R127), the workspace clamp (R128),
the swing profile and the stub rise (R130, R131), search and re-place (R132, R133), press, lowering and the HOLD motions
(R134, R154), and the Setpoint (R136). -/

namespace Sys2Proof.Machine
open Sys2Proof

/-! ## Sway (R118 to R120) -/

/-- One component of the own sway request in Leg Report units: half, toward zero, clamped to ±127 (R118). -/
def swayUnit (v : Int) : Int := clampInt (-127) 127 (v.tdiv 2)

/-- The sway request of a station as a follower takes it, in mm: 2 × each unit (R119). -/
def swayOf (s : State) (n : Fin 8) : Option P2 :=
  if n = s.sbi.station then s.pe.ownSway.map fun r => { x := 2 * swayUnit r.x, y := 2 * swayUnit r.y }
  else ((freshLeg s n).bind LegPart.sway).map fun u => { x := 2 * u.x.toInt, y := 2 * u.y.toInt }

/-- The request followed: that of the candidate with the lowest station number (R119). -/
def followed (s : State) : Option P2 := stations.findSome? (swayOf s)

/-- The sway displacement of the period in µm: −R × 1000, each axis clamped to ±SWAY_RATE × 2 (R120). -/
def swayStep (s : State) (r : Option P2) : P2 :=
  let lim : Int := (s.swayRate : Int) * 2
  match r with
  | some r => { x := clampInt (-lim) lim (-r.x * 1000), y := clampInt (-lim) lim (-r.y * 1000) }
  | none => { x := 0, y := 0 }

/-! ## Stance (R125 to R127) -/

/-- The stance displacement of the period from p as it stood before the expiry (R125). -/
def stanceStep (e : EffIntent) (p : P3) : P2 :=
  { x := -2 * e.vx + (2 * e.omega * p.y).tdiv 1000000
    y := -2 * e.vy - (2 * e.omega * p.x).tdiv 1000000 }

/-- Whether some present and fresh LEG record shows the stance-limit flag (R127). -/
def peerAtLimit (s : State) : Bool :=
  s.peers.any fun n => match freshLeg s n with
    | some l => l.stanceLimit
    | none => false

/-- Whether the stance displacement is frozen at this expiry (R127). -/
def stanceFrozen (s : State) : Bool := s.tu.frozen || s.tu.stanceLimit || peerAtLimit s

/-- Move toward a height by at most `step` (R126, case 3). -/
def approach (step z goal : Int) : Int :=
  if (z - goal).natAbs ≤ step.natAbs then goal else if z < goal then z + step else z - step

/-- Lower by 250 µm, to no lower than a height; at or below it, z is left as it is (R126, R134). -/
def lowerTo (z goal : Int) : Int := if z ≤ goal then z else max (z - 250) goal

/-- The z motion of R126, by the first case that holds; the second component is the lowering mark after it. A lowering begins
at the expiry after the cancel (R92): at an expiry that itself leaves UNLOAD for STANCE, z stays (log entry 12). `before` is
the leg state in which the expiry found the leg. -/
def stanceZMove (s : State) (before : LegState) (e : EffIntent) : Int × Bool :=
  if s.pe.leg = .unload then (min (s.tu.p.z + 250) (s.tu.stanceZ + 6000), s.tu.lowering)
  else if s.pe.leg = .stance ∧ before = .unload then (s.tu.p.z, s.tu.lowering)
  else if s.pe.leg = .stance ∧ s.tu.lowering then
    let z := lowerTo s.tu.p.z s.tu.stanceZ
    (z, decide (s.tu.stanceZ < z))
  else (approach 40 s.tu.p.z (s.neutralZ * 1000 - e.offset * 1000), s.tu.lowering)

/-- The motion of a standing leg: stance displacement unless frozen, sway, then z (R125 to R127). -/
def moveStanding (s : State) (before : LegState) : State :=
  let t := judgeRole (judgeLegs s) .mission
  let e := effIntent t
  let st := if stanceFrozen t then { x := 0, y := 0 } else stanceStep e t.tu.p
  let sw := swayStep t (followed t)
  let z := stanceZMove t before e
  { t with tu := { t.tu with
      p := { x := t.tu.p.x + st.x + sw.x, y := t.tu.p.y + st.y + sw.y, z := z.1 }, lowering := z.2 } }

/-! ## Motions with an end (R130 to R133) -/

/-- What the Trajectory Unit tells the Phase Engine at step 4 (R79). -/
inductive MotionEnd where
  | swingEnd | stubRiseEnd | searchBottom | replaceEnd
  deriving DecidableEq, Repr

/-- The height of the profile above z0 at index k, with apex h: floor(4·h·k·(K − k) / K²) (R130). -/
def profileHeight (h : Int) (kEnd k : Nat) : Int :=
  (4 * h * k * ((kEnd : Int) - k)).fdiv ((kEnd : Int) * kEnd)

/-- The stub correction d(k) (R131); 0 before any stub. -/
def stubCorrection (s : State) (k : Nat) : Int :=
  (s.tu.stub.d0 * ((s.tu.plan.kEnd : Int) - k)).tdiv ((s.tu.plan.kEnd : Int) - s.tu.stub.k)

/-- The point of the swing profile at index k (R130). -/
def profilePoint (s : State) (k : Nat) : P3 :=
  let pl := s.tu.plan
  { x := pl.startX + ((pl.targetX - pl.startX) * k).tdiv pl.kEnd
    y := pl.startY + ((pl.targetY - pl.startY) * k).tdiv pl.kEnd
    z := pl.z0 + profileHeight pl.h pl.kEnd k + stubCorrection s k }

/-- Control periods of a stub rise (R96). -/
def stubPeriods : Nat := 25

/-- Control periods of a re-place rise (R99). -/
def replacePeriods : Nat := 50

/-- The motion of SWING: at the entry expiry the foot stays at the start; then the stub rise while it is active, otherwise
the profile (R130, R131). -/
def moveSwing (s : State) (before : LegState) : State × Option MotionEnd :=
  if before ≠ .swing then (s, none)
  else if s.pe.stubRise then
    let j := s.tu.stub.j + 1
    let z := s.tu.stub.z + ((s.stubLift : Int) * 1000 * j).tdiv stubPeriods
    ({ s with tu := { s.tu with p := { s.tu.p with z := z }, stub := { s.tu.stub with j := j } } },
      if j = stubPeriods then some .stubRiseEnd else none)
  else
    let k := s.tu.plan.k + 1
    ({ s with tu := { s.tu with p := profilePoint s k, plan := { s.tu.plan with k := k } } },
      if k = s.tu.plan.kEnd then some .swingEnd else none)

/-- The search bottom: z0 − SEARCH_DEPTH × 1000, or BOX_Z_MIN × 1000 if that is higher (R132). -/
def searchBottomZ (s : State) : Int := max (s.tu.plan.z0 - (s.searchDepth : Int) * 1000) (s.boxZMin * 1000)

/-- One period of a descent, which stops at the bottom (R132, R134). -/
def descend (s : State) : Int := max (s.tu.p.z - (s.searchSpeed : Int) * 2) (searchBottomZ s)

/-- The motion of SEARCH: the re-place rise, or the descent (R132, R133). -/
def moveSearch (s : State) : State × Option MotionEnd :=
  if s.pe.replacing then
    let r := s.tu.rise
    let j := r.j + 1
    let top := s.tu.plan.z0 + s.tu.plan.h
    ({ s with tu := { s.tu with
        p := { x := r.sx + (r.dx * j).tdiv replacePeriods, y := r.sy + (r.dy * j).tdiv replacePeriods
               z := r.sz + ((top - r.sz) * j).tdiv replacePeriods }
        rise := { r with j := j } } },
      if j = replacePeriods then some .replaceEnd else none)
  else
    ({ s with tu := { s.tu with p := { s.tu.p with z := descend s } } },
      if descend s = searchBottomZ s then some .searchBottom else none)

/-- The press (R134). -/
def movePress (s : State) : State :=
  { s with tu := { s.tu with
      p := { x := s.tu.contact.x, y := s.tu.contact.y, z := max (s.tu.p.z - 250) (s.tu.contact.z - 10000) } } }

/-- The motions of HOLD, by the origin (R134, R154). -/
inductive HoldMotion where
  | freeze | lowering | descent | held | press
  deriving DecidableEq, Repr

/-- The HOLD motion chosen by the origin and the marks (R154). -/
def holdMotion (s : State) : HoldMotion :=
  match s.pe.origin with
  | some .unload => .lowering
  | some .swing | some .search => if s.tu.descentStopped then .held else .descent
  | some .load => if s.tu.pressFrozen then .freeze else .press
  | _ => .freeze

/-- The motion of the period in HOLD (R134, R154). -/
def moveHold (s : State) : State :=
  match holdMotion s with
  | .freeze => s
  | .held => s
  | .lowering => { s with tu := { s.tu with p := { s.tu.p with z := lowerTo s.tu.p.z s.tu.stanceZ } } }
  | .descent => { s with tu := { s.tu with p := { s.tu.p with z := descend s } } }
  | .press => movePress s

/-- The motion of the period for the state the leg is now in (R79, R124); `before` is the one the expiry found. -/
def motion (s : State) (before : LegState) : State × Option MotionEnd :=
  match s.pe.leg with
  | .stance | .claim | .unload => (moveStanding s before, none)
  | .swing => moveSwing s before
  | .search => moveSearch s
  | .load => (movePress s, none)
  | .hold => (moveHold s, none)
  | .setup | .ready => (s, none)

/-- The mode of the period's Setpoint (R124, R154). -/
def motionMode (s : State) : Mode :=
  match s.pe.leg with
  | .setup | .ready => .hold
  | .stance | .claim | .swing => .position
  | .unload | .search | .load => .soft
  | .hold => if holdMotion s = .freeze then .position else .soft

/-! ## Workspace clamp (R128) -/

/-- A point clamped to the workspace box, in µm (R128). -/
def clampBox (s : State) (p : P3) : P3 :=
  { x := clampInt (s.boxXMin * 1000) (s.boxXMax * 1000) p.x
    y := clampInt (s.boxYMin * 1000) (s.boxYMax * 1000) p.y
    z := clampInt (s.boxZMin * 1000) (s.boxZMax * 1000) p.z }

/-- The watch of the clamp in a standing state, from the axes that were clamped (R128). DESIGN CHOICE (log entry 35): the
report carries them, and no rule says where they are held or shown, so they are nowhere. -/
def watchClamp (s : State) (clamped : Axes) : State :=
  let t := { s with tu := { s.tu with stanceLimit := clamped.any } }
  if clamped.any then
    if s.tu.clampCond then t
    else reportFault { t with tu := { t.tu with clampCond := true } } (.workspaceClamp clamped)
  else if s.tu.clampCond then endFault { t with tu := { t.tu with clampCond := false } } .workspaceClamp
  else t

/-- The clamp after the motion of the period (R128). In READY p is clamped only for the frame (R136). -/
def clampFoot (s : State) : State :=
  if s.pe.leg = .ready then s
  else
    let q := clampBox s s.tu.p
    let t := { s with tu := { s.tu with p := q } }
    if s.pe.leg.standing then watchClamp t { x := q.x != s.tu.p.x, y := q.y != s.tu.p.y, z := q.z != s.tu.p.z } else t

/-! ## Setpoint (R136) -/

/-- A coordinate in µm as 0.1 mm, rounded half away from zero (R136). -/
def tenths (v : Int) : Int := roundHalfAway v 100

/-- Mode codes of a Setpoint frame (R135). -/
def Mode.code : Mode → Nat
  | .hold => 0 | .position => 1 | .soft => 2

/-- The ten bytes of a Setpoint frame: mode, tag, x, y, z, and the check C2, C1 over them (R135). -/
def Setpoint.bytes (p : Setpoint) : List Byte :=
  let body := [BitVec.ofNat 8 p.mode.code, p.tag, hiByte p.x, loByte p.x, hiByte p.y, loByte p.y, hiByte p.z, loByte p.z]
  body ++ [checkC2 body, checkC1 body]

/-- The Setpoint of the period is built and sent (R136); the end of its last stop bit is 25 µs away (R135). -/
def sendSetpoint (s : State) : State :=
  let q := clampBox s s.tu.p
  let m := motionMode s
  let z := tenths q.z * 100
  let f : Setpoint :=
    { mode := m, tag := s.tu.tag + 1#8, x := BitVec.ofInt 16 (tenths q.x), y := BitVec.ofInt 16 (tenths q.y)
      z := BitVec.ofInt 16 (tenths q.z) }
  { s with tu := { s.tu with
      tag := f.tag, setpoint := some f, line := f.bytes
      priorZ := s.tu.lastZ
      lastZ := some z
      pressing := match s.tu.lastZ with
        | some before => m == .soft && decide (z ≤ before)
        | none => false
      sending := some setpointUs } }

/-- The level the node gives the drive link in quarter `q` of this microsecond, recessive = true: the Setpoint's byte fields
back to back, four bits of 0.25 µs in a microsecond, and recessive at all other times (R4, R135). -/
def State.driveLevel (s : State) (q : Fin 4) : Bool :=
  match s.tu.sending with
  | some left => ((lineBits s.tu.line)[4 * (setpointUs - left) + q.val]?).getD true
  | none => true

end Sys2Proof.Machine
end

