-- ==== Sys2Proof/Machine/Support.lean ====
section
/-! DEFINITION. The Support Check Unit: snapshot and request (R112, R113), choice of test (R114), triangle test (R115,
R116), corridor test (R117) and sway request (R118). -/

namespace Sys2Proof.Machine
open Sys2Proof

/-! ## Snapshot (R112) -/

/-- A coordinate of a snapshot, clamped to ±2000 mm (R112). -/
def snapCoord (h : Half) : Int := clampInt (-2000) 2000 (sgn h)

/-- Whether a LEG part, read fresh, is a support foot (R112). -/
def isSupport (l : LegPart) : Bool := (l.state == .stance || l.state == .claim) && l.contact == .loaded

/-- The support foot found at a position, if there is one (R112). -/
def supportAt (s : State) (p : LegPos) : Option SupportFoot :=
  match s.freshLegAt p with
  | some l => if isSupport l then some { pos := p, at2 := { x := snapCoord l.footX, y := snapCoord l.footY } } else none
  | none => none

/-- The support feet in the order of their leg position codes; the node's own foot is not among them (R112). -/
def supportFeet (s : State) : List SupportFoot :=
  (legPositions.filter fun p => p != s.legPos).filterMap (supportAt s)

/-- The centre-of-mass projection P, (0, 0) with the BODY record empty (R112). -/
def comOf (s : State) : P2 :=
  match (s.stationOf .body).bind s.record with
  | some r => (match r.part with | .body b => { x := snapCoord b.comX, y := snapCoord b.comY } | _ => { x := 0, y := 0 })
  | none => { x := 0, y := 0 }

/-- The snapshot of a state whose records have been read (R112). -/
def snapshotOf (s : State) : Snapshot :=
  { own := s.legPos, gait := s.pe.applied.gait, feet := supportFeet s, com := comOf s }

/-- A check request: fresh reads, the snapshot handed to the unit, the check-pending mark set (R87, R112, R113). -/
def requestCheck (s : State) : State :=
  let t := judgeRole (judgeLegs s) .body
  { t with
    pe := { t.pe with checkPending := true }
    scu := { t.scu with checking := true, inFlight := some (snapshotOf t) } }

/-! ## The tests -/

/-- A fail with SUPPORT_COUNT (R114). -/
def supportCountFail (n : Nat) : CheckResult :=
  { pass := false, reason := .supportCount, n := n, margin := -2048, sway := none }

/-- The range of a reported margin (R116, R117). -/
def clampMargin (m : Int) : Int := clampInt (-2048) 2047 m

/-- The doubled signed area of three feet (R115). -/
def area2 (a b c : P2) : Int := (b.x - a.x) * (c.y - a.y) - (b.y - a.y) * (c.x - a.x)

/-- The margin of P from the edge S to E: floor(s / L) with L the ceiling of the edge's length (R116). -/
def edgeMargin (a b p : P2) : Int :=
  let ex := b.x - a.x
  let ey := b.y - a.y
  let s := ex * (p.y - a.y) - ey * (p.x - a.x)
  let l : Int := ceilSqrt (ex * ex + ey * ey).toNat
  s.fdiv l

/-- The least of the three edge margins of a counter-clockwise triangle, clamped (R116). -/
def triangleMargin (a b c p : P2) : Int :=
  clampMargin (min (edgeMargin a b p) (min (edgeMargin b c p) (edgeMargin c a p)))

/-- The sway request: the centroid less P, each component clamped to ±SWAY_MAX (R118). -/
def swayRequest (a b c p : P2) (swayMax : Nat) : P2 :=
  { x := clampInt (-(swayMax : Int)) swayMax ((a.x + b.x + c.x).tdiv 3 - p.x)
    y := clampInt (-(swayMax : Int)) swayMax ((a.y + b.y + c.y).tdiv 3 - p.y) }

/-- The triangle test (R115, R116). -/
def triangleTest (a b c p : P2) (marginM swayMax : Nat) : CheckResult :=
  let area := area2 a b c
  if area = 0 then supportCountFail 3
  else
    let m := if 0 < area then triangleMargin a b c p else triangleMargin a c b p
    if (marginM : Int) ≤ m then { pass := true, reason := .none, n := 3, margin := m, sway := none }
    else { pass := false, reason := .margin, n := 3, margin := m, sway := some (swayRequest a b c p swayMax) }

/-- The ceiling of a quotient of naturals. -/
def ceilDiv (n d : Nat) : Nat := (n + d - 1) / d

/-- The corridor test (R117). -/
def corridorTest (a b p : P2) (corridorW : Nat) : CheckResult :=
  let ex := b.x - a.x
  let ey := b.y - a.y
  let dx := p.x - a.x
  let dy := p.y - a.y
  let s := ex * dy - ey * dx
  let t := ex * dx + ey * dy
  let q := ex * ex + ey * ey
  if q = 0 then supportCountFail 2
  else
    let m := clampMargin ((corridorW : Int) - ceilDiv s.natAbs (floorSqrt q.toNat))
    if 0 ≤ m ∧ 0 ≤ t ∧ t ≤ q then { pass := true, reason := .none, n := 2, margin := m, sway := none }
    else { pass := false, reason := .margin, n := 2, margin := m, sway := none }

/-- Whether two support feet are the diagonal pair that does not contain the node's own position (R114). -/
def otherDiagonal (own p q : LegPos) : Bool :=
  relation p q == .diagonal && relation own p != .same && relation own q != .same

/-- The result of a check on a snapshot, by the table of R114. -/
def checkResult (sn : Snapshot) (marginM corridorW swayMax : Nat) : CheckResult :=
  match sn.feet with
  | [a, b, c] => triangleTest a.at2 b.at2 c.at2 sn.com marginM swayMax
  | [a, b] =>
    if sn.gait = .diagonal ∧ otherDiagonal sn.own a.pos b.pos then corridorTest a.at2 b.at2 sn.com corridorW
    else supportCountFail 2
  | l => supportCountFail l.length

end Sys2Proof.Machine
end

