-- ==== Sys2Proof/Machine/Period.lean ====
section
/-! DEFINITION. The control period (R79): phase advance (R82), the decisions of each state (R86, R91, R102, R154), the motion
of the period, and what follows a motion's end (R96 to R100); the Phase Engine's part of a check result (R87, R121). -/

namespace Sys2Proof.Machine
open Sys2Proof

/-! ## Phase (R82) -/

/-- φ at an expiry, by the leg state (R82). -/
def nextPhi (s : State) : BitVec 16 :=
  let up := s.pe.phi.toNat + s.pe.applied.delta
  match s.pe.leg with
  | .stance => BitVec.ofNat 16 (min up s.pe.applied.gait.beta)
  | .unload | .swing | .search | .load => BitVec.ofNat 16 (min up 65535)
  | _ => s.pe.phi

/-- Step 1 of an expiry (R79, R82). -/
def advancePhase (s : State) : State := { s with pe := { s.pe with phi := nextPhi s } }

/-! ## Lift conditions (R85, R86) -/

/-- Whether the lead mark passes the turn (R85). -/
def leadTurn (s : State) : Bool := s.pe.lead && isLead s.pe.applied.gait s.legPos

/-- Condition 3, TURN (R85): the predecessor's record is read only when the lead mark does not pass the turn and a count is
recorded (log entry 11). -/
def condTurn (s : State) : State × Bool :=
  if leadTurn s then (s, true)
  else match s.pe.turn, predecessor s.pe.applied.gait s.legPos with
    | some c, some p =>
      let t := judgeAt s p
      (t, match t.legAt p with | some l => l.steps != c | none => false)
    | _, _ => (s, false)

/-- Read the records of the exclusive neighbour positions (R86). -/
def judgeExclusive (s : State) : State := s.exclusivePositions.foldl judgeAt s

/-- Condition 6, PEER_STALE (R86). -/
def condFresh (s : State) : State × Bool :=
  let t := judgeExclusive s
  (t, t.exclusivePositions.all fun p => (t.freshLegAt p).isSome)

/-- Condition 7, NEIGHBOUR (R86). -/
def condNeighbour (s : State) : State × Bool :=
  let t := judgeExclusive s
  (t, t.exclusivePositions.all fun p => match t.legAt p with
    | some l => !l.state.moving
    | none => true)

/-- Condition 8, SLIP_NEARBY (R86). -/
def condSlip (s : State) : State × Bool :=
  let t := judgeLegs s
  (t, t.peers.all fun n => match freshLeg t n with
    | some l => !l.slip
    | none => true)

/-- Condition 9, BODY_STALE (R86). -/
def condBody (s : State) : State × Bool :=
  let t := judgeRole s .body
  (t, match t.stationOf .body with | some n => fresh t n | none => false)

/-- One condition of R86, then the rest: the first that fails is the wait reason, and the tests stop there. -/
def andThen (c : State × Bool) (w : WaitReason) (rest : State → State × Option WaitReason) :
    State × Option WaitReason :=
  if c.2 then rest c.1 else (c.1, some w)

/-- Conditions 1 to 9 of R86, in order: the state after the reads, and the wait reason of the first that fails. -/
def liftConditions (s : State) : State × Option WaitReason :=
  andThen (let t := judgeRole s .mission; (t, (effIntent t).gait != .stand)) .intent fun s =>
  andThen (s, s.pe.phi == s.beta) .phase fun s =>
  andThen (condTurn s) .turn fun s =>
  andThen (s, s.fsu.contact == .loaded && !s.fsu.slipping) .ownContact fun s =>
  andThen (s, !classALatched s) .fault fun s =>
  andThen (condFresh s) .peerStale fun s =>
  andThen (condNeighbour s) .neighbour fun s =>
  andThen (condSlip s) .slipNearby fun s =>
  andThen (condBody s) .bodyStale fun s => (s, none)

/-- The nearby tests of UNLOAD: conditions 8 and 9 (R91). -/
def nearbyTests (s : State) : State × Bool :=
  let c := condSlip s
  if c.2 then condBody c.1 else c

/-! ## Step 2: the decisions of the state -/

/-- STANCE: the change point under STAND (R80, point 4), the turn record (R84, point 3), then the lift conditions and the
check request (R86, R87). -/
def decideStance (s : State) : State :=
  let t := if s.pe.applied.gait = .stand then changePoint s else s
  let t := fillTurn t
  if t.pe.checkPending then t
  else match liftConditions t with
    | (u, some w) => { u with pe := u.pe.withWait w }
    | (u, none) => requestCheck u

/-- UNLOAD: the unload test, the nearby tests, the repeated check (R91). While a check is pending no condition is tested and
no second request is made (R87); the unload test is asked all the same (R121; log entry 27). -/
def decideUnload (s : State) : State :=
  if unloaded s then enterSwing s
  else if s.pe.checkPending then s
  else
    let c := nearbyTests s
    if c.2 then requestCheck c.1 else cancelUnload c.1

/-- HOLD with origin LOAD: an expiry that finds the class LOADED turns the press into a freeze (R154). -/
def decideHold (s : State) : State :=
  if s.pe.origin = some .load ∧ s.fsu.contact = .loaded then { s with tu := { s.tu with pressFrozen := true } } else s

/-- Step 2 of an expiry (R79). -/
def decide2 (s : State) : State :=
  match s.pe.leg with
  | .stance => decideStance s
  | .unload => decideUnload s
  | .load => if s.fsu.contact = .loaded then enterStance s true else s
  | .hold => decideHold s
  | _ => s

/-! ## Step 4: motion ends -/

/-- The stub rise end (R96, R131). -/
def endStubRise (s : State) : State :=
  if s.fsu.contact = .air then
    let h := s.tu.plan.h + (s.stubLift : Int) * 1000
    { s with
      pe := { s.pe with stubRise := false }
      tu := { s.tu with
        plan := { s.tu.plan with h := h }
        stub := { s.tu.stub with
          d0 := s.tu.p.z - (s.tu.plan.z0 + profileHeight h s.tu.plan.kEnd s.tu.stub.k) } } }
  else enterLoad s

/-- The re-place end (R100). -/
def endReplace (s : State) : State :=
  let t := { s with pe := { s.pe with replacing := false } }
  if s.fsu.contact ≠ .air then enterLoad t
  else { t with pe := { t.pe with watchArmed := true, footholdT := msTimer t.footholdMs } }

/-- Step 4 of an expiry (R79). -/
def actOnEnd (s : State) : Option MotionEnd → State
  | none => s
  | some .swingEnd => enterSearch s
  | some .stubRiseEnd => endStubRise s
  | some .searchBottom => exhaustSearch s
  | some .replaceEnd => endReplace s

/-- The four steps of a control-period expiry (R79). -/
def controlPeriod (s : State) : State :=
  let t := decide2 (advancePhase s)
  let m := motion t s.pe.leg
  actOnEnd (sendSetpoint (clampFoot m.1)) m.2

/-! ## The result of a support check (R87, R113, R121) -/

/-- A fail in STANCE names the wait reason; a fail with MARGIN takes the result's R, or (0, 0) for a corridor fail, as the
own sway request (R87, R118). -/
def denyLift (s : State) (r : CheckResult) : State :=
  let p := s.pe.withWait r.reason
  { s with pe := { p with ownSway := if r.reason = .margin then some (r.sway.getD { x := 0, y := 0 }) else none } }

/-- A pass in STANCE: the nine conditions are tested again (R87). -/
def passLift (s : State) : State :=
  match liftConditions s with
  | (u, some w) => { u with pe := u.pe.withWait w }
  | (u, none) => enterClaim u

/-- The Phase Engine acts on a result, by the leg state (R87, R91). -/
def actOnResult (s : State) (r : CheckResult) : State :=
  if s.pe.checkPending then
    let t := { s with pe := { s.pe with checkPending := false } }
    match s.pe.leg with
    | .stance => if r.pass then passLift t else denyLift t r
    | .unload => if r.pass then t else cancelUnload t
    | _ => t
  else s

/-- The Support Check Unit completes a check: it returns to IDLE, stores the result, and hands it over (R113). -/
def completeCheck (s : State) (sn : Snapshot) : State :=
  let r := checkResult sn s.marginM s.corridorW s.swayMax
  actOnResult { s with scu := { checking := false, inFlight := none, last := r } } r

end Sys2Proof.Machine
end

