-- ==== Sys2Proof/Machine/Reports.lean ====
section
/-! DEFINITION. The frames the node builds and when: Leg Report (R147), Foot Detail (R77), the Diagnostic blocks (R26, R122,
R148), and the Report Schedule (R145, R146). -/

namespace Sys2Proof.Machine
open Sys2Proof

/-! ## Fields -/

/-- A signed 16-bit field as two bytes, most significant first. -/
def bytes16 (v : Int) : List Byte := [hiByte (BitVec.ofInt 16 v), loByte (BitVec.ofInt 16 v)]

/-- A measured coordinate in µm as whole mm, rounded half away from zero (R139). -/
def footMm (v : Int) : Int := roundHalfAway v 1000

/-- One sway request byte of the Leg Report; 0 unless the wait reason is MARGIN (R118). -/
def swayByte (s : State) (pick : P2 → Int) : Byte :=
  if s.pe.wait = .margin then
    match s.pe.ownSway with
    | some r => BitVec.ofInt 8 (swayUnit (pick r))
    | none => 0#8
  else 0#8

/-- Byte b0 that a Leg Report and a Phase Notice share (R26). -/
def State.reportHead (s : State) : Byte :=
  BitVec.ofNat 8 (s.legPos.code * 64 + s.pe.leg.code * 8 + s.pe.applied.gait.code * 2 + s.fsu.slipping.toNat)

/-- The payload of a Leg Report, built from the state at this instant (R26, R147). -/
def legReportPayload (s : State) : List Byte :=
  [s.reportHead,
   BitVec.ofNat 8 (s.fsu.contact.code * 64 + s.pe.wait.code * 4 + (classALatched s).toNat * 2 + (classBLatched s).toNat),
   BitVec.ofNat 8 (s.pe.phi.toNat / 256),
   s.pe.steps] ++
  bytes16 (footMm s.tu.measured.x) ++ bytes16 (footMm s.tu.measured.y) ++ bytes16 (footMm s.tu.measured.z) ++
  [swayByte s P2.x, swayByte s P2.y,
   BitVec.ofNat 8 (s.tu.stanceLimit.toNat * 128 + s.fsu.degraded.toNat * 64 + s.tu.driveLimit.toNat * 32)]

/-- The foot flags of a Foot Detail's b7 (R26). -/
def footFlags (s : State) : Byte :=
  BitVec.ofNat 8 (s.fsu.slipping.toNat * 128 + s.fsu.degraded.toNat * 64 + s.fsu.ax.limit.toNat * 32 +
    s.fsu.ay.limit.toNat * 16 + s.fsu.az.limit.toNat * 8)

/-- The payload of a Foot Detail (R26, R77). -/
def footDetailPayload (s : State) : List Byte :=
  bytes16 s.fsu.ax.out ++ bytes16 s.fsu.ay.out ++ bytes16 s.fsu.az.out ++
  [BitVec.ofNat 8 s.fsu.contact.code, footFlags s]

/-- The class-A flags of Diagnostic block 4: bit (code − 1). -/
def classABits (s : State) : Byte :=
  (List.finRange 8).foldl (fun b i => if s.flt.flags[i.val] then b ||| BitVec.ofNat 8 (2 ^ i.val) else b) 0#8

/-- The class-B flags of Diagnostic block 4: bit (code − 0x11). -/
def classBBits (s : State) : Half :=
  (List.finRange 9).foldl (fun b i => if s.flt.flags[i.val + 8] then b ||| BitVec.ofNat 16 (2 ^ i.val) else b) 0#16

/-- The sequence of the stored Intent, 0 with an empty MISSION record (R122). -/
def storedSequence (s : State) : Byte :=
  match (s.stationOf .mission).bind s.record with
  | some r => (match r.part with | .mission m => m.seq | _ => 0#8)
  | none => 0#8

/-- Bytes b1 to b10 of a Diagnostic block; bytes not listed are 0 (R26, R148). DESIGN CHOICE (log entry 32): with an empty
first-fault record the epoch in b5 and b6 of block 4 is sent as 0; the spec gives only the code in b4 for it. -/
def blockContent (s : State) : Nat → List Byte
  | 0 => [s.setup.sumC2, s.setup.sumC1, s.setup.clampCount,
          (match s.setup.firstClamped with | some i => BitVec.ofNat 8 i | none => 0xFF#8),
          BitVec.ofNat 8 s.pe.leg.code, s.setup.refused, 0#8, 0#8, 0#8, 0#8]
  | 1 => let c := s.sbi.counters
         [c.rxGood, c.framing, c.check, c.truncated, c.parity, c.unknown, c.stranger, c.arbLost, c.txError, c.sent]
  | 2 => footDetailPayload s ++ [s.fsu.bad, 0#8]
  | 3 => let r := s.scu.last
         [BitVec.ofNat 8 r.n] ++ bytes16 r.margin ++
         [BitVec.ofNat 8 r.pass.toNat, BitVec.ofNat 8 r.reason.code, BitVec.ofNat 8 s.pe.applied.gait.code,
          storedSequence s, 0#8, 0#8, 0#8]
  | 4 => [classABits s, hiByte (classBBits s), loByte (classBBits s)] ++
         (match s.flt.first with
          | some f => [f.code.code, hiByte f.epoch, loByte f.epoch]
          | none => [0#8, 0#8, 0#8]) ++ [0#8, 0#8, 0#8, 0#8]
  | _ => [BitVec.ofNat 8 s.flt.ring.length, s.flt.lost, s.txq.dropped, 0#8, 0#8, 0#8, 0#8, 0#8, 0#8, 0#8]

/-- The blocks that exist (R148). -/
def lastBlock : Nat := 5

/-- A Diagnostic frame of a block is built and placed; block 3 reads the MISSION record (R56, R122, R148). -/
def placeDiagnostic (s : State) (block : Nat) : State :=
  let t := if block = 3 then judgeRole s .mission else s
  placeFrame t (t.newFrame .diagnostic (BitVec.ofNat 8 block :: blockContent t block))

/-! ## Report Schedule (R145, R146) -/

/-- The due test of a schedule entry with a period (R146). -/
def dueAt (epoch offset period : Nat) : Bool := decide (offset ≤ epoch) && (epoch - offset) % period == 0

/-- Whether entry 0, the Leg Report, is due at the epoch (R146). -/
def legReportDue (s : State) : Bool := dueAt s.time.epoch.toNat s.reportOffset s.reportPeriod

/-- Whether entry 1, the Foot Detail, is due at the epoch (R146). -/
def footDetailDue (s : State) : Bool :=
  s.detailPeriod != 0 && dueAt s.time.epoch.toNat s.reportOffset s.detailPeriod

/-- A Leg Report is built and placed. -/
def placeLegReport (s : State) : State := placeFrame s (s.newFrame .legReport (legReportPayload s))

/-- A Foot Detail is built and placed. -/
def placeFootDetail (s : State) : State := placeFrame s (s.newFrame .footDetail (footDetailPayload s))

/-- The Report Schedule examines its entries at an epoch event, entry 0 first (R146). -/
def examineSchedule (s : State) : State :=
  let t := if legReportDue s then placeLegReport s else s
  if footDetailDue t then placeFootDetail t else t

end Sys2Proof.Machine
end

