-- ==== Sys2Proof/Machine/Setup.lean ====
section
/-! DEFINITION. The Setup Block: taking Setup frames (R29, R30), the range table and the clamps (R32), the pair checks and
the roster (R33), the check sum (R34), the release to READY (R35), and the RESTART of every block (R38). -/

namespace Sys2Proof.Machine
open Sys2Proof

/-! ## Step 1: ranges (R32) -/

/-- The range of a parameter word in the first step (R32). -/
inductive ParamRange where
  | any
  | unsigned (lo hi : Nat)
  | signed (lo hi : Int)
  /-- DETAIL_PERIOD: 0, or lo to hi -/
  | zeroOr (lo hi : Nat)
  deriving DecidableEq, Repr

/-- The table of R32, index by index. -/
def paramRange (i : Nat) : ParamRange :=
  match i with
  | 0 => .unsigned 0 3
  | 2 => .signed (-1000) 1000
  | 3 => .signed (-1000) 1000
  | 4 => .signed (-1000) 0
  | 5 => .signed (-1500) 1500
  | 6 => .signed (-1500) 1500
  | 7 => .signed (-1500) 1500
  | 8 => .signed (-1500) 1500
  | 9 => .signed (-1500) 1500
  | 10 => .signed (-1500) 1500
  | 11 => .unsigned 0 255
  | 12 => .unsigned 0 255
  | 13 => .unsigned 0 200
  | 14 => .unsigned 0 200
  | 15 => .unsigned 1 32767
  | 16 => .unsigned 0 32767
  | 17 => .unsigned 0 32767
  | 18 => .unsigned 0 4095
  | 19 => .unsigned 1 255
  | 20 => .unsigned 1 64
  | 21 => .unsigned 20 2000
  | 22 => .unsigned 0 15
  | 39 => .unsigned 10 500
  | 40 => .unsigned 5 50
  | 41 => .unsigned 0 49
  | 42 => .zeroOr 10 250
  | 43 => .unsigned 8 32
  | 44 => .unsigned 0 250
  | 45 => .unsigned 20 400
  | 46 => .unsigned 0 100
  | 47 => .unsigned 0 3
  | 48 => .unsigned 0 120
  | 49 => .unsigned 20 1000
  | 50 => .unsigned 20 1000
  | 51 => .unsigned 50 800
  | 52 => .unsigned 0 63
  | 53 => .unsigned 100 5000
  | _ => .any

/-- An unsigned value replaced by the nearer bound. -/
def clampNat (lo hi v : Nat) : Nat := if v < lo then lo else if hi < v then hi else v

/-- A word brought into its range (R32). -/
def clampWord (r : ParamRange) (w : Half) : Half :=
  match r with
  | .any => w
  | .unsigned lo hi => BitVec.ofNat 16 (clampNat lo hi w.toNat)
  | .signed lo hi => BitVec.ofInt 16 (clampInt lo hi w.toInt)
  | .zeroOr lo hi => if w = 0#16 then w else BitVec.ofNat 16 (clampNat lo hi w.toNat)

/-- An adjustment is counted, and the first one's index recorded (R32, R33). -/
def countClamp (b : SetupBlock) (i : Nat) : SetupBlock :=
  { b with clampCount := satInc b.clampCount, firstClamped := b.firstClamped.orElse fun _ => some i }

/-- A word takes an adjusted value; an adjustment that changes it is counted (R32, R33). -/
def adjustWord (b : SetupBlock) (i : Fin 54) (w : Half) : SetupBlock :=
  if b.words[i] = w then b else countClamp { b with words := b.words.set i w } i.val

/-- The first step of setup completion, in index order (R32). -/
def clampAll (b : SetupBlock) : SetupBlock :=
  (List.finRange 54).foldl (fun b i => adjustWord b i (clampWord (paramRange i.val) b.words[i])) b

/-! ## Step 2: pairs and roster (R33) -/

/-- One axis of the workspace box: a minimum not below its maximum becomes the neutral coordinate −50 and +50, counted once
at the index of the minimum (R33, check 1). -/
def checkBox (b : SetupBlock) (neutral lo hi : Fin 54) : SetupBlock :=
  if (b.words[lo]).toInt < (b.words[hi]).toInt then b
  else
    let n := (b.words[neutral]).toInt
    countClamp { b with words := (b.words.set lo (BitVec.ofInt 16 (n - 50))).set hi (BitVec.ofInt 16 (n + 50)) } lo.val

/-- T_LOADED is raised to T_TOUCH (R33, check 2). -/
def checkLoaded (b : SetupBlock) : SetupBlock :=
  if (b.words[16]).toNat < (b.words[15]).toNat then adjustWord b 16 b.words[15] else b

/-- T_UNLOAD is lowered to T_TOUCH (R33, check 3). -/
def checkUnload (b : SetupBlock) : SetupBlock :=
  if (b.words[15]).toNat < (b.words[17]).toNat then adjustWord b 17 b.words[15] else b

/-- REPORT_OFFSET mod REPORT_PERIOD (R33, check 4). -/
def checkOffset (b : SetupBlock) : SetupBlock :=
  adjustWord b 41 (BitVec.ofNat 16 ((b.words[41]).toNat % (b.words[40]).toNat))

/-- A roster word with the role of one station replaced. -/
def setRole (w : Half) (n : Fin 8) (r : Role) : Half :=
  BitVec.ofNat 16 (w.toNat - (roleIn w n).code * 4 ^ n.val + r.code * 4 ^ n.val)

/-- A roster in which only the lowest-numbered station keeps a role; the others of that role become ABSENT (R33). -/
def keepLowest (w : Half) (r : Role) : Half :=
  (stations.foldl (fun (acc : Half × Bool) n =>
    if roleIn acc.1 n = r then (if acc.2 then setRole acc.1 n .absent else acc.1, true) else acc) (w, false)).1

/-- The roster's three checks (R33, check 5). -/
def checkRoster (b : SetupBlock) (own : Fin 8) : SetupBlock :=
  let b := if roleIn b.words[1] own = .leg then b else adjustWord b 1 (setRole b.words[1] own .leg)
  let b := adjustWord b 1 (keepLowest b.words[1] .body)
  adjustWord b 1 (keepLowest b.words[1] .mission)

/-- The second step of setup completion, in the order of R33. -/
def checkPairs (b : SetupBlock) (own : Fin 8) : SetupBlock :=
  let b := checkBox (checkBox (checkBox b 2 5 6) 3 7 8) 4 9 10
  checkRoster (checkOffset (checkUnload (checkLoaded b))) own

/-! ## Steps 3 and 4 (R34, R35) -/

/-- The 54 words as 108 bytes, each high byte first (R34). -/
def wordBytes (b : SetupBlock) : List Byte := b.words.toList.flatMap fun w => [hiByte w, loByte w]

/-- The setup summary check sum is stored (R34). -/
def storeSum (b : SetupBlock) : SetupBlock :=
  { b with sumC2 := checkC2 (wordBytes b), sumC1 := checkC1 (wordBytes b) }

/-- The Setup Block's first three steps on its own state (R32 to R34). -/
def settleWords (b : SetupBlock) (own : Fin 8) : SetupBlock := storeSum (checkPairs (clampAll b) own)

/-- Each block's state at setup completion (R35, R47, R62, R78, R123, R145). -/
def releaseNode (s : State) : State :=
  { s with
    time := { s.time with epoch := 0#16, epochTimer := some epochUs }
    pt := { s.pt with tilt := false }
    fsu := { FootSense.reset with link := s.fsu.link, bad := s.fsu.bad, watch := some linkWatchUs }
    pe := { PhaseEngine.reset with leg := .ready, period := some controlPeriodUs }
    tu := { Trajectory.reset with
      p := { x := s.neutralX * 1000, y := s.neutralY * 1000, z := s.neutralZ * 1000 }
      measured := s.tu.measured, tag := s.tu.tag, link := s.tu.link } }

/-- Setup completion (R32 to R35): words settled, SETUP_CLAMPED reported, the node released, the schedule examined at epoch
0 (R145), and Diagnostic block 0 placed (log entry 19). -/
def completeSetup (s : State) : State :=
  let t := { s with setup := settleWords s.setup s.sbi.station }
  let t := if t.setup.clampCount = 0#8 then t else reportOccurrence t (.plain .setupClamped)
  placeDiagnostic (examineSchedule (releaseNode t)) 0

/-- A Setup frame is refused (R29, R30). -/
def refuseSetup (s : State) : State := { s with setup := { s.setup with refused := satInc s.setup.refused } }

/-- A Setup frame addressed to the node in SETUP is taken by its index byte (R29). -/
def takeSetup (s : State) (index : Nat) (value : Half) : State :=
  if h : index < 54 then
    let i : Fin 54 := ⟨index, h⟩
    if index = s.setup.ptr then
      let t := { s with setup := { s.setup with words := s.setup.words.set i value, ptr := s.setup.ptr + 1 } }
      if index = 53 then completeSetup t else t
    else if index = 0 then { s with setup := { s.setup with words := s.setup.words.set i value, ptr := 1 } }
    else refuseSetup s
  else refuseSetup s

/-- A Setup frame handed to the Setup Block (R29, R30). -/
def handSetup (s : State) (f : RxFrame) : State :=
  if (f.b 0).toNat = s.sbi.station.val then
    if s.pe.leg = .setup then takeSetup s (f.b 1).toNat (halfAt f.payload 2) else refuseSetup s
  else s

/-! ## RESTART (R38) -/

/-- The values that RESTART gives every block (R14, R25, R38, R59, R62, R78, R113, R123, R144, R145, R149). A check in
flight still completes (R113; log entry 18). -/
def restartBlocks (s : State) : State :=
  { s with
    time := { s.time with epoch := 0#16, epochTimer := some epochUs }
    sbi := { s.sbi with clashWatch := none, counters := Counters.reset }
    pt := PeerTable.reset
    fsu := { FootSense.reset with link := s.fsu.link, watch := some linkWatchUs }
    pe := { PhaseEngine.reset with leg := .ready, period := s.pe.period }
    scu := { SupportUnit.reset with inFlight := s.scu.inFlight }
    tu := { Trajectory.reset with
      p := s.tu.p, measured := s.tu.measured, tag := s.tu.tag, lastZ := s.tu.lastZ, priorZ := s.tu.priorZ
      pressing := s.tu.pressing, setpoint := s.tu.setpoint, line := s.tu.line, sending := s.tu.sending, window := s.tu.window
      link := s.tu.link }
    txq := TxQueue.reset
    flt := FaultUnit.reset }

/-- RESTART: every block, then the schedule at epoch 0 (R38, R145). In SETUP it is ignored. -/
def restartNode (s : State) : State := if s.pe.leg = .setup then s else examineSchedule (restartBlocks s)

end Sys2Proof.Machine
end

