-- ==== Sys2Proof/Machine/Bus.lean ====
section
/-! DEFINITION. The Stride Bus Interface: the end of a reception (R7, R8, R13), arrival of a good frame and its screening
(R13 to R17), station clash (R14), and the life of a frame the node sends (R19 to R22). -/

namespace Sys2Proof.Machine
open Sys2Proof

/-! ## The bus counters (R25) -/

/-- A change of the bus counters. -/
def withCounters (s : State) (c : Counters) : State := { s with sbi := { s.sbi with counters := c } }

/-- frames received good. -/
def countGood (s : State) : State := withCounters s { s.sbi.counters with rxGood := satInc s.sbi.counters.rxGood }
/-- framing errors. -/
def countFraming (s : State) : State := withCounters s { s.sbi.counters with framing := satInc s.sbi.counters.framing }
/-- check errors. -/
def countCheck (s : State) : State := withCounters s { s.sbi.counters with check := satInc s.sbi.counters.check }
/-- truncations. -/
def countTruncated (s : State) : State :=
  withCounters s { s.sbi.counters with truncated := satInc s.sbi.counters.truncated }
/-- claim-parity errors. -/
def countParity (s : State) : State := withCounters s { s.sbi.counters with parity := satInc s.sbi.counters.parity }
/-- unknown kinds. -/
def countUnknown (s : State) : State := withCounters s { s.sbi.counters with unknown := satInc s.sbi.counters.unknown }
/-- stranger frames. -/
def countStranger (s : State) : State :=
  withCounters s { s.sbi.counters with stranger := satInc s.sbi.counters.stranger }
/-- arbitration losses. -/
def countArbLost (s : State) : State := withCounters s { s.sbi.counters with arbLost := satInc s.sbi.counters.arbLost }
/-- transmit bit errors. -/
def countTxError (s : State) : State := withCounters s { s.sbi.counters with txError := satInc s.sbi.counters.txError }
/-- frames sent. -/
def countSent (s : State) : State := withCounters s { s.sbi.counters with sent := satInc s.sbi.counters.sent }

/-! ## Reception (R7, R8, R13) -/

/-- The receive engine ends a frame: WAIT_IDLE, with `recessive` bit times already counted (R7, R8). -/
def endReception (s : State) (recessive : Nat) : State :=
  { s with sbi := { s.sbi with rx := .waitIdle, recessive := recessive, rxAborted := false, dominant := 0 } }

/-- A line event that falls in WAIT_IDLE is not heard; it starts the recessive count again (R7; log entry 9). -/
def notHeard (s : State) (recessive : Nat) : State :=
  { s with sbi := { s.sbi with recessive := recessive, dominant := 0 } }

/-- A reception that fails: nothing is heard while the node transmits (R22) or in WAIT_IDLE; otherwise the frame is
discarded, `count` takes the count, and the engine goes to WAIT_IDLE. `ok`: the operand is one that fails so. -/
def failReception (s : State) (ok : Bool) (recessive : Nat) (count : State → State) : State :=
  if transmitting s || !ok then s
  else if s.sbi.rx = .waitIdle then notHeard s recessive
  else count (endReception s recessive)

/-- The receive engine is in IDLE, the interframe space measured (R7). -/
def lineFree (s : State) : State :=
  { s with sbi := { s.sbi with rx := .idle, recessive := interframeBits, rxAborted := false, dominant := 0 } }

/-- A glitch (R5): the engine is in the state it was in before the edge, nothing is counted, and the recessive time that it
measures, an interframe space or a gap between byte fields, goes on from the rising edge. The edge before the first byte
`got` of a frame took it from IDLE (R7). -/
def passGlitch (s : State) (got : List Byte) : State :=
  if transmitting s ∨ s.sbi.rx = .idle then s
  else if s.sbi.rx = .inFrame ∧ got = [] then lineFree s
  else notHeard s 0

/-- As `failReception`, but a failure in a frame the node has aborted is not counted (R21). -/
def failUncounted (s : State) (ok : Bool) (recessive : Nat) (count : State → State) : State :=
  failReception s ok recessive (if s.sbi.rxAborted then id else count)

/-! ## Arrival of a good frame (R13 to R16) -/

/-- A station clash (R14): reported to the Fault Unit with the frame's kind and arrival time tag, and the clash watch takes
that time. -/
def stationClash (s : State) (k : FrameKind) : State :=
  let t := reportFault s (.stationClash k s.time.us)
  { t with sbi := { t.sbi with clashWatch := some s.time.us } }

/-- Whether a kind is taken from a roster role (R15). A Setup frame is taken from any station. -/
def takenFrom (k : FrameKind) (r : Role) : Bool :=
  match k, r with
  | .setup, _ => true
  | .alarm, .leg => true
  | .alarm, .body => true
  | .alarm, .mission => true
  | .phaseNotice, .leg => true
  | .legReport, .leg => true
  | .bodyReport, .body => true
  | .intent, .mission => true
  | .control, .mission => true
  | .footDetail, .absent => false
  | .footDetail, _ => true
  | .diagnostic, .absent => false
  | .diagnostic, _ => true
  | .event, .absent => false
  | .event, _ => true
  | _, _ => false

/-- Whether a kind has an owner while the node is in SETUP (R16). -/
def takenInSetup (k : FrameKind) : Bool := k == .setup || k == .alarm

/-- A good frame, counted, is screened and delivered: the node's own number is a clash (R14), SETUP takes two kinds (R16),
and after setup the role test decides (R15). -/
def screen (s : State) (f : RxFrame) (k : FrameKind) (deliver : State → State) : State :=
  if f.source = s.sbi.station then stationClash s k
  else if s.pe.leg = .setup then (if takenInSetup k then deliver s else s)
  else if takenFrom k (s.role f.source) then deliver s
  else countStranger s

/-- A good frame of the row's kind arrives (R13). `ok`: the operand is such a frame. While the node transmits no other
frame arrives (R23), and a frame that begins in WAIT_IDLE is not heard (R7). -/
def receive (s : State) (ok : Bool) (f : RxFrame) (k : FrameKind) (deliver : State → State) : State :=
  if transmitting s || !ok then s
  else if s.sbi.rx = .waitIdle then notHeard s 0
  else screen (countGood (endReception s 0)) f k deliver

/-- The screening of an accepted Control frame (R17): `act` is what the row's command does at its owners. -/
def command (s : State) (f : RxFrame) (code : Nat) (act : State → State) : State :=
  let target := (f.b 0).toNat
  if target = s.sbi.station.val ∨ target = 255 then
    if (f.b 1).toNat = code then act s else countUnknown s
  else if 8 ≤ target then countUnknown s
  else s

/-- A Control frame of a row: a good one with the row's command code or with an unknown code (R15, R17). -/
def receiveControl (s : State) (f : RxFrame) (code : Nat) (act : State → State) : State :=
  receive s (controlOf code f) f .control fun t => command t f code act

/-! ## Transmission (R18 to R22) -/

/-- The bytes of a frame on the line: claim byte, payload, C2 and C1 (R6, R11). -/
def TxFrame.line (f : TxFrame) : List Byte :=
  let body := f.claim :: f.payload
  body ++ [checkC2 body, checkC1 body]

/-- The bit that the node is sending: bit txElapsed / bit time of its frame's byte fields, recessive = true; none while no
frame of its own is on the line (R4, R18). The dominant bit in which a frame was aborted is sent to its end (R21). -/
def State.sentBit (s : State) : Option Bool :=
  if transmitting s then (lineBits s.sbi.txLine)[s.sbi.txElapsed / bitTimeUs s.sbi.rateCode]?
  else if 0 < s.sbi.finishing then some false
  else none

/-- The node drives the line only while it sends, and then only during the bits whose value is 0 (R2). -/
def State.drivesLine (s : State) : Bool := s.sentBit == some false

/-- The level of the stride bus, recessive = true: dominant whenever at least one station drives it (R2). -/
def State.lineLevel (s : State) (othersDrive : Bool) : Bool := !(s.drivesLine || othersDrive)

/-- The node drives the start bit of the head frame `f`, which becomes the locked head (R19). -/
def beginFrame (s : State) (f : TxFrame) : State :=
  { s with
    sbi := { s.sbi with
      rx := .inFrame, recessive := 0, rxAborted := false, dominant := 0
      tx := .arbitrating, txElapsed := 0, attempt := some { f with locked := true }, txLine := f.line
      finishing := 0 }
    txq := { s.txq with frames := lockHead s.txq.frames } }

/-- The receive engine takes another station's frame as a listener (R7, R19). -/
def listen (s : State) : State :=
  { s with sbi := { s.sbi with rx := .inFrame, recessive := 0, rxAborted := false, dominant := 0 } }

/-- The transmit side enters TX_IDLE at the end of an attempt. -/
def endAttempt (s : State) : State := { s with sbi := { s.sbi with tx := .idle, attempt := none } }

/-- The frames of the Transmit Queue are replaced. -/
def withFrames (s : State) (l : List TxFrame) : State := { s with txq := { s.txq with frames := l } }

/-- The owner of an aborted frame is told (R21): "claim failed" for a Lift Notice. The record of an Event frame stays, and
its frame is offered again at once (R159). -/
def tellAborted (s : State) (f : TxFrame) : State := offerEvent (if f.isLift then claimFailed s else s)

/-- The owner of a completed frame is told (R22), the retry mark is cleared, and the ring is offered again (R159). -/
def tellCompleted (s : State) (f : TxFrame) : State :=
  let t := if f.isLift then claimCompleted s
    else if f.isEvent then { s with flt := { s.flt with ring := s.flt.ring.tail } }
    else s
  offerEvent { t with flt := { t.flt with retry := false } }

/-- Microseconds from the start bit to the last stop bit of the frame (R4). -/
def frameTimeUs (s : State) (f : TxFrame) : Nat := (10 * (f.payload.length + 3) - 1) * bitTimeUs s.sbi.rateCode

/-- A loss of arbitration (R20): the frame is unlocked and stays, or is discarded when its attempt was detached (R143). A
claim whose timeout has passed is given up (R108). -/
def loseArbitration (s : State) (f : TxFrame) : State :=
  let t := countArbLost (endAttempt (withFrames s (unlockAll s.txq.frames)))
  if f.isLift ∧ s.pe.leg = .claim ∧ s.pe.timeoutPassed then giveUpClaim t else t

/-- What is left of the bit that the node is sending (R4). -/
def bitRest (s : State) : Nat := bitTimeUs s.sbi.rateCode - s.sbi.txElapsed % bitTimeUs s.sbi.rateCode

/-- The receive engine at an abort: it follows the rest of the frame as a listener (R21); a start bit of the claim byte that
reads recessive was a glitch (R5; log entry 33). -/
def followAborted (s : State) : State :=
  if s.sbi.txElapsed < bitTimeUs s.sbi.rateCode then lineFree s
  else { s with sbi := { s.sbi with rxAborted := true } }

/-- An abort by a bit error (R21). A dominant bit is driven to its end. -/
def abortFrame (s : State) (f : TxFrame) : State :=
  let t := countTxError (endAttempt (withFrames s (dropLocked s.txq.frames)))
  let u := { t with sbi := { t.sbi with finishing := if s.sentBit = some false then bitRest s else 0 } }
  tellAborted (followAborted u) f

/-- A transmit completion (R22), which is also the frame's arrival at the node's own receive engine (R13). -/
def completeFrame (s : State) (f : TxFrame) : State :=
  tellCompleted (countSent (endReception (endAttempt (withFrames s (dropLocked s.txq.frames))) 0)) f

end Sys2Proof.Machine
end

