-- ==== Sys2Proof/Machine/Arrivals.lean ====
section
/-! DEFINITION. Meanings of the good frames that are not commands: STATION_CLASH, SETUP_FRAME, ALARM_RECEIVED, the four
frames of the Peer Table and the information frames; the claim protocol's part of a Phase Notice (R106, R110, R111); the two
clash watches and the ageing read. -/

namespace Sys2Proof.Machine
open Sys2Proof

/-- STATION_CLASH (R14): a good frame with the node's own station number that the node did not complete. -/
def execStationClash (dt : Nat) (frame : RxFrame) (s : State) : Host.Outcome State Fault Refusal :=
  let t := elapse s dt
  let own := decide (frame.source = t.sbi.station)
  .next (match frame.kind with
    | some k => receive t (frame.good && own) frame k id
    | none => t)

/-- SETUP_FRAME (R29, R30): from any station, in every leg state. -/
def execSetupFrame (dt : Nat) (frame : RxFrame) (s : State) : Host.Outcome State Fault Refusal :=
  .next (receive (elapse s dt) (goodOfKind .setup frame) frame .setup fun t => handSetup t frame)

/-- An Alarm handed to the Fault Unit (R153). -/
def takeAlarm (s : State) (src : Fin 8) (cause : Byte) : State :=
  if s.pe.leg = .hold then { s with flt := { s.flt with alarmsInHold := satInc s.flt.alarmsInHold } }
  else
    let t := recordEvent s (.alarmFrom src) cause
    if s.pe.leg.walking then recordEvent (directHold t) .holdEntered (BitVec.ofNat 8 s.pe.leg.code) else t

/-- ALARM_RECEIVED (R153). -/
def execAlarmReceived (dt : Nat) (frame : RxFrame) (s : State) : Host.Outcome State Fault Refusal :=
  .next (receive (elapse s dt) (goodOfKind .alarm frame) frame .alarm fun t =>
    takeAlarm t frame.source (frame.b 0))

/-- Whether a station is an exclusive neighbour, by the leg position its record holds and the gait applied (R57, R58). -/
def exclusiveNeighbour (s : State) (src : Fin 8) : Bool :=
  match s.legOf src with
  | some l => exclusiveUnder s.pe.applied.gait (relation s.legPos l.pos)
  | none => false

/-- A Lift Notice of a peer, stored, reaches the Phase Engine (R106, R110). -/
def hearLift (s : State) (src : Fin 8) : State :=
  if exclusiveNeighbour s src then
    if s.pe.leg = .claim then giveUpClaim s
    else if s.pe.leg.stepping then placeFrame s (s.noticeFrame .conflict (BitVec.ofNat 8 src.val))
    else s
  else s

/-- A CONFLICT that names this node reaches the Phase Engine (R111); the report of OVERLAP carries its sender. -/
def namedInConflict (s : State) (src : Fin 8) : State :=
  match s.pe.leg with
  | .claim => giveUpClaim s
  | .unload => cancelUnload s
  | .swing | .search | .load => reportOccurrence s (.overlap src)
  | .stance | .hold => recordEvent s .namedInConflict (BitVec.ofNat 8 src.val)
  | .setup | .ready => s

/-- The Phase Engine's part of a stored Phase Notice (R106, R110, R111). -/
def hearNotice (s : State) (src : Fin 8) (f : RxFrame) : State :=
  if (f.b 1).toNat = Notice.lift.code then hearLift s src
  else if (f.b 1).toNat = Notice.conflict.code ∧ (f.b 3).toNat = s.sbi.station.val then namedInConflict s src
  else s

/-- A Phase Notice: the position test, storage, and then the Phase Engine (R15, R44, R51). -/
def takeNotice (s : State) (src : Fin 8) (f : RxFrame) : State :=
  if positionClashes s src (carriedPos f) then positionClash s src (carriedPos f)
  else hearNotice (storeNotice s src f) src f

/-- PHASE_NOTICE_RECEIVED (R44). -/
def execPhaseNoticeReceived (dt : Nat) (frame : RxFrame) (s : State) : Host.Outcome State Fault Refusal :=
  .next (receive (elapse s dt) (goodOfKind .phaseNotice frame) frame .phaseNotice fun t =>
    takeNotice t frame.source frame)

/-- A Leg Report: the position test, then storage (R43, R51). -/
def takeLegReport (s : State) (src : Fin 8) (f : RxFrame) : State :=
  if positionClashes s src (carriedPos f) then positionClash s src (carriedPos f) else storeLegReport s src f

/-- LEG_REPORT_RECEIVED (R43). -/
def execLegReportReceived (dt : Nat) (frame : RxFrame) (s : State) : Host.Outcome State Fault Refusal :=
  .next (receive (elapse s dt) (goodOfKind .legReport frame) frame .legReport fun t =>
    takeLegReport t frame.source frame)

/-- BODY_REPORT_RECEIVED (R46, R47). -/
def execBodyReportReceived (dt : Nat) (frame : RxFrame) (s : State) : Host.Outcome State Fault Refusal :=
  .next (receive (elapse s dt) (goodOfKind .bodyReport frame) frame .bodyReport fun t =>
    storeBody t frame.source frame)

/-- INTENT_RECEIVED (R48, R49). -/
def execIntentReceived (dt : Nat) (frame : RxFrame) (s : State) : Host.Outcome State Fault Refusal :=
  .next (receive (elapse s dt) (goodOfKind .intent frame) frame .intent fun t => storeIntent t frame.source frame)

/-- INFO_FRAME_RECEIVED (R15): counted as received good and handed to no block. -/
def execInfoFrameReceived (dt : Nat) (frame : RxFrame) (s : State) : Host.Outcome State Fault Refusal :=
  let t := elapse s dt
  .next (match frame.kind with
    | some k => receive t (infoFrame frame) frame k id
    | none => t)

/-- SBI_CLASH_WATCH_EXPIRY (R14). -/
def execSbiClashWatchExpiry (dt : Nat) (s : State) : Host.Outcome State Fault Refusal :=
  let t := elapse s dt
  .next (if watchPassed t t.sbi.clashWatch then
    endStationClash { t with sbi := { t.sbi with clashWatch := none } }
  else t)

/-- PT_CLASH_WATCH_EXPIRY (R52). -/
def execPtClashWatchExpiry (dt : Nat) (s : State) : Host.Outcome State Fault Refusal :=
  let t := elapse s dt
  .next (if watchPassed t t.pt.clashWatch then
    endPositionClash { t with pt := { t.pt with clashWatch := none } }
  else t)

/-- AGEING_READ (R55): every present record is read, lowest station first. -/
def execAgeingRead (dt : Nat) (s : State) : Host.Outcome State Fault Refusal :=
  let t := elapse s dt
  .next (if t.pe.leg ≠ .setup ∧ t.time.us.toNat % ageingUs = 0 then t.peers.foldl judge t else t)

end Sys2Proof.Machine
end

