-- ==== Sys2Proof/Machine/Control.lean ====
section
/-! DEFINITION. Meanings of the six Control commands: START (R37), RESTART (R38), RESUME (R155, R156), CLEAR_FAULTS (R157),
QUERY (R148), EVENT_TEST (R160). -/

namespace Sys2Proof.Machine
open Sys2Proof

/-! ## START (R37) -/

/-- START is accepted: STANCE, φ and step count 0, the applied record from the effective intent, the turn record awaiting
and the lead mark set; p is the last measured position (R37, R80, R84, R85, R139). -/
def beginWalk (s : State) : State :=
  let t := changePoint
    { s with
      pe := { s.pe.enter .stance with phi := 0#16, steps := 0#8 }
      tu := { s.tu with p := s.tu.measured } }
  { t with pe := { t.pe with turn := none, lead := true } }

/-- START at its owner (R37). -/
def takeStart (s : State) : State :=
  if s.pe.leg = .ready then
    if classALatched s then recordEvent s .startRefused 1#8
    else if s.tu.started then beginWalk s
    else recordEvent s .startRefused 2#8
  else s

/-- START. -/
def execStart (dt : Nat) (frame : RxFrame) (s : State) : Host.Outcome State Fault Refusal :=
  .next (receiveControl (elapse s dt) frame 1 takeStart)

/-! ## RESTART (R38) -/

/-- RESTART. -/
def execRestart (dt : Nat) (frame : RxFrame) (s : State) : Host.Outcome State Fault Refusal :=
  .next (receiveControl (elapse s dt) frame 2 restartNode)

/-! ## RESUME (R155, R156) -/

/-- A refused RESUME (R156): one Alarm HOLD_PERSISTS with detail 7, and the event with the lowest latched class-A code. -/
def refuseResume (s : State) : State := recordEvent (placeAlarm s holdPersists 7#8) .resumeRefused (lowestClassA s)

/-- The alarms counted in HOLD are recorded and the count is emptied (R155). -/
def recordHeldAlarms (s : State) : State :=
  if s.flt.alarmsInHold = 0#8 then s
  else
    let t := recordEvent s .alarmsDuringHold s.flt.alarmsInHold
    { t with flt := { t.flt with alarmsInHold := 0#8 } }

/-- The Phase Engine's common part of a taken RESUME (R155). -/
def leaveHold (s : State) : State :=
  let t := changePoint { s with pe := { s.pe with phi := 0#16 } }
  { t with pe := { t.pe with turn := none, lead := true, origin := none }.withWait .none }

/-- The state that a taken RESUME enters, by the contact class (R155). -/
def resumeState : Contact → LegState
  | .loaded => .stance
  | .touch => .load
  | .air => .search

/-- Entry to LOAD at RESUME: the press from p as its contact point, and the load timer (R155). -/
def resumeLoad (s : State) : State :=
  { s with pe := { s.pe.enter .load with loadT := msTimer s.loadMs }, tu := { s.tu with contact := s.tu.p } }

/-- Entry to SEARCH in its descent phase at RESUME (R155). -/
def resumeSearch (s : State) : State :=
  { s with
    pe := { s.pe.enter .search with
      attempts := 0, deadlinePassed := false, watchArmed := true, replacing := false
      footholdT := msTimer s.footholdMs }
    tu := { s.tu with plan := { s.tu.plan with z0 := s.tu.p.z, h := (s.pe.applied.step : Int) * 1000 } } }

/-- The state chosen by the contact class is entered (R155). -/
def resumeEnter (s : State) : State :=
  match s.fsu.contact with
  | .loaded => { s with pe := s.pe.enter .stance }
  | .touch => resumeLoad s
  | .air => resumeSearch s

/-- A taken RESUME (R155). -/
def resumeWalk (s : State) : State :=
  let t := resumeEnter (leaveHold (recordHeldAlarms s))
  recordEvent t .resumeTaken (BitVec.ofNat 8 t.pe.leg.code)

/-- RESUME at its owners (R155, R156). -/
def takeResume (s : State) : State :=
  if s.pe.leg = .hold then (if classALatched s then refuseResume s else resumeWalk s) else s

/-- RESUME. -/
def execResume (dt : Nat) (frame : RxFrame) (s : State) : Host.Outcome State Fault Refusal :=
  .next (receiveControl (elapse s dt) frame 3 takeResume)

/-! ## CLEAR_FAULTS (R157) -/

/-- Every flag whose condition has ended is cleared, and an empty set of flags empties the first-fault record (R157). -/
def dropFlags (s : State) : State :=
  let flags := Vector.ofFn fun i : Fin 17 => s.flt.flags[i] && s.flt.conds[i]
  { s with flt := { s.flt with
      flags := flags
      first := if (List.finRange 17).any fun i => flags[i] then s.flt.first else none } }

/-- CLEAR_FAULTS at the Fault Unit (R157). -/
def takeClear (s : State) : State :=
  let t := dropFlags s
  recordEvent t .faultsCleared (BitVec.ofNat 8 (latchedCount t))

/-- CLEAR_FAULTS. -/
def execClearFaults (dt : Nat) (frame : RxFrame) (s : State) : Host.Outcome State Fault Refusal :=
  .next (receiveControl (elapse s dt) frame 4 takeClear)

/-! ## QUERY and EVENT_TEST (R148, R160) -/

/-- QUERY at the Transmit Queue: blocks 0 to 5 are answered, the others are ignored (R148). -/
def takeQuery (s : State) (block : Byte) : State :=
  if block.toNat ≤ lastBlock then placeDiagnostic s block.toNat else s

/-- QUERY. -/
def execQuery (dt : Nat) (frame : RxFrame) (s : State) : Host.Outcome State Fault Refusal :=
  .next (receiveControl (elapse s dt) frame 5 fun t => takeQuery t (frame.b 2))

/-- The detail of the TEST event (R160). -/
def testDetail : Byte := 0xA5#8

/-- EVENT_TEST. -/
def execEventTest (dt : Nat) (frame : RxFrame) (s : State) : Host.Outcome State Fault Refusal :=
  .next (receiveControl (elapse s dt) frame 6 fun t => recordEvent t .test testDetail)

end Sys2Proof.Machine
end

