-- ==== Sys2Proof/Machine/Line.lean ====
section
/-! DEFINITION. Meanings of FULL_RESET, of the bus line's idle and stuck events, of the transmit side's rows, and of the
reception failures (R5, R7 to R10, R12, R18 to R24, R27). -/

namespace Sys2Proof.Machine
open Sys2Proof

/-- FULL_RESET (R27): every block at its full-reset values, with the straps sampled now (R3). -/
def execFullReset (station : Fin 8) (rate : Fin 4) (s : State) : Host.Outcome State Fault Refusal :=
  .next { State.resetWith station rate with pending := s.pending }

/-- The line has recovered (R24): STUCK is left and the end of BUS_STUCK is reported, with its event (R151). -/
def recoverLine (s : State) : State :=
  if s.sbi.tx = .stuck then
    recordEvent (endFault { s with sbi := { s.sbi with tx := .idle } } .busStuck) .lineRecovered 0#8
  else s

/-- The receive engine enters IDLE from WAIT_IDLE (R7). -/
def enterIdle (s : State) : State :=
  recoverLine (lineFree s)

/-- INTERFRAME_SPACE (R7, R24). -/
def execInterframeSpace (dt : Nat) (s : State) : Host.Outcome State Fault Refusal :=
  let t := elapse s dt
  .next (if t.sbi.rx = .waitIdle then enterIdle t else t)

/-- TX_BEGIN (R19): the head frame is begun, or another station's start edge comes first and the node listens. -/
def execTxBegin (dt : Nat) (deferred : Bool) (s : State) : Host.Outcome State Fault Refusal :=
  let t := elapse s dt
  .next (if t.sbi.tx = .idle ∧ t.sbi.rx = .idle then
    match t.txq.frames with
    | [] => t
    | f :: _ => if deferred then listen t else beginFrame t f
  else t)

/-- ARBITRATION_LOSS (R20): the claim-byte bit `bit`, sent recessive, is read dominant. -/
def execArbitrationLoss (dt : Nat) (bit : Fin 8) (s : State) : Host.Outcome State Fault Refusal :=
  let t := elapse s dt
  .next (match t.sbi.attempt with
    | some f => if t.sbi.tx = .arbitrating ∧ f.claim.getLsbD bit.val then loseArbitration t f else t
    | none => t)

/-- TX_ABORT (R21). A recessive bit read dominant is an abort only after the data bits of the claim byte (R20). -/
def execTxAbort (dt : Nat) (sentRecessive : Bool) (s : State) : Host.Outcome State Fault Refusal :=
  let t := elapse s dt
  .next (match t.sbi.attempt with
    | some f =>
      if t.sbi.tx = .sending ∨ (t.sbi.tx = .arbitrating ∧ sentRecessive = false) then abortFrame t f else t
    | none => t)

/-- TX_COMPLETION (R22): in the last stop bit of the frame. -/
def execTxCompletion (dt : Nat) (s : State) : Host.Outcome State Fault Refusal :=
  let t := elapse s dt
  .next (match t.sbi.attempt with
    | some f => if t.sbi.tx = .sending ∧ frameTimeUs t f ≤ t.sbi.txElapsed then completeFrame t f else t
    | none => t)

/-- BUS_STUCK (R24). The node is never transmitting at this event. -/
def execBusStuck (dt : Nat) (s : State) : Host.Outcome State Fault Refusal :=
  let t := elapse s dt
  .next (if transmitting t then t
    else reportFault
      { t with sbi := { t.sbi with
          rx := .waitIdle, recessive := 0, rxAborted := false, dominant := stuckBits, tx := .stuck } }
      (.plain .busStuck))

/-- FRAMING_ERROR (R5): the byte field `field`, after the accepted bytes `got`, ends with a dominant stop bit, or its start
bit reads recessive and the edge was a glitch (log entry 33). -/
def execFramingError (dt : Nat) (got : List Byte) (field : Samples) (s : State) : Host.Outcome State Fault Refusal :=
  let t := elapse s dt
  .next (if glitchField got field then passGlitch t got else failUncounted t (framingEnd got field) 0 countFraming)

/-- TRUNCATION (R8): the 3 recessive bit times count toward the next interframe space. -/
def execTruncation (dt : Nat) (got : List Byte) (s : State) : Host.Outcome State Fault Refusal :=
  .next (failUncounted (elapse s dt) (partialFrame got) gapBits countTruncated)

/-- CLAIM_PARITY_ERROR (R9; log entry 17). -/
def execClaimParityError (dt : Nat) (claim : Byte) (s : State) : Host.Outcome State Fault Refusal :=
  .next (failReception (elapse s dt) (badParity claim) 0 countParity)

/-- UNKNOWN_KIND (R10; log entry 17). -/
def execUnknownKind (dt : Nat) (claim : Byte) (s : State) : Host.Outcome State Fault Refusal :=
  .next (failReception (elapse s dt) (unknownClaim claim) 0 countUnknown)

/-- CHECK_ERROR (R12). -/
def execCheckError (dt : Nat) (frame : RxFrame) (s : State) : Host.Outcome State Fault Refusal :=
  .next (failUncounted (elapse s dt) (frame.complete && !frame.checkAgrees) 0 countCheck)

end Sys2Proof.Machine
end

