-- ==== Sys2Proof/Machine/Links.lean ====
section
/-! DEFINITION. Meanings of the rows of the two local links: the foot link (R60 to R63, R72) and the drive link (R135 to
R139). -/

namespace Sys2Proof.Machine
open Sys2Proof

/-! ## Foot link -/

/-- The foot link receive engine ends a frame (R60). -/
def endFootFrame (s : State) : State := { s with fsu := { s.fsu with link := .waitIdle } }

/-- A Force Sample frame ends on the foot link: one that begins in WAIT_IDLE is not heard (R60; log entry 9). `ok`: the
operand is one of the row's. -/
def footFrame (s : State) (ok : Bool) (take : State → State) : State :=
  if ok && s.fsu.link != .waitIdle then take (endFootFrame s) else s

/-- A good sample at the unit; in SETUP it is discarded (R62). -/
def acceptSample (s : State) (l : List Byte) : State :=
  if s.pe.leg = .setup then s else takeSample s (halfAt l 0) (halfAt l 2) (halfAt l 4)

/-- FORCE_SAMPLE_GOOD (R61, R63). -/
def execForceSampleGood (dt : Nat) (bytes : List Byte) (s : State) : Host.Outcome State Fault Refusal :=
  .next (footFrame (elapse s dt) (forceFrame false bytes) fun t => acceptSample t bytes)

/-- A bad sample is counted, in every leg state (R61), and sets the recovery run to 0 (R76). -/
def countBadSample (s : State) : State := { s with fsu := { s.fsu with bad := satInc s.fsu.bad, recovery := 0 } }

/-- FORCE_SAMPLE_BAD (R61). -/
def execForceSampleBad (dt : Nat) (ended : LinkEnd) (s : State) : Host.Outcome State Fault Refusal :=
  .next (footFrame (elapse s dt) (badForce ended) countBadSample)

/-- FORCE_SAMPLE_UNFIT (R61): discarded, not counted as bad; the link watch runs on. -/
def execForceSampleUnfit (dt : Nat) (bytes : List Byte) (s : State) : Host.Outcome State Fault Refusal :=
  .next (footFrame (elapse s dt) (forceFrame true bytes) id)

/-- FOOT_LINK_LOST (R72). -/
def execFootLinkLost (dt : Nat) (s : State) : Host.Outcome State Fault Refusal :=
  let t := elapse s dt
  .next (if due t.fsu.watch ∧ t.pe.leg ≠ .setup then loseLink t else t)

/-- FOOT_LINK_IDLE (R60). -/
def execFootLinkIdle (dt : Nat) (s : State) : Host.Outcome State Fault Refusal :=
  let t := elapse s dt
  .next (if t.fsu.link = .waitIdle then { t with fsu := { t.fsu with link := .idle } } else t)

/-! ## Drive link -/

/-- The state a Status frame carries (R135); a code of 4 or more names none. -/
inductive DriveState where
  | ok | limit | fault | off
  deriving DecidableEq, Repr

/-- The drive state of a state code (R135, R137). -/
def driveStateOf (n : Nat) : Option DriveState :=
  match n with
  | 0 => some .ok
  | 1 => some .limit
  | 2 => some .fault
  | 3 => some .off
  | _ => none

/-- The drive state named in a Status frame. -/
def statusState (l : List Byte) : Option DriveState := driveStateOf (byteAt l 1).toNat

/-- Whether a Status frame is the reply: window open, tag of the last Setpoint, state 0 to 3 (R137). -/
def isReply (s : State) (l : List Byte) : Bool :=
  statusFrame l && s.tu.window.isSome && byteAt l 0 == s.tu.tag

/-- The drive link receive engine ends a frame (R135). -/
def endDriveFrame (s : State) : State := { s with tu := { s.tu with link := .waitIdle } }

/-- The reply closes the window, empties the miss count and ends a drive-lost condition (R137). -/
def closeReply (s : State) : State :=
  let t := { s with tu := { s.tu with window := none, misses := 0#8 } }
  if s.tu.driveLost then endFault { t with tu := { t.tu with driveLost := false } } .driveLost else t

/-- The measured position of a Status frame, each coordinate × 100 µm (R139). -/
def statusPoint (l : List Byte) : P3 :=
  { x := sgn (halfAt l 2) * 100, y := sgn (halfAt l 4) * 100, z := sgn (halfAt l 6) * 100 }

/-- A taken measured position (R139); in READY p becomes it. -/
def takeMeasured (s : State) (q : P3) : State :=
  { s with tu := { s.tu with measured := q, p := if s.pe.leg = .ready then q else s.tu.p } }

/-- The drive-fault condition becomes active if ended, and DRIVE_FAULT is reported, with the detail OFF where the drive
answered OFF (R138). DESIGN CHOICE (log entry 34): no rule says where that detail is held or shown, and it is so nowhere. -/
def raiseDriveFault (s : State) (off : Bool) : State :=
  if s.tu.driveFault then s
  else reportFault { s with tu := { s.tu with driveFault := true } } (.driveFault off)

/-- The drive-fault condition ends if active, and the end is reported (R138). -/
def endDriveFault (s : State) : State :=
  if s.tu.driveFault then endFault { s with tu := { s.tu with driveFault := false } } .driveFault else s

/-- The drive-limit flag takes a value (R138). -/
def setDriveLimit (s : State) (b : Bool) : State := { s with tu := { s.tu with driveLimit := b } }

/-- The started mark is set (R138). -/
def setStarted (s : State) : State := { s with tu := { s.tu with started := true } }

/-- What a taken reply hands the Foot Sense Unit (R75, R139, point 3): the Setpoint answered is the last one sent. -/
def handStatus (s : State) (q : P3) : State := degradedJudge s q.z (s.tu.lastZ.getD 0) s.tu.pressing

/-- The reply's drive state (R138), then the degraded judgement where the measured position is taken (R139; log entry
15). -/
def driveReply (s : State) (d : DriveState) (q : P3) : State :=
  match d with
  | .ok => handStatus (setStarted (endDriveFault (setDriveLimit (takeMeasured s q) false))) q
  | .limit => handStatus (setStarted (endDriveFault (setDriveLimit (takeMeasured s q) true))) q
  | .fault => handStatus (raiseDriveFault (setDriveLimit (takeMeasured s q) false) false) q
  | .off =>
    let t := setDriveLimit s false
    if t.pe.leg.walking then raiseDriveFault t true else t

/-- STATUS_REPLY (R137, R138, R139). -/
def execStatusReply (dt : Nat) (bytes : List Byte) (s : State) : Host.Outcome State Fault Refusal :=
  let t := elapse s dt
  .next (if isReply t bytes && t.tu.link != .waitIdle then
    match statusState bytes with
    | some d => driveReply (closeReply (endDriveFrame t)) d (statusPoint bytes)
    | none => t
  else t)

/-- Whether what ended on the drive link is a bad reply: a failed frame, or ten bytes that are not the reply (R135, R137). -/
def isBadReply (s : State) (e : LinkEnd) : Bool :=
  linkFailed statusFields e ||
    (match e with | .whole l => l.length == statusFields && !isReply s l | _ => false)

/-- BAD_REPLY (R137): discarded; the window stays as it was. -/
def execBadReply (dt : Nat) (ended : LinkEnd) (s : State) : Host.Outcome State Fault Refusal :=
  let t := elapse s dt
  .next (if isBadReply t ended && t.tu.link != .waitIdle then endDriveFrame t else t)

/-- SETPOINT_END (R136): the answer window opens. -/
def execSetpointEnd (dt : Nat) (s : State) : Host.Outcome State Fault Refusal :=
  let t := elapse s dt
  .next (if due t.tu.sending then { t with tu := { t.tu with sending := none, window := some windowUs } } else t)

/-- The misses that raise DRIVE_LOST (R137). -/
def missLimit : Byte := 3#8

/-- A miss (R137): the count goes up, and at 3 with the condition ended DRIVE_LOST is reported. -/
def missReply (s : State) : State :=
  let t := { s with tu := { s.tu with window := none, misses := satInc s.tu.misses } }
  if t.tu.misses = missLimit ∧ s.tu.driveLost = false then
    reportFault { t with tu := { t.tu with driveLost := true } } (.plain .driveLost)
  else t

/-- ANSWER_WINDOW_CLOSE (R137). -/
def execAnswerWindowClose (dt : Nat) (s : State) : Host.Outcome State Fault Refusal :=
  let t := elapse s dt
  .next (if due t.tu.window then missReply t else t)

/-- DRIVE_LINK_IDLE (R135). -/
def execDriveLinkIdle (dt : Nat) (s : State) : Host.Outcome State Fault Refusal :=
  let t := elapse s dt
  .next (if t.tu.link = .waitIdle then { t with tu := { t.tu with link := .idle } } else t)

end Sys2Proof.Machine
end

