-- ==== Sys2Proof/Machine/Timers.lean ====
section
/-! DEFINITION. Meanings of the node's own clock: the control period (R79), the support check's result (R87, R113), the
five deadlines (R92, R98, R102, R104, R108) and the epoch (R145). -/

namespace Sys2Proof.Machine
open Sys2Proof

/-- CONTROL_PERIOD_EXPIRY (R79). The timer starts again at once; in SETUP it is stopped. -/
def execControlPeriodExpiry (dt : Nat) (s : State) : Host.Outcome State Fault Refusal :=
  let t := elapse s dt
  .next (if due t.pe.period ∧ t.pe.leg ≠ .setup then
    controlPeriod { t with pe := { t.pe with period := some controlPeriodUs } }
  else t)

/-- SUPPORT_CHECK_RESULT (R87, R113): the check in flight completes. -/
def execSupportCheckResult (dt : Nat) (s : State) : Host.Outcome State Fault Refusal :=
  let t := elapse s dt
  .next (match t.scu.inFlight with
    | some sn => completeCheck t sn
    | none => t)

/-- The claim timer at its expiry (R108): a locked notice sets the timeout-passed mark, an unlocked one is removed and the
claim given up. -/
def expireClaim (s : State) : State :=
  let t := { s with pe := { s.pe with claimT := none } }
  if liftLocked t then { t with pe := { t.pe with timeoutPassed := true } } else giveUpClaim t

/-- CLAIM_TIMER_EXPIRY (R108). -/
def execClaimTimerExpiry (dt : Nat) (s : State) : Host.Outcome State Fault Refusal :=
  let t := elapse s dt
  .next (if due t.pe.claimT ∧ t.pe.leg = .claim then expireClaim t else t)

/-- UNLOAD_TIMER_EXPIRY (R92). -/
def execUnloadTimerExpiry (dt : Nat) (s : State) : Host.Outcome State Fault Refusal :=
  let t := elapse s dt
  .next (if due t.pe.unloadT ∧ t.pe.leg = .unload then cancelUnload (recordEvent t .unloadStuck 0#8) else t)

/-- The foothold timer at its expiry: the deadline-passed mark in SWING, exhaustion in a SEARCH descent (R98). -/
def expireFoothold (s : State) : State :=
  let t := { s with pe := { s.pe with footholdT := none } }
  match s.pe.leg with
  | .swing => { t with pe := { t.pe with deadlinePassed := true } }
  | .search => if s.pe.replacing then t else exhaustSearch t
  | _ => t

/-- FOOTHOLD_TIMER_EXPIRY (R98, R99). -/
def execFootholdTimerExpiry (dt : Nat) (s : State) : Host.Outcome State Fault Refusal :=
  let t := elapse s dt
  .next (if due t.pe.footholdT then expireFoothold t else t)

/-- The load timer at its expiry (R102): STANCE without a LOADED notice, WEAK_FOOTHOLD, and the load-pending mark. -/
def expireLoad (s : State) : State :=
  let t := reportFault (enterStance s false) (.plain .weakFoothold)
  { t with pe := { t.pe with loadPending := true } }

/-- LOAD_TIMER_EXPIRY (R102). -/
def execLoadTimerExpiry (dt : Nat) (s : State) : Host.Outcome State Fault Refusal :=
  let t := elapse s dt
  .next (if due t.pe.loadT ∧ t.pe.leg = .load then expireLoad t else t)

/-- The slip timer at its expiry (R104). -/
def expireSlip (s : State) : State :=
  reportFault { s with pe := { s.pe with slipT := none, slipReported := true } } (.plain .slipPersist)

/-- SLIP_TIMER_EXPIRY (R104). -/
def execSlipTimerExpiry (dt : Nat) (s : State) : Host.Outcome State Fault Refusal :=
  let t := elapse s dt
  .next (if due t.pe.slipT then expireSlip t else t)

/-- The epoch advances, and the Report Schedule examines its entries (R145, R146). -/
def tickEpoch (s : State) : State :=
  examineSchedule { s with time := { s.time with epoch := s.time.epoch + 1#16, epochTimer := some epochUs } }

/-- EPOCH_TICK (R145). -/
def execEpochTick (dt : Nat) (s : State) : Host.Outcome State Fault Refusal :=
  let t := elapse s dt
  .next (if due t.time.epochTimer then tickEpoch t else t)

end Sys2Proof.Machine
end

