-- ==== Sys2Proof/Machine/Dispatch.lean ====
section
/-! DEFINITION. One arm per command: a direct call of the command's meaning. -/

namespace Sys2Proof.Machine
open Sys2Proof

def exec (i : Instr) (s : State) : Host.Outcome State Fault Refusal :=
  match i with
  | .fullReset station rate => Sys2Proof.Machine.execFullReset station rate s
  | .interframeSpace dt => Sys2Proof.Machine.execInterframeSpace dt s
  | .txBegin dt deferred => Sys2Proof.Machine.execTxBegin dt deferred s
  | .arbitrationLoss dt bit => Sys2Proof.Machine.execArbitrationLoss dt bit s
  | .txAbort dt sentRecessive => Sys2Proof.Machine.execTxAbort dt sentRecessive s
  | .txCompletion dt => Sys2Proof.Machine.execTxCompletion dt s
  | .framingError dt got field => Sys2Proof.Machine.execFramingError dt got field s
  | .truncation dt got => Sys2Proof.Machine.execTruncation dt got s
  | .claimParityError dt claim => Sys2Proof.Machine.execClaimParityError dt claim s
  | .unknownKind dt claim => Sys2Proof.Machine.execUnknownKind dt claim s
  | .checkError dt frame => Sys2Proof.Machine.execCheckError dt frame s
  | .stationClash dt frame => Sys2Proof.Machine.execStationClash dt frame s
  | .sbiClashWatchExpiry dt => Sys2Proof.Machine.execSbiClashWatchExpiry dt s
  | .busStuck dt => Sys2Proof.Machine.execBusStuck dt s
  | .setupFrame dt frame => Sys2Proof.Machine.execSetupFrame dt frame s
  | .alarmReceived dt frame => Sys2Proof.Machine.execAlarmReceived dt frame s
  | .phaseNoticeReceived dt frame => Sys2Proof.Machine.execPhaseNoticeReceived dt frame s
  | .legReportReceived dt frame => Sys2Proof.Machine.execLegReportReceived dt frame s
  | .bodyReportReceived dt frame => Sys2Proof.Machine.execBodyReportReceived dt frame s
  | .intentReceived dt frame => Sys2Proof.Machine.execIntentReceived dt frame s
  | .infoFrameReceived dt frame => Sys2Proof.Machine.execInfoFrameReceived dt frame s
  | .start dt frame => Sys2Proof.Machine.execStart dt frame s
  | .restart dt frame => Sys2Proof.Machine.execRestart dt frame s
  | .resume dt frame => Sys2Proof.Machine.execResume dt frame s
  | .clearFaults dt frame => Sys2Proof.Machine.execClearFaults dt frame s
  | .query dt frame => Sys2Proof.Machine.execQuery dt frame s
  | .eventTest dt frame => Sys2Proof.Machine.execEventTest dt frame s
  | .ageingRead dt => Sys2Proof.Machine.execAgeingRead dt s
  | .ptClashWatchExpiry dt => Sys2Proof.Machine.execPtClashWatchExpiry dt s
  | .forceSampleGood dt bytes => Sys2Proof.Machine.execForceSampleGood dt bytes s
  | .forceSampleBad dt ended => Sys2Proof.Machine.execForceSampleBad dt ended s
  | .forceSampleUnfit dt bytes => Sys2Proof.Machine.execForceSampleUnfit dt bytes s
  | .footLinkLost dt => Sys2Proof.Machine.execFootLinkLost dt s
  | .statusReply dt bytes => Sys2Proof.Machine.execStatusReply dt bytes s
  | .badReply dt ended => Sys2Proof.Machine.execBadReply dt ended s
  | .setpointEnd dt => Sys2Proof.Machine.execSetpointEnd dt s
  | .answerWindowClose dt => Sys2Proof.Machine.execAnswerWindowClose dt s
  | .controlPeriodExpiry dt => Sys2Proof.Machine.execControlPeriodExpiry dt s
  | .supportCheckResult dt => Sys2Proof.Machine.execSupportCheckResult dt s
  | .claimTimerExpiry dt => Sys2Proof.Machine.execClaimTimerExpiry dt s
  | .unloadTimerExpiry dt => Sys2Proof.Machine.execUnloadTimerExpiry dt s
  | .footholdTimerExpiry dt => Sys2Proof.Machine.execFootholdTimerExpiry dt s
  | .loadTimerExpiry dt => Sys2Proof.Machine.execLoadTimerExpiry dt s
  | .slipTimerExpiry dt => Sys2Proof.Machine.execSlipTimerExpiry dt s
  | .epochTick dt => Sys2Proof.Machine.execEpochTick dt s
  | .footLinkIdle dt => Sys2Proof.Machine.execFootLinkIdle dt s
  | .driveLinkIdle dt => Sys2Proof.Machine.execDriveLinkIdle dt s

end Sys2Proof.Machine
end

