-- ==== Sys2Proof/Safety.lean ====
section
/-! DEFINITION. The terms in which statements speak: what a safe state is (the invariants that the spec's prose promises),
when a frame is heard and by whom it is taken, and the shape that a state has after a frame has been taken off the line. -/

namespace Sys2Proof.Machine
open Sys2Proof

/-! ## Invariants -/

/-- The fixed buffers keep their bounds: at most 8 frames (R140), at most 16 records (R158), pointer 0 to 54 (R29). -/
def BuffersBounded (s : State) : Prop :=
  s.txq.frames.length ≤ 8 ∧ s.flt.ring.length ≤ 16 ∧ s.setup.ptr ≤ 54

/-- While any class-A fault is latched, a node in a walking state is in HOLD (R152). -/
def HeldWhileFaulty (s : State) : Prop :=
  classALatched s = true → s.pe.leg.walking = true → s.pe.leg = .hold

/-- The record of the node's own station is empty (R41), nothing is stored in SETUP (R28), and no two present LEG records
carry the same leg position, nor the node's own (R51). -/
def PositionsDistinct (s : State) : Prop :=
  s.record s.sbi.station = none ∧
  (s.pe.leg = .setup → ∀ n, s.record n = none) ∧
  (∀ n l, s.legOf n = some l → l.pos ≠ s.legPos) ∧
  (∀ n m l k, n ≠ m → s.legOf n = some l → s.legOf m = some k → l.pos ≠ k.pos)

/-- A filter output lies within −32768..32767 (R65). -/
def outInRange (v : Int) : Prop := -32768 ≤ v ∧ v ≤ 32767

/-- The Foot Sense Unit's numbers keep their ranges: outputs (R65), refill count (R66), stuck run (R73). -/
def SensingInRange (s : State) : Prop :=
  outInRange s.fsu.ax.out ∧ outInRange s.fsu.ay.out ∧ outInRange s.fsu.az.out ∧ s.fsu.refill ≤ 17 ∧
  s.fsu.stuckRun ≤ 512

/-- How many frames of the queue are of a kind. -/
def kindCount (l : List TxFrame) (k : FrameKind) : Nat := (l.filter fun f => f.kind == some k).length

/-- How many Diagnostic frames of a block the queue holds. -/
def blockCount (l : List TxFrame) (b : Byte) : Nat :=
  (l.filter fun f => f.kind == some .diagnostic && byteAt f.payload 0 == b).length

/-- The queue stands in claim order, holds only frames of this node, and at most one Leg Report, Foot Detail, Alarm, Event
frame and Diagnostic of each block (R140, R141). -/
def QueueOrdered (s : State) : Prop :=
  s.txq.frames.Pairwise (fun f g => f.claim.toNat ≤ g.claim.toNat) ∧
  (∀ f ∈ s.txq.frames, ∃ k, f.claim = claimByte k s.sbi.station) ∧
  (∀ k, k = .legReport ∨ k = .footDetail ∨ k = .alarm ∨ k = .event → kindCount s.txq.frames k ≤ 1) ∧
  (∀ b, blockCount s.txq.frames b ≤ 1)

/-- While the ring holds a record and the retry mark is clear, an Event frame waits in the queue (R159). -/
def RingOffered (s : State) : Prop :=
  s.flt.ring ≠ [] → s.flt.retry = false → s.txq.frames.any TxFrame.isEvent = true

/-- The transmit side and the queue agree: a frame is on the line exactly while the node transmits, and at most one frame is
locked, none while it does not (R18, R140). -/
def LockHeld (s : State) : Prop :=
  (s.sbi.attempt.isSome = transmitting s) ∧
  (s.txq.frames.filter TxFrame.locked).length ≤ 1 ∧
  (transmitting s = false → ∀ f ∈ s.txq.frames, f.locked = false)

/-- A Lift Notice is in the queue only while the leg is in CLAIM, and never twice (R141, R143); one on the line belongs to a
leg in CLAIM that holds it locked, or to a leg that has gone to HOLD (R105, R109). -/
def LiftOnlyInClaim (s : State) : Prop :=
  (s.txq.frames.filter TxFrame.isLift).length ≤ 1 ∧
  (s.txq.frames.any TxFrame.isLift = true → s.pe.leg = .claim) ∧
  (∀ f, s.sbi.attempt = some f → f.isLift = true →
    (s.pe.leg = .claim ∧ liftLocked s = true) ∨ s.pe.leg = .hold)

/-- In CLAIM φ stands at β (R82, R89). -/
def ClaimAtBeta (s : State) : Prop := s.pe.leg = .claim → s.pe.phi = s.beta

/-- The CLASH condition is active while either of its sources is (R150, R151). -/
def ClashFromSources (s : State) : Prop :=
  s.flt.conds[FaultCode.clash.idx] = (s.flt.clashStation || s.flt.clashPosition)

/-- The workspace box has room on each axis and lies within ±1500 mm (R32, R33). -/
def BoxSane (s : State) : Prop :=
  (-1500 ≤ s.boxXMin ∧ s.boxXMin < s.boxXMax ∧ s.boxXMax ≤ 1500) ∧
  (-1500 ≤ s.boxYMin ∧ s.boxYMin < s.boxYMax ∧ s.boxYMax ≤ 1500) ∧
  (-1500 ≤ s.boxZMin ∧ s.boxZMin < s.boxZMax ∧ s.boxZMax ≤ 1500)

/-- Once setup has completed the box is sane, and the Setpoint sent carries x, y and z, in 0.1 mm, inside it (R136). -/
def SetpointInBox (s : State) : Prop :=
  s.pe.leg ≠ .setup →
    BoxSane s ∧
    ∀ p, s.tu.setpoint = some p →
      (s.boxXMin * 10 ≤ p.x.toInt ∧ p.x.toInt ≤ s.boxXMax * 10) ∧
      (s.boxYMin * 10 ≤ p.y.toInt ∧ p.y.toInt ≤ s.boxYMax * 10) ∧
      (s.boxZMin * 10 ≤ p.z.toInt ∧ p.z.toInt ≤ s.boxZMax * 10)

/-- A word lies in its range of R32. -/
def inParamRange (r : ParamRange) (w : Half) : Prop :=
  match r with
  | .any => True
  | .unsigned lo hi => lo ≤ w.toNat ∧ w.toNat ≤ hi
  | .signed lo hi => lo ≤ w.toInt ∧ w.toInt ≤ hi
  | .zeroOr lo hi => w = 0#16 ∨ (lo ≤ w.toNat ∧ w.toNat ≤ hi)

/-- What the first two steps of setup completion leave of the words (R32, R33): every word in its range, each minimum of the
box below its maximum, T_UNLOAD at most T_TOUCH at most T_LOADED, REPORT_OFFSET below REPORT_PERIOD, the own station LEG, and
at most one BODY and one MISSION station. -/
def ParamsSettled (w : Vector Half 54) (own : Fin 8) : Prop :=
  (∀ i : Fin 54, inParamRange (paramRange i.val) w[i]) ∧
  (w[5].toInt < w[6].toInt ∧ w[7].toInt < w[8].toInt ∧ w[9].toInt < w[10].toInt) ∧
  (w[17].toNat ≤ w[15].toNat ∧ w[15].toNat ≤ w[16].toNat) ∧
  w[41].toNat < w[40].toNat ∧
  roleIn w[1] own = .leg ∧
  (∀ n m, roleIn w[1] n = .body → roleIn w[1] m = .body → n = m) ∧
  (∀ n m, roleIn w[1] n = .mission → roleIn w[1] m = .mission → n = m)

/-- What the first step makes of a word: one in its range is kept, any other becomes the nearer bound (R32). -/
def ranged (r : ParamRange) (w : Half) : Half :=
  match r with
  | .any => w
  | .unsigned lo hi => BitVec.ofNat 16 (max lo (min hi w.toNat))
  | .signed lo hi => BitVec.ofInt 16 (max lo (min hi w.toInt))
  | .zeroOr lo hi => if w = 0#16 then 0#16 else BitVec.ofNat 16 (max lo (min hi w.toNat))

/-- The word of an index after the first step (R32). -/
def rangedAt (w : Vector Half 54) (i : Fin 54) : Half := ranged (paramRange i.val) w[i]

/-- The role of a station once the own one is LEG (R33, check 5). -/
def ownLeg (r : Half) (own n : Fin 8) : Role := if n = own then .leg else roleIn r n

/-- The role that settling leaves a station: of several BODY or MISSION stations the lowest keeps its role (R33, check 5). -/
def settledRole (r : Half) (own n : Fin 8) : Role :=
  let role := ownLeg r own n
  if (role = .body ∨ role = .mission) ∧ ∃ m : Fin 8, m < n ∧ ownLeg r own m = role then .absent else role

/-- More than one station has a role (R33, check 5). -/
def repeated (r : Half) (own : Fin 8) (role : Role) : Prop :=
  ∃ n m : Fin 8, m < n ∧ ownLeg r own n = role ∧ ownLeg r own m = role

/-- The indices adjusted, in the order of the adjustments (R32, R33). -/
def Adjusted (w : Vector Half 54) (own : Fin 8) (l : List Nat) : Prop :=
  let v := rangedAt w
  ∃ body mission : List Nat,
    (repeated w[1] own .body → body = [1]) ∧ (¬ repeated w[1] own .body → body = []) ∧
    (repeated w[1] own .mission → mission = [1]) ∧ (¬ repeated w[1] own .mission → mission = []) ∧
    l = ((List.finRange 54).filter fun i => v i ≠ w[i]).map Fin.val ++
      (if (v 5).toInt < (v 6).toInt then [] else [5]) ++ (if (v 7).toInt < (v 8).toInt then [] else [7]) ++
      (if (v 9).toInt < (v 10).toInt then [] else [9]) ++ (if (v 16).toNat < (v 15).toNat then [16] else []) ++
      (if (v 15).toNat < (v 17).toNat then [17] else []) ++ (if (v 40).toNat ≤ (v 41).toNat then [41] else []) ++
      (if roleIn w[1] own = .leg then [] else [1]) ++ body ++ mission

/-- What the first two steps of setup completion make of the words `w` (R32, R33). -/
def SettledFrom (w : Vector Half 54) (own : Fin 8) (f : Vector Half 54) : Prop :=
  let v := rangedAt w
  let box (neutral lo hi : Fin 54) : Prop :=
    if (v lo).toInt < (v hi).toInt then f[lo] = v lo ∧ f[hi] = v hi
    else f[lo].toInt = (v neutral).toInt - 50 ∧ f[hi].toInt = (v neutral).toInt + 50
  (∀ i : Fin 54, i.val ∉ [1, 5, 6, 7, 8, 9, 10, 16, 17, 41] → f[i] = v i) ∧
  box 2 5 6 ∧ box 3 7 8 ∧ box 4 9 10 ∧
  f[16].toNat = max (v 16).toNat (v 15).toNat ∧ f[17].toNat = min (v 17).toNat (v 15).toNat ∧
  f[41].toNat = (v 41).toNat % (v 40).toNat ∧
  (∀ n, roleIn f[1] n = settledRole w[1] own n)

/-! ## Frames that are heard -/

/-- The receive engine can take a frame: the node is not transmitting (R23) and the interframe space has passed (R7). -/
def Hears (s : State) : Prop := transmitting s = false ∧ s.sbi.rx ≠ .waitIdle

/-- A good frame of a kind from another station, heard (R12, R13). -/
def FromPeer (s : State) (f : RxFrame) (k : FrameKind) : Prop :=
  Hears s ∧ goodOfKind k f = true ∧ f.source ≠ s.sbi.station

/-- A good frame from a station whose roster role its kind is taken from, heard after setup (R15). -/
def Accepted (s : State) (f : RxFrame) (k : FrameKind) : Prop :=
  FromPeer s f k ∧ s.pe.leg ≠ .setup ∧ takenFrom k (s.role f.source) = true

/-- A Control frame of MISSION that names this node, or all, and carries the command code (R17). -/
def Commanded (s : State) (f : RxFrame) (code : Nat) : Prop :=
  Accepted s f .control ∧ ((f.b 0).toNat = s.sbi.station.val ∨ (f.b 0).toNat = 255) ∧ (f.b 1).toNat = code

/-- The state in which a good frame reaches its owners: time has passed, the receive engine is in WAIT_IDLE, and the frame
is counted as received good (R7, R13, R25). -/
def heard (s : State) (dt : Nat) : State :=
  let t := elapse s dt
  { t with sbi := { t.sbi with
      rx := .waitIdle, recessive := 0, rxAborted := false, dominant := 0
      counters := { t.sbi.counters with rxGood := satInc t.sbi.counters.rxGood } } }

/-- The state after a frame that fails: the receive engine is in WAIT_IDLE with `r` recessive bit times counted (R7, R8). -/
def unheard (s : State) (dt r : Nat) : State :=
  let t := elapse s dt
  { t with sbi := { t.sbi with rx := .waitIdle, recessive := r, rxAborted := false, dominant := 0 } }

/-! ## Rules over all commands -/

/-- The microseconds that a command brings; a full reset brings none. -/
def dtOf : Instr → Option Nat
  | .fullReset _ _ => none
  | .interframeSpace dt => some dt
  | .txBegin dt _ => some dt
  | .arbitrationLoss dt _ => some dt
  | .txAbort dt _ => some dt
  | .txCompletion dt => some dt
  | .framingError dt _ _ => some dt
  | .truncation dt _ => some dt
  | .claimParityError dt _ => some dt
  | .unknownKind dt _ => some dt
  | .checkError dt _ => some dt
  | .stationClash dt _ => some dt
  | .sbiClashWatchExpiry dt => some dt
  | .busStuck dt => some dt
  | .setupFrame dt _ => some dt
  | .alarmReceived dt _ => some dt
  | .phaseNoticeReceived dt _ => some dt
  | .legReportReceived dt _ => some dt
  | .bodyReportReceived dt _ => some dt
  | .intentReceived dt _ => some dt
  | .infoFrameReceived dt _ => some dt
  | .start dt _ => some dt
  | .restart dt _ => some dt
  | .resume dt _ => some dt
  | .clearFaults dt _ => some dt
  | .query dt _ => some dt
  | .eventTest dt _ => some dt
  | .ageingRead dt => some dt
  | .ptClashWatchExpiry dt => some dt
  | .forceSampleGood dt _ => some dt
  | .forceSampleBad dt _ => some dt
  | .forceSampleUnfit dt _ => some dt
  | .footLinkLost dt => some dt
  | .statusReply dt _ => some dt
  | .badReply dt _ => some dt
  | .setpointEnd dt => some dt
  | .answerWindowClose dt => some dt
  | .controlPeriodExpiry dt => some dt
  | .supportCheckResult dt => some dt
  | .claimTimerExpiry dt => some dt
  | .unloadTimerExpiry dt => some dt
  | .footholdTimerExpiry dt => some dt
  | .loadTimerExpiry dt => some dt
  | .slipTimerExpiry dt => some dt
  | .epochTick dt => some dt
  | .footLinkIdle dt => some dt
  | .driveLinkIdle dt => some dt

/-- How many of the receive-side error counters, orders 2 to 7 of R25, differ. -/
def errorCountersChanged (a b : Counters) : Nat :=
  (a.framing != b.framing).toNat + (a.check != b.check).toNat + (a.truncated != b.truncated).toNat +
  (a.parity != b.parity).toNat + (a.unknown != b.unknown).toNat + (a.stranger != b.stranger).toNat

/-- The rows that a frame on the stride bus from another transmitter can be. -/
def frameCommand : Instr → Bool
  | .framingError _ _ _ | .truncation _ _ | .claimParityError _ _ | .unknownKind _ _ | .checkError _ _
  | .stationClash _ _ | .setupFrame _ _ | .alarmReceived _ _ | .phaseNoticeReceived _ _ | .legReportReceived _ _
  | .bodyReportReceived _ _ | .intentReceived _ _ | .infoFrameReceived _ _ | .start _ _ | .restart _ _ | .resume _ _
  | .clearFaults _ _ | .query _ _ | .eventTest _ _ => true
  | _ => false

/-- The row of a Control command code (R17). -/
def controlCommand (dt : Nat) (f : RxFrame) : Nat → Option Instr
  | 1 => some (.start dt f)
  | 2 => some (.restart dt f)
  | 3 => some (.resume dt f)
  | 4 => some (.clearFaults dt f)
  | 5 => some (.query dt f)
  | 6 => some (.eventTest dt f)
  | _ => none

/-- The changes of leg state of the table of section 5.1, full reset apart. -/
def mayMove : LegState → LegState → Bool
  | .setup, .ready => true
  | .ready, .stance => true
  | .stance, .claim | .stance, .hold | .stance, .ready => true
  | .claim, .unload | .claim, .stance | .claim, .hold | .claim, .ready => true
  | .unload, .swing | .unload, .stance | .unload, .hold | .unload, .ready => true
  | .swing, .load | .swing, .search | .swing, .hold | .swing, .ready => true
  | .search, .load | .search, .hold | .search, .ready => true
  | .load, .stance | .load, .hold | .load, .ready => true
  | .hold, .stance | .hold, .load | .hold, .search | .hold, .ready => true
  | _, _ => false

/-! ## What a command leaves behind -/

/-- An event as R158 lists it: category bit, code and detail. -/
structure Note where
  bit    : Nat
  code   : Nat
  detail : Byte
  deriving DecidableEq, Repr

/-- Whether a category is let in: before setup completion every one, from then on by EVENT_MASK (R28, R158). -/
def letIn (s : State) (bit : Nat) : Bool := s.pe.leg == .setup || s.eventMask.getLsbD bit

/-- Ring and events-lost count after one more event of the state `s` (R158). -/
def noteIn (s : State) (log : List EventRecord × Byte) (n : Note) : List EventRecord × Byte :=
  if letIn s n.bit then
    if log.1.length < 16 then
      (log.1 ++ [{ code := BitVec.ofNat 8 n.code, detail := n.detail, epoch := s.time.epoch }], log.2)
    else (log.1, satInc log.2)
  else log

/-- From `s` to `t` exactly these events have been recorded, in this order (R158). -/
def Logs (s t : State) (ns : List Note) : Prop :=
  (t.flt.ring, t.flt.lost) = ns.foldl (noteIn s) (s.flt.ring, s.flt.lost)

/-- The queue of `t` is `q`, or `q` with the Event frame of the oldest record placed in it (R159). -/
def Offered (s t : State) (q : TxQueue) : Prop :=
  t.txq = q ∨ ∃ r, t.flt.ring.head? = some r ∧ t.txq = (q.place (s.eventFrame r)).1

/-- Every block but the Phase Engine, the Trajectory Unit, the Transmit Queue and the Fault Unit stands as it stood. -/
def SameElsewhere (s t : State) : Prop :=
  t.time = s.time ∧ t.sbi = s.sbi ∧ t.setup = s.setup ∧ t.pt = s.pt ∧ t.fsu = s.fsu ∧ t.scu = s.scu ∧
  t.pending = s.pending

/-- From `s` to `t` nothing has happened but that these events were recorded, and the ring offered to the queue: no flag, no
condition, no leg state has moved. -/
def OnlyLogs (s t : State) (ns : List Note) : Prop :=
  SameElsewhere s t ∧ t.pe = s.pe ∧ t.tu = s.tu ∧
  t.flt.flags = s.flt.flags ∧ t.flt.conds = s.flt.conds ∧ t.flt.clashStation = s.flt.clashStation ∧
  t.flt.clashPosition = s.flt.clashPosition ∧ t.flt.first = s.flt.first ∧ t.flt.alarmsInHold = s.flt.alarmsInHold ∧
  Logs s t ns ∧ Offered s t s.txq

/-- A walking leg that was not in HOLD has been put in HOLD (R105, with the HOLD motion marks of R154); any other leg stands
as it stood. In CLAIM the origin and φ are left open here (log entry 25). -/
def Stopped (s t : State) : Prop :=
  if s.pe.leg.walking = true ∧ s.pe.leg ≠ .hold then
    t.pe.leg = .hold ∧
    (s.pe.leg ≠ .claim →
      t.pe = { s.pe with
        leg := .hold, origin := some s.pe.leg, wait := .none, ownSway := none, checkPending := false
        timeoutPassed := false, claimT := none, unloadT := none, footholdT := none, loadT := none, slipT := none }) ∧
    t.tu = { s.tu with
      descentStopped := (s.pe.leg == .swing || s.pe.leg == .search) && s.fsu.contact != .air
      pressFrozen := false }
  else t.pe = s.pe ∧ t.tu = s.tu

/-- The event "fault latched" of a report whose flag was clear (R150). -/
def latchNote (s : State) (c : FaultCode) : List Note :=
  if s.flt.flags[c.idx] then [] else [{ bit := 4, code := 0x01, detail := c.code }]

/-- The 17 faults (R26). -/
def allFaults : List FaultCode :=
  [.driveFault, .driveLost, .noFoothold, .slipPersist, .tilt, .clash, .busStuck, .overlap, .footLinkLost, .forceStuck,
   .filterLimit, .peerSilent, .bodySilent, .intentSilent, .weakFoothold, .workspaceClamp, .setupClamped]

/-- The fault of which an event tells (R150, step 3): "fault latched" carries its code, "peer silent" is PEER_SILENT. -/
def Note.fault (n : Note) : Option FaultCode :=
  if n.bit = 4 ∧ n.code = 0x01 then allFaults.find? fun c => c.code == n.detail
  else if n.bit = 4 ∧ n.code = 0x02 then some .peerSilent
  else none

/-- The first-fault record after these events: an empty one takes the first fault among them whose flag was clear, with the
epoch (R150, step 2). -/
def firstAfter (s : State) (ns : List Note) : Option FirstFault :=
  s.flt.first.or
    ((ns.findSome? fun n => n.fault.filter fun c => !s.flt.flags[c.idx]).map fun c => { code := c, epoch := s.time.epoch })

/-- From `s` to `t` exactly these events have been recorded, in this order, and the first-fault record is what their faults
make of it (R150, R158). -/
def Reported (s t : State) (ns : List Note) : Prop := Logs s t ns ∧ t.flt.first = firstAfter s ns

/-- The event "hold entered" of a leg that is put in HOLD (R152, R153). -/
def holdNote (s : State) : List Note :=
  if s.pe.leg.walking = true ∧ s.pe.leg ≠ .hold then
    [{ bit := 4, code := 0x03, detail := BitVec.ofNat 8 s.pe.leg.code }]
  else []

/-- The Alarm of a class-A report (R141, R152): a leg that walks and is not in HOLD places one, its cause the fault code and
its detail the code of the leg state at the report. In a queue that held none and has room, or meets its invariants, that
frame stands, and it is the only Alarm; where one waited, that one stays, and no other is added. -/
def AlarmPlaced (s t : State) (c : FaultCode) : Prop :=
  let alarm : TxFrame :=
    { claim := claimByte .alarm s.sbi.station, payload := [c.code, BitVec.ofNat 8 s.pe.leg.code], locked := false }
  if (s.pe.leg.walking = true ∧ s.pe.leg ≠ .hold) ∧ ∀ g ∈ s.txq.frames, g.kind ≠ some .alarm then
    (∀ g ∈ t.txq.frames, g.kind = some .alarm → g = alarm) ∧
    (s.txq.frames.length ≤ 6 ∨ (QueueOrdered s ∧ LockHeld s) → alarm ∈ t.txq.frames)
  else
    (∀ g ∈ t.txq.frames, g.kind = some .alarm → g ∈ s.txq.frames) ∧
    (s.pe.leg.walking = true → s.pe.leg ≠ .hold → QueueOrdered s → LockHeld s →
      ∃ g ∈ t.txq.frames, g.kind = some .alarm)

/-- What the Fault Unit makes of a class-A report (R150, R152): the flag is latched, an empty first-fault record has taken
code and epoch, the events are recorded, and the Alarm is placed. The conditions are stated beside it. -/
def FaultRecorded (s t : State) (c : FaultCode) (ns : List Note) : Prop :=
  t.flt.flags = s.flt.flags.set c.idx true ∧
  t.flt.first = (if s.flt.flags[c.idx] then s.flt.first
    else some (s.flt.first.getD { code := c, epoch := s.time.epoch })) ∧
  t.flt.alarmsInHold = s.flt.alarmsInHold ∧
  Logs s t ns ∧
  AlarmPlaced s t c

/-- A class-A fault has been taken (R150, R152): it is recorded with its Alarm, a walking leg is in HOLD, and the other
blocks stand as they stood. -/
def FaultTaken (s t : State) (c : FaultCode) (ns : List Note) : Prop :=
  SameElsewhere s t ∧ FaultRecorded s t c ns ∧ Stopped s t

/-- A frame of this source with this leg position clashes: it is the node's own, or that of another peer's record (R51). -/
def Clashes (s : State) (src : Fin 8) (p : LegPos) : Prop :=
  p = s.legPos ∨ ∃ n l, n ≠ src ∧ n ≠ s.sbi.station ∧ s.legOf n = some l ∧ l.pos = p

/-- The LEG part of a source's record is now `l`, with the arrival's tag, no stale mark and the given notice guard; no other
record has changed, and PEER_SILENT has ended if no LEG record carries a mark any more (R43, R44, R54). -/
def LegStored (s t : State) (src : Fin 8) (guard : Bool) (l : LegPart) : Prop :=
  t.record src = some { tag := s.time.us, stale := false, guard := guard, part := .leg l } ∧
  (∀ n, n ≠ src → t.record n = s.record n) ∧
  t.pt.peerSilent = (s.pt.peerSilent && anyLegMarked t) ∧
  t.pt.bodySilent = s.pt.bodySilent ∧ t.pt.intentSilent = s.pt.intentSilent ∧ t.pt.tilt = s.pt.tilt ∧
  t.pt.clashWatch = s.pt.clashWatch

/-- The conditions after a stored LEG frame (R54, R151). -/
def legConds (s t : State) : Vector Bool 17 :=
  if s.pt.peerSilent && !anyLegMarked t then s.flt.conds.set FaultCode.peerSilent.idx false else s.flt.conds

/-- A read of this station's record would set its stale mark: it is present, unmarked and older than its limit (R53). -/
def ReadMarks (s : State) (n : Fin 8) : Prop :=
  ∃ r, s.record n = some r ∧ r.stale = false ∧ staleLimit s r < ageOf s r.tag

/-- A read of this station's record finds it fresh: it is present, its mark is clear, and its age is at most its limit
(R53). -/
def ReadFresh (s : State) (n : Fin 8) : Prop :=
  ∃ r, s.record n = some r ∧ r.stale = false ∧ (s.time.us - r.tag).toNat ≤ staleLimit s r

/-- The state with every record judged at this instant: one older than its limit carries its stale mark (R53). What a block
that reads goes by is what it finds here. -/
def aged (s : State) : State :=
  { s with pt := { s.pt with
      records := s.pt.records.map fun o => o.map fun r =>
        { r with stale := r.stale || decide (staleLimit s r < (s.time.us - r.tag).toNat) } } }

/-- The silence fault of a record's role (R54). -/
def silenceOf : Part → FaultCode
  | .leg _ => .peerSilent
  | .body _ => .bodySilent
  | .mission _ => .intentSilent

/-- What the record of a peer that a read marks holds (R41, R53). -/
def markedPart (s : State) (n : Fin 8) : Option Part :=
  match s.record n with
  | some r =>
    if n ≠ s.sbi.station ∧ r.stale = false ∧ staleLimit s r < (s.time.us - r.tag).toNat then some r.part else none
  | none => none

/-- A read of every peer's record marks one whose role has this silence fault. -/
def newlySilent (s : State) (c : FaultCode) : Bool :=
  (List.finRange 8).any fun n => (markedPart s n).map silenceOf == some c

/-- The events of a read of every peer's record, lowest station first: "peer silent" with the station for each LEG record
marked, "fault latched" for a BODY or MISSION silence whose flag was clear (R54, R150, R158). -/
def silenceNotes (s : State) : List Note :=
  (List.finRange 8).flatMap fun n =>
    match (markedPart s n).map silenceOf with
    | none => []
    | some .peerSilent => [{ bit := 4, code := 0x02, detail := BitVec.ofNat 8 n.val }]
    | some c =>
      if s.flt.flags[c.idx] ∨ ∃ m < n, (markedPart s m).map silenceOf = some c then []
      else [{ bit := 4, code := 0x01, detail := c.code }]

/-- The event of a record whose read sets its stale mark: "peer silent" with the station for a LEG record, "fault latched"
for a BODY or MISSION silence whose flag was clear (R53, R54, R150). -/
def SilenceNote (s : State) (x : Note) : Prop :=
  ∃ n r, s.record n = some r ∧ ReadMarks s n ∧
    match silenceOf r.part with
    | .peerSilent => x = { bit := 4, code := 0x02, detail := BitVec.ofNat 8 n.val }
    | c => x ∈ latchNote s c

/-- As `Reported`, with the silence events of the records that reads have marked, in the order read, between `pre` and
`post`. -/
def ReportedAmongReads (s t : State) (pre post : List Note) : Prop :=
  ∃ ns, (∀ x ∈ ns, SilenceNote s x) ∧ Reported s t (pre ++ ns ++ post)

/-- The first silence fault of such a read whose flag was clear (R54, R150). -/
def firstSilent (s : State) : Option FaultCode :=
  (List.finRange 8).findSome? fun n =>
    ((markedPart s n).map silenceOf).filter fun c => !s.flt.flags[c.idx]

/-- A claim given up (R92, R106): STANCE with φ at β and CLAIM_LOST, the claim timer stopped. -/
def claimLostPe (s : State) : PhaseEngine :=
  { s.pe with
    leg := .stance, checkPending := false, claimT := none, timeoutPassed := false, phi := s.beta
    wait := .claimLost, ownSway := none }

/-- A cancelled unload (R92): STANCE with φ at β and CLAIM_LOST, the unload timer stopped. -/
def cancelledPe (s : State) : PhaseEngine :=
  { s.pe with
    leg := .stance, checkPending := false, unloadT := none, phi := s.beta, wait := .claimLost, ownSway := none }

/-- The queue without its Lift Notice (R143). -/
def withoutLift (q : TxQueue) : TxQueue := { q with frames := q.frames.filter fun f => !f.isLift }

/-- A point keeps a margin of at least `m` mm from the edge S to E, on its left: the cross product is not negative, and its
square is at least m² times the edge's squared length (R116, R117). -/
def Inside (a b p : P2) (m : Nat) : Prop :=
  let ex := b.x - a.x
  let ey := b.y - a.y
  let s := ex * (p.y - a.y) - ey * (p.x - a.x)
  0 ≤ s ∧ (m * m : Int) * (ex * ex + ey * ey) ≤ s * s

/-- A point lies in the corridor of half width `w` mm between two feet (R117). -/
def InCorridor (a b p : P2) (w : Nat) : Prop :=
  let ex := b.x - a.x
  let ey := b.y - a.y
  let s := ex * (p.y - a.y) - ey * (p.x - a.x)
  let t := ex * (p.x - a.x) + ey * (p.y - a.y)
  let q := ex * ex + ey * ey
  q ≠ 0 ∧ s * s ≤ (w * w : Int) * q ∧ 0 ≤ t ∧ t ≤ q

/-- `k` is the margin of a point from the edge S to E: floor(s / L), L the least integer whose square is at least the edge's
squared length (R116). -/
def EdgeMarginIs (a b p : P2) (k : Int) : Prop :=
  let ex := b.x - a.x
  let ey := b.y - a.y
  let s := ex * (p.y - a.y) - ey * (p.x - a.x)
  let q := ex * ex + ey * ey
  ∃ l : Nat, q ≤ l * l ∧ (∀ n : Nat, q ≤ n * n → l ≤ n) ∧ k * l ≤ s ∧ s < (k + 1) * l

/-- `m` is the margin of a point in the triangle A, B, C: the least of its three edge margins, clamped (R116). -/
def TriangleMarginIs (a b c p : P2) (m : Int) : Prop :=
  ∃ x y z : Int, EdgeMarginIs a b p x ∧ EdgeMarginIs b c p y ∧ EdgeMarginIs c a p z ∧
    m = max (-2048) (min 2047 (min x (min y z)))

/-- `m` is the margin of a point in the corridor of half width `w` between two feet: `w` less the ceiling of |s| / Lf, Lf the
greatest integer whose square is at most q, clamped (R117). -/
def CorridorMarginIs (a b p : P2) (w : Nat) (m : Int) : Prop :=
  let ex := b.x - a.x
  let ey := b.y - a.y
  let s := (ex * (p.y - a.y) - ey * (p.x - a.x)).natAbs
  let q := ex * ex + ey * ey
  ∃ l d : Nat, (l * l : Int) ≤ q ∧ (∀ n : Nat, (n * n : Int) ≤ q → n ≤ l) ∧ s ≤ d * l ∧ (∀ n : Nat, s ≤ n * l → d ≤ n) ∧
    m = max (-2048) (min 2047 ((w : Int) - d))

/-- A point lies between two feet along their line: t within 0..q (R117). -/
def Between (a b p : P2) : Prop :=
  let ex := b.x - a.x
  let ey := b.y - a.y
  let t := ex * (p.x - a.x) + ey * (p.y - a.y)
  0 ≤ t ∧ t ≤ ex * ex + ey * ey

/-- The sway request of a triangle that fails on margin: G − P, each component clamped (R118). -/
def swayAsked (a b c p : P2) (most : Nat) : P2 :=
  let clamp (v : Int) : Int := max (-(most : Int)) (min most v)
  { x := clamp ((a.x + b.x + c.x).tdiv 3 - p.x), y := clamp ((a.y + b.y + c.y).tdiv 3 - p.y) }

/-- The applied record that a change point copies from the effective intent (R80). -/
def appliedOf (e : EffIntent) : Applied := { gait := e.gait, cycle := e.cycle, step := e.step }

/-! ## Contact, slip and the entries that a foot brings -/

/-- A Phase Notice as R94 builds it: position, leg state, gait and slip in b0, the notice code, a step count, and the station
named (0xFF: none). -/
def noticeWith (s : State) (leg : LegState) (gait : Gait) (slip : Bool) (code : Nat) (steps named : Byte) : TxFrame :=
  { claim := claimByte .phaseNotice s.sbi.station
    payload :=
      [BitVec.ofNat 8 (s.legPos.code * 64 + leg.code * 8 + gait.code * 2 + slip.toNat), BitVec.ofNat 8 code, steps, named]
    locked := false }

/-- The Fault Unit of `t` is that of `s` with these conditions; the retry mark may have been set by an Event frame that a
full queue lost (R142, R159). -/
def OnlyConds (s t : State) (conds : Vector Bool 17) : Prop :=
  t.flt = { s.flt with conds := conds, retry := t.flt.retry }

/-- The Phase Engine after an entry to LOAD from SWING or SEARCH (R83, R101). -/
def loadPe (s : State) : PhaseEngine :=
  { s.pe with
    leg := .load, checkPending := false, wait := .none, ownSway := none, steps := s.pe.steps + 1#8, phi := 0#16
    footholdT := none, stubRise := false, watchArmed := false, replacing := false
    loadT := some (s.loadMs * 1000), loadPending := false }

/-- An entry to LOAD at a touchdown (R101, R103): the press from p, the TOUCHDOWN notice with the new step count, and the end
of WEAK_FOOTHOLD. -/
def Landed (s t : State) : Prop :=
  t.pe = loadPe s ∧ t.tu.contact = t.tu.p ∧ t.pt = s.pt ∧
  OnlyConds s t (s.flt.conds.set FaultCode.weakFoothold.idx false) ∧
  t.txq = (s.txq.place
    (noticeWith s .load s.pe.applied.gait s.fsu.slipping 3 (s.pe.steps + 1#8) 0xFF#8)).1

/-- The Phase Engine after an entry to STANCE from LOAD: change point and turn record as the records give them, the MISSION
record judged at this instant (R50, R53, R80, R84, R102). -/
def stancePe (s : State) : PhaseEngine :=
  let e := effIntent (aged s)
  { s.pe with
    leg := .stance, checkPending := false, loadT := none, wait := .none, ownSway := none
    applied := appliedOf e
    turn := (predecessor e.gait s.legPos).bind fun p => (s.legAt p).map LegPart.steps
    lead := (e.gait != s.pe.applied.gait) || s.pe.lead }

/-- A class-change event at the Phase Engine, by the leg state (R95, R96, R98, R100, R102, R103, R154). The queue after an
entry to STANCE is stated where its reads mark no record. -/
def ClassActs (s t : State) (old new : Contact) : Prop :=
  let late := s.pe.loadPending && new == .loaded
  let pe := { s.pe with loadPending := s.pe.loadPending && !late }
  let conds := if late then s.flt.conds.set FaultCode.weakFoothold.idx false else s.flt.conds
  let hit := s.pe.watchArmed && old == .air && new != .air
  let loaded := noticeWith s .stance t.pe.applied.gait s.fsu.slipping 4 s.pe.steps 0xFF#8
  if s.pe.leg = .swing ∧ hit = true ∧ s.pe.stubs = 0 ∧ 2 * s.tu.plan.k < s.tu.plan.kEnd then
    t.pe = { pe with stubs := 1, stubRise := true, watchArmed := false } ∧
    t.tu = { s.tu with stub := { z := s.tu.p.z, k := s.tu.plan.k, d0 := 0, j := 0 } } ∧
    t.txq = s.txq ∧ t.pt = s.pt ∧ t.flt = { s.flt with conds := conds }
  else if (s.pe.leg = .swing ∨ (s.pe.leg = .search ∧ s.pe.replacing = false)) ∧ hit = true then
    Landed s t ∧ t.tu = { s.tu with contact := s.tu.p }
  else if s.pe.leg = .load ∧ new = .loaded then
    t.pe = stancePe { s with pe := pe } ∧ t.tu = s.tu ∧ (∀ n, t.record n = s.record n ∨ t.record n = (aged s).record n) ∧
    ((∀ n, ¬ ReadMarks s n) →
      t.pt = s.pt ∧ OnlyConds s t conds ∧ t.txq = (s.txq.place loaded).1)
  else
    t.pe = { pe with
      watchArmed := s.pe.watchArmed ||
        (new == .air && (s.pe.leg == .swing || (s.pe.leg == .search && !s.pe.replacing))) } ∧
    t.tu = { s.tu with
      descentStopped := s.tu.descentStopped ||
        (s.pe.leg == .hold && (s.pe.origin == some .swing || s.pe.origin == some .search) && new != .air)
      pressFrozen := s.tu.pressFrozen || (s.pe.leg == .hold && s.pe.origin == some .load && new == .loaded) } ∧
    t.pt = s.pt ∧ OnlyConds s t conds ∧
    t.txq = (if late = true ∧ s.pe.leg = .stance then (s.txq.place loaded).1 else s.txq)

/-- What a sample hands the Phase Engine about slip. -/
inductive SlipEvent where
  | none | start | stop
  deriving DecidableEq, Repr

/-- R70, R71: from the slip state before, the class, whether the sample is a slip sample, and SLIP_COUNT: the slip state, the
slip run and the non-slip run after it, and the event. -/
def slipTable (count : Nat) (slipping : Bool) (slipRun okRun : Nat) (c : Contact) (slip : Bool) :
    (Bool × Nat × Nat) × SlipEvent :=
  match slipping, decide (c = .air), slip with
  | false, true, _ => ((false, 0, okRun), .none)
  | false, false, false => ((false, 0, okRun), .none)
  | false, false, true =>
    if count ≤ slipRun + 1 then ((true, 0, 0), .start) else ((false, slipRun + 1, okRun), .none)
  | true, true, _ => ((false, 0, 0), .stop)
  | true, false, true => ((true, slipRun, 0), .none)
  | true, false, false =>
    if count ≤ okRun + 1 then ((false, 0, 0), .stop) else ((true, slipRun, okRun + 1), .none)

/-- The Phase Engine's part of a slip event (R104): notice, timer and freeze in a walking state other than HOLD; in HOLD only
the ends of freeze and condition; in READY nothing. -/
def SlipActs (s t : State) (v : SlipEvent) : Prop :=
  let walks := s.pe.leg.walking && s.pe.leg != .hold
  let ended := if s.pe.slipReported then s.flt.conds.set FaultCode.slipPersist.idx false else s.flt.conds
  t.pt = s.pt ∧
  match v with
  | .start =>
    if walks then
      t.pe = { s.pe with slipT := some (s.slipLimit * 1000) } ∧
      t.tu = { s.tu with
        frozen := s.tu.frozen || s.pe.leg == .stance || s.pe.leg == .claim || s.pe.leg == .unload } ∧
      OnlyConds s t s.flt.conds ∧
      t.txq = (s.txq.place (noticeWith s s.pe.leg s.pe.applied.gait true 5 s.pe.steps 0xFF#8)).1
    else t.pe = s.pe ∧ t.tu = s.tu ∧ t.flt = s.flt ∧ t.txq = s.txq
  | .stop =>
    if walks then
      t.pe = { s.pe with slipT := none, slipReported := false } ∧ t.tu = { s.tu with frozen := false } ∧
      OnlyConds s t ended ∧
      t.txq = (s.txq.place (noticeWith s s.pe.leg s.pe.applied.gait false 6 s.pe.steps 0xFF#8)).1
    else if s.pe.leg = .hold then
      t.pe = { s.pe with slipReported := false } ∧ t.tu = { s.tu with frozen := false } ∧
      t.flt = { s.flt with conds := ended } ∧ t.txq = s.txq
    else t.pe = s.pe ∧ t.tu = s.tu ∧ t.flt = s.flt ∧ t.txq = s.txq
  | .none => t.pe = s.pe ∧ t.tu = s.tu ∧ t.flt = s.flt ∧ t.txq = s.txq

/-- The contact class after a judged sample (R67), from the class before and the filtered vertical force. -/
def classByForce (s : State) (c : Contact) (fz : Int) : Contact :=
  let a := max ((s.tTouch : Int) - s.hyst) 0
  let b := (s.tLoaded : Int) - s.hyst
  match c with
  | .air => if s.tLoaded ≤ fz then .loaded else if s.tTouch ≤ fz then .touch else .air
  | .touch => if s.tLoaded ≤ fz then .loaded else if fz < a then .air else .touch
  | .loaded => if fz < a then .air else if fz < b then .touch else .loaded

/-- The output of a delay line before limiting (R64). -/
def outputBefore (s : State) (l : Vector Half 16) : Int :=
  (((List.finRange 16).map fun k => if k.val ≤ s.filterN then 2 * s.coef k * (l.get k).toInt else 0).sum + 32768).fdiv
    65536

/-- The output of a delay line, limited (R65). -/
def outputOf (s : State) (l : Vector Half 16) : Int := max (-32768) (min 32767 (outputBefore s l))

/-- Whether the output of a delay line is limited (R65). -/
def outputLimited (s : State) (l : Vector Half 16) : Bool :=
  decide (outputBefore s l < -32768 ∨ 32767 < outputBefore s l)

/-- A delay line after a raw value (R63). -/
def lineAfter (x : Half) (l : Vector Half 16) : Vector Half 16 :=
  Vector.ofFn fun k => if k.val = 0 then x else l.getD (k.val - 1) 0#16

/-- Whether a sample's bytes limit some axis (R65). -/
def sampleLimited (s : State) (l : List Byte) : Bool :=
  outputLimited s (lineAfter (halfAt l 0) s.fsu.ax.line) || outputLimited s (lineAfter (halfAt l 2) s.fsu.ay.line) ||
    outputLimited s (lineAfter (halfAt l 4) s.fsu.az.line)

/-- A good sample makes the stuck run reach 512 in a moving state with the stuck condition ended (R73). -/
def StuckNow (s : State) (l : List Byte) : Prop :=
  s.pe.leg.stepping = true ∧ s.fsu.stuckCond = false ∧ s.fsu.prevFz = some (halfAt l 4) ∧ 511 ≤ s.fsu.stuckRun

/-- A good sample is the sixteenth in a row that differs, and ends degraded contact (R76). -/
def RecoversNow (s : State) (l : List Byte) : Prop :=
  s.fsu.degraded = true ∧ s.fsu.prevFz ≠ none ∧ s.fsu.prevFz ≠ some (halfAt l 4) ∧ 15 ≤ s.fsu.recovery

/-- The event of a sample that limits an axis while the filter-limit condition is ended (R65). -/
def limitNote (s : State) (l : List Byte) : List Note :=
  if sampleLimited s l = true ∧ s.fsu.limitCond = false then latchNote s .filterLimit else []

/-- A good sample reaches the unit after setup completion (R61, R62). -/
def SampleTaken (s : State) (l : List Byte) : Prop :=
  forceFrame false l = true ∧ s.fsu.link ≠ .waitIdle ∧ s.pe.leg ≠ .setup

/-! ## The lift conditions and the support check -/

/-- The wait reasons of the conditions 1 to 9, in their order (R86). -/
def liftOrder : Vector WaitReason 9 :=
  #v[.intent, .phase, .turn, .ownContact, .fault, .peerStale, .neighbour, .slipNearby, .bodyStale]

/-- The condition of R86 that a wait reason names, by the marks that the records carry: for a Phase Engine that reads, by
those of `aged s`. -/
def LiftHolds (s : State) : WaitReason → Prop
  | .intent => (effIntent s).gait ≠ .stand
  | .phase => s.pe.phi.toNat = (match s.pe.applied.gait with | .diagonal => 32768 | _ => 49152)
  | .turn =>
    (s.pe.lead = true ∧ isLead s.pe.applied.gait s.legPos = true) ∨
    ∃ c, s.pe.turn = some c ∧ ∃ n l, s.legOf n = some l ∧
      predecessor s.pe.applied.gait s.legPos = some l.pos ∧ l.steps ≠ c
  | .ownContact => s.fsu.contact = .loaded ∧ s.fsu.slipping = false
  | .fault => ∀ i : Fin 8, s.flt.flags[i.val] = false
  | .peerStale => ∀ p, exclusiveUnder s.pe.applied.gait (relation s.legPos p) = true →
      ∃ n l, s.legOf n = some l ∧ l.pos = p ∧ fresh s n = true
  | .neighbour => ∀ n l, s.legOf n = some l →
      exclusiveUnder s.pe.applied.gait (relation s.legPos l.pos) = true →
      l.state ≠ .claim ∧ l.state ≠ .unload ∧ l.state ≠ .swing ∧ l.state ≠ .search ∧ l.state ≠ .load
  | .slipNearby => ∀ n l, s.legOf n = some l → fresh s n = true → l.slip = false
  | .bodyStale => ∃ n, s.stationOf .body = some n ∧ fresh s n = true
  | _ => True

/-- A snapshot of R112: own position, gait applied, the support feet in the order of their position codes, and P. A support
foot is a fresh LEG record in STANCE or CLAIM that is LOADED; coordinates are clamped to ±2000 mm. -/
def SnapshotIs (s : State) (sn : Snapshot) : Prop :=
  let c (h : Half) : Int := max (-2000) (min 2000 h.toInt)
  sn.own = s.legPos ∧ sn.gait = s.pe.applied.gait ∧
  sn.feet.Pairwise (fun a b => a.pos.code < b.pos.code) ∧
  (∀ n l, s.legOf n = some l → fresh s n = true → (l.state = .stance ∨ l.state = .claim) → l.contact = .loaded →
    { pos := l.pos, at2 := { x := c l.footX, y := c l.footY } } ∈ sn.feet) ∧
  (∀ f ∈ sn.feet, ∃ n l, s.legOf n = some l ∧ fresh s n = true ∧ (l.state = .stance ∨ l.state = .claim) ∧
    l.contact = .loaded ∧ f = { pos := l.pos, at2 := { x := c l.footX, y := c l.footY } }) ∧
  (∀ n r b, s.stationOf .body = some n → s.record n = some r → r.part = .body b →
    sn.com = { x := c b.comX, y := c b.comY })

/-- A check has been requested of the state `s` (R87, R113): the mark is set, the unit is CHECKING, and the snapshot is that
of R112. -/
def CheckRequested (s t : State) : Prop :=
  t.pe = { s.pe with checkPending := true } ∧ t.scu.checking = true ∧ t.scu.last = s.scu.last ∧
  ∃ sn, t.scu.inFlight = some sn ∧ SnapshotIs s sn

/-! ## Motion -/

/-- The state in which the decisions of a control-period expiry are taken: time has passed, the timer runs on, and φ has
advanced by the table of R82 (R79, step 1). -/
def expiring (s : State) (dt : Nat) : State :=
  let e := elapse s dt
  let up := s.pe.phi.toNat + 131072 / s.pe.applied.cycle
  { e with pe := { e.pe with
      period := some 2000
      phi := match s.pe.leg with
        | .stance => BitVec.ofNat 16 (min up (match s.pe.applied.gait with | .diagonal => 32768 | _ => 49152))
        | .unload | .swing | .search | .load => BitVec.ofNat 16 (min up 65535)
        | _ => s.pe.phi } }

/-- A point clamped to the workspace box in µm (R128), for a box that is sane. -/
def inBox (s : State) (q : P3) : P3 :=
  { x := max (s.boxXMin * 1000) (min (s.boxXMax * 1000) q.x)
    y := max (s.boxYMin * 1000) (min (s.boxYMax * 1000) q.y)
    z := max (s.boxZMin * 1000) (min (s.boxZMax * 1000) q.z) }

/-- The lowest z of a search descent (R132). -/
def bottomOf (s : State) : Int := max (s.tu.plan.z0 - s.searchDepth * 1000) (s.boxZMin * 1000)

/-- The z after one period of a descent (R132). -/
def descentZ (s : State) : Int := max (s.tu.p.z - s.searchSpeed * 2) (bottomOf s)

/-- Station `n` is a candidate for the sway request followed, with this value in mm (R118, R119). -/
def SwayCandidate (t : State) (n : Fin 8) (v : P2) : Prop :=
  let units (r : Int) : Int := max (-127) (min 127 (r.tdiv 2))
  if n = t.sbi.station then ∃ r, t.pe.ownSway = some r ∧ v = { x := 2 * units r.x, y := 2 * units r.y }
  else ∃ l u, t.legOf n = some l ∧ fresh t n = true ∧ l.sway = some u ∧
    v = { x := 2 * u.x.toInt, y := 2 * u.y.toInt }

/-- The sway displacement of the period in µm (R119, R120): that of the candidate with the lowest station number, zero
without one. -/
def SwayIs (t : State) (d : P2) : Prop :=
  let step (r : Int) : Int := max (-(t.swayRate * 2 : Int)) (min (t.swayRate * 2) (-r * 1000))
  ((∀ n v, ¬ SwayCandidate t n v) → d = { x := 0, y := 0 }) ∧
  (∀ n v, SwayCandidate t n v → (∀ m w, m < n → ¬ SwayCandidate t m w) → d = { x := step v.x, y := step v.y })

/-- The stance displacement of the period is frozen (R127), by the foot's own marks of `s` or a fresh record of `t`. -/
def StanceFrozen (s t : State) : Prop :=
  s.tu.frozen = true ∨ s.tu.stanceLimit = true ∨
  ∃ n l, n ≠ t.sbi.station ∧ t.legOf n = some l ∧ fresh t n = true ∧ l.stanceLimit = true

/-- The path of a re-place rise fixed at the point `p` (R133): from p, to the neutral point where it lies within
REPLACE_STEP, and otherwise REPLACE_STEP × 1000 × (N − S) / Ld, each component toward zero, Ld the least integer whose
square is at least the squared distance. -/
def RiseFrom (s : State) (p : P3) (r : RisePath) : Prop :=
  let nx := s.neutralX * 1000 - p.x
  let ny := s.neutralY * 1000 - p.y
  let far : Int := s.replaceStep * 1000
  r.sx = p.x ∧ r.sy = p.y ∧ r.sz = p.z ∧ r.j = 0 ∧
  (nx * nx + ny * ny ≤ far * far → r.dx = nx ∧ r.dy = ny) ∧
  (far * far < nx * nx + ny * ny → ∃ ld : Nat, nx * nx + ny * ny ≤ ld * ld ∧
    (∀ m : Nat, nx * nx + ny * ny ≤ m * m → ld ≤ m) ∧ r.dx = (far * nx).tdiv ld ∧ r.dy = (far * ny).tdiv ld)

/-- The search is exhausted in the state `s` (R99): while attempts remain, one more, a re-place rise from p and its event;
otherwise NO_FOOTHOLD, an occurrence, with its first-fault record, events and Alarm, and HOLD with origin SEARCH (R105, R150
to R152). -/
def Exhausted (s t : State) : Prop :=
  if s.pe.attempts < s.replaceMax then
    t.pe = { s.pe with footholdT := none, attempts := s.pe.attempts + 1, replacing := true, watchArmed := false } ∧
    RiseFrom s t.tu.p t.tu.rise ∧ t.flt.flags = s.flt.flags ∧ t.flt.conds = s.flt.conds ∧
    t.flt.first = s.flt.first ∧ Offered s t s.txq ∧
    Logs s t [{ bit := 2, code := 0x43, detail := BitVec.ofNat 8 (s.pe.attempts + 1) }]
  else
    t.pe = { s.pe with
      leg := .hold, origin := some .search, wait := .none, ownSway := none, checkPending := false
      timeoutPassed := false, claimT := none, unloadT := none, footholdT := none, loadT := none, slipT := none } ∧
    t.tu.descentStopped = (s.fsu.contact != .air) ∧ t.tu.pressFrozen = false ∧
    t.flt.conds = s.flt.conds.set FaultCode.noFoothold.idx false ∧
    FaultRecorded s t .noFoothold (latchNote s .noFoothold ++ [{ bit := 4, code := 0x03, detail := 5#8 }])

/-- A signed word is a value divided by `u` and rounded half away from zero (R136, R139). -/
def RoundsTo (u : Nat) (h : Half) (v : Int) : Prop :=
  2 * (u * h.toInt - v).natAbs ≤ u ∧ (2 * (u * h.toInt - v).natAbs = u → v.natAbs < (u * h.toInt).natAbs)

/-- A coordinate in 0.1 mm is the one in µm divided by 100 and rounded half away from zero (R136). -/
abbrev TenthsOf : Half → Int → Prop := RoundsTo 100

end Sys2Proof.Machine
end

