-- ==== Sys2Proof/Certificates/Slice0/Obligations.lean ====
section
/-! DEFINITION. The statements for the provers. `elapse s dt` is `s` after `dt` µs in which nothing else happens; `heard s dt`
and `unheard s dt r` are the states in which a good frame reaches its owners and in which a failing one has ended. -/

section Statements
open Sys2Proof Sys2Proof.Machine

/-! ## The block as a whole -/

/-- The queue is first in, first out; an empty one idles (log entry 6: the model's own form). -/
def Obligations.StepRunsTheFrontCommand : Prop :=
  (∀ (c : Instr) (rest : List Instr) (s : State),
    s.pending = c :: rest → step s = exec c { s with pending := rest }) ∧
  (∀ s : State, s.pending = [] → step s = .next s)

/-- Every command answers a next state, moves the microsecond counter by its own time (R1) and, but for a full reset, leaves
the strapped values alone (R3). That a command brings its own `dt` (log entry 1), answers a next state even where its event
cannot occur (log entry 2) and leaves the queue of commands alone (log entry 6) are the model's choices. -/
def Obligations.EveryCommandAnswers : Prop :=
  ∀ (c : Instr) (s : State), ∃ t, exec c s = .next t ∧ t.pending = s.pending ∧
    ∀ dt, dtOf c = some dt →
      t.time.us = s.time.us + BitVec.ofNat 32 dt ∧ t.sbi.station = s.sbi.station ∧ t.sbi.rateCode = s.sbi.rateCode

/-- Full reset gives each block the values of its reset table: R1, R7, R14, R18, R24, R25, R27, R59, R60, R62, R78, R113,
R118, R123, R135, R144, R145, R149, and samples the straps (R3). -/
def Obligations.FullResetValues : Prop :=
  ∀ (n : Fin 8) (r : Fin 4) (s : State), ∃ t, exec (.fullReset n r) s = .next t ∧ t.pending = s.pending ∧
    (t.time.us = 0#32 ∧ t.time.epoch = 0#16 ∧ t.time.epochTimer = none) ∧
    (t.sbi.station = n ∧ t.sbi.rateCode = r ∧ t.sbi.rx = .waitIdle ∧ t.sbi.recessive = 0 ∧ t.sbi.dominant = 0 ∧
      t.sbi.tx = .idle ∧ t.sbi.finishing = 0 ∧ t.drivesLine = false ∧ t.sbi.clashWatch = none ∧
      t.sbi.counters = { rxGood := 0#8, framing := 0#8, check := 0#8, truncated := 0#8, parity := 0#8, unknown := 0#8
                         stranger := 0#8, arbLost := 0#8, txError := 0#8, sent := 0#8 }) ∧
    ((∀ i : Fin 54, t.setup.words[i] = 0#16) ∧ t.setup.ptr = 0 ∧ t.setup.refused = 0#8 ∧ t.setup.clampCount = 0#8 ∧
      t.setup.firstClamped = none ∧ t.setup.sumC2 = 0#8 ∧ t.setup.sumC1 = 0#8) ∧
    ((∀ m, t.record m = none) ∧ t.pt.peerSilent = false ∧ t.pt.bodySilent = false ∧ t.pt.intentSilent = false ∧
      t.pt.tilt = false ∧ t.pt.clashWatch = none) ∧
    ((∀ k : Fin 16, t.fsu.ax.line[k] = 0#16 ∧ t.fsu.ay.line[k] = 0#16 ∧ t.fsu.az.line[k] = 0#16) ∧
      t.fsu.ax.out = 0 ∧ t.fsu.ay.out = 0 ∧ t.fsu.az.out = 0 ∧ t.fsu.ax.limit = false ∧ t.fsu.ay.limit = false ∧
      t.fsu.az.limit = false ∧ t.fsu.limitCond = false ∧ t.fsu.refill = 0 ∧ t.fsu.contact = .air ∧
      t.fsu.prevFz = none ∧ t.fsu.slipping = false ∧ t.fsu.slipRun = 0 ∧ t.fsu.okRun = 0 ∧ t.fsu.degraded = false ∧
      t.fsu.causeLink = false ∧ t.fsu.causeStuck = false ∧ t.fsu.linkCond = false ∧ t.fsu.stuckCond = false ∧
      t.fsu.stuckRun = 0 ∧ t.fsu.recovery = 0 ∧ t.fsu.watch = none ∧ t.fsu.bad = 0#8 ∧ t.fsu.link = .waitIdle) ∧
    (t.pe.leg = .setup ∧ t.pe.phi = 0#16 ∧ t.pe.steps = 0#8 ∧
      t.pe.applied = { gait := .stand, cycle := 2000, step := 60 } ∧ t.pe.turn = none ∧ t.pe.lead = false ∧
      t.pe.wait = .none ∧ t.pe.period = none ∧ t.pe.unloadT = none ∧ t.pe.footholdT = none ∧ t.pe.loadT = none ∧
      t.pe.slipT = none ∧ t.pe.claimT = none ∧ t.pe.checkPending = false ∧ t.pe.stubs = 0 ∧ t.pe.stubRise = false ∧
      t.pe.watchArmed = false ∧ t.pe.attempts = 0 ∧ t.pe.deadlinePassed = false ∧ t.pe.loadPending = false ∧
      t.pe.origin = none ∧ t.pe.slipReported = false ∧ t.pe.timeoutPassed = false ∧ t.pe.ownSway = none) ∧
    (t.scu.checking = false ∧ t.scu.last.n = 0 ∧ t.scu.last.margin = 0 ∧ t.scu.last.pass = false ∧
      t.scu.last.reason = .none ∧ t.scu.last.sway = none) ∧
    (t.tu.p = { x := 0, y := 0, z := 0 } ∧ t.tu.stanceZ = 0 ∧ t.tu.lowering = false ∧
      t.tu.plan = { startX := 0, startY := 0, targetX := 0, targetY := 0, z0 := 0, h := 0, kEnd := 0, k := 0 } ∧
      t.tu.stub = { z := 0, k := 0, d0 := 0, j := 0 } ∧
      t.tu.rise = { sx := 0, sy := 0, sz := 0, dx := 0, dy := 0, j := 0 } ∧
      t.tu.stanceLimit = false ∧ t.tu.clampCond = false ∧
      t.tu.measured = { x := 0, y := 0, z := 0 } ∧ t.tu.driveLimit = false ∧ t.tu.tag = 0#8 ∧ t.tu.lastZ = none ∧
      t.tu.window = none ∧ t.tu.misses = 0#8 ∧ t.tu.driveLost = false ∧ t.tu.driveFault = false ∧
      t.tu.started = false ∧ t.tu.frozen = false ∧ t.tu.descentStopped = false ∧ t.tu.pressFrozen = false ∧
      t.tu.link = .waitIdle) ∧
    (t.txq.frames = [] ∧ t.txq.dropped = 0#8) ∧
    ((∀ i : Fin 17, t.flt.flags[i] = false ∧ t.flt.conds[i] = false) ∧ t.flt.clashStation = false ∧
      t.flt.clashPosition = false ∧ t.flt.first = none ∧ t.flt.alarmsInHold = 0#8 ∧ t.flt.ring = [] ∧
      t.flt.lost = 0#8 ∧ t.flt.retry = false)

/-! ## Invariants -/

/-- The state after reset meets every invariant stated below. -/
def Obligations.ResetMeetsInvariants : Prop :=
  BuffersBounded State.reset ∧ SensingInRange State.reset ∧ HeldWhileFaulty State.reset ∧
  ClashFromSources State.reset ∧ PositionsDistinct State.reset ∧ QueueOrdered State.reset ∧ RingOffered State.reset ∧
  LockHeld State.reset ∧ LiftOnlyInClaim State.reset ∧ ClaimAtBeta State.reset ∧ SetpointInBox State.reset

/-- The buffers keep their bounds (R29, R140, R158), and the filter outputs, the refill count and the stuck run their ranges
(R65, R66, R73). -/
def Obligations.BoundsKept : Prop :=
  (∀ s t : State, BuffersBounded s → step s = .next t → BuffersBounded t) ∧
  (∀ s t : State, SensingInRange s → step s = .next t → SensingInRange t)

/-- While a class-A flag is latched a walking leg is in HOLD (R152), CLASH is active exactly while one of its sources is
(R150, R151), and in CLAIM φ stands at β (R82, R89). -/
def Obligations.HoldAndClaimKept : Prop :=
  (∀ s t : State, HeldWhileFaulty s → step s = .next t → HeldWhileFaulty t) ∧
  (∀ s t : State, ClashFromSources s → step s = .next t → ClashFromSources t) ∧
  (∀ s t : State, ClaimAtBeta s → step s = .next t → ClaimAtBeta t)

/-- No two present LEG records carry the same leg position, nor the node's own; the own record stays empty, and nothing is
stored in SETUP (R28, R41, R51). -/
def Obligations.PositionsDistinctKept : Prop :=
  ∀ s t : State, PositionsDistinct s → step s = .next t → PositionsDistinct t

/-- The queue stands in claim order, with at most one frame of each kind that R141 limits; and while the ring holds a record
and the retry mark is clear, an Event frame waits (R159). -/
def Obligations.QueueOrderedKept : Prop :=
  (∀ s t : State, QueueOrdered s → step s = .next t → QueueOrdered t) ∧
  (∀ s t : State, RingOffered s → step s = .next t → RingOffered t)

/-- At most one frame is locked, none while the node is not sending, and a Lift Notice waits only in CLAIM (R140, R141,
R143). -/
def Obligations.LiftHeldOnlyInClaim : Prop :=
  (∀ s t : State, LockHeld s → step s = .next t → LockHeld t) ∧
  (∀ s t : State, LockHeld s ∧ LiftOnlyInClaim s → step s = .next t → LiftOnlyInClaim t)

/-- Every Setpoint sent carries x, y and z inside the workspace box stored at setup completion (R136). -/
def Obligations.SetpointInBoxKept : Prop :=
  ∀ s t : State, SetpointInBox s → step s = .next t → SetpointInBox t

/-! ## Rules over all commands -/

/-- The leg state changes only by the rows of the table of section 5.1, and by the commands that those rows name. -/
def Obligations.LegMovesByTheTable : Prop :=
  ∀ (c : Instr) (s t : State), exec c s = .next t → t.pe.leg ≠ s.pe.leg →
    ((∃ n r, c = .fullReset n r) ∨ mayMove s.pe.leg t.pe.leg = true) ∧
    (s.pe.leg = .setup → ∃ dt f, c = .setupFrame dt f) ∧
    (s.pe.leg = .ready → (∃ n r, c = .fullReset n r) ∨ ∃ dt f, c = .start dt f) ∧
    (s.pe.leg = .hold →
      (∃ n r, c = .fullReset n r) ∨ (∃ dt f, c = .restart dt f) ∨ ∃ dt f, c = .resume dt f) ∧
    (t.pe.leg = .ready → (∃ dt f, c = .setupFrame dt f) ∨ ∃ dt f, c = .restart dt f) ∧
    (t.pe.leg = .claim → ∃ dt, c = .supportCheckResult dt) ∧
    (t.pe.leg = .unload → ∃ dt, c = .txCompletion dt) ∧
    (t.pe.leg = .swing → ∃ dt, c = .controlPeriodExpiry dt) ∧
    (t.pe.leg = .search → (∃ dt, c = .controlPeriodExpiry dt) ∨ ∃ dt f, c = .resume dt f)

/-- The step count goes up by one, modulo 256, at each entry to LOAD from SWING or SEARCH; at anything else it stays, or
becomes 0 at full reset, setup completion, START or RESTART (R78, R83). A latched flag stays latched until CLEAR_FAULTS,
RESTART or full reset (section 9.1, opening), and no frame advances more than one of the receive-side error counters; full
reset and RESTART clear them (R25). -/
def Obligations.CountsAndFlagsKept : Prop :=
  (∀ (c : Instr) (s t : State), exec c s = .next t →
     ((s.pe.leg = .swing ∨ s.pe.leg = .search) → t.pe.leg = .load → t.pe.steps = s.pe.steps + 1#8) ∧
     (¬ ((s.pe.leg = .swing ∨ s.pe.leg = .search) ∧ t.pe.leg = .load) →
       t.pe.steps = s.pe.steps ∨
       (t.pe.steps = 0#8 ∧ ((∃ n r, c = .fullReset n r) ∨ (∃ dt f, c = .setupFrame dt f) ∨ (∃ dt f, c = .start dt f) ∨
         ∃ dt f, c = .restart dt f)))) ∧
  (∀ (c : Instr) (s t : State) (i : Fin 17), exec c s = .next t → s.flt.flags[i] = true →
    t.flt.flags[i] = true ∨ (∃ n r, c = .fullReset n r) ∨ (∃ dt f, c = .restart dt f) ∨ ∃ dt f, c = .clearFaults dt f) ∧
  (∀ (c : Instr) (s t : State), exec c s = .next t →
    (∃ n r, c = .fullReset n r) ∨ (∃ dt f, c = .restart dt f) ∨
    errorCountersChanged s.sbi.counters t.sbi.counters ≤ 1)

/-- R36: the words change only in SETUP, and only through Setup frames taken in pointer order (which includes the restart of
the sequence at index 0, R29); after that words, pointer, clamp record and summary stay until full reset; block 0 shows
them with the node state and the setup-refused count of its building. -/
def Obligations.SetupKeptAfterRelease : Prop :=
  (∀ (c : Instr) (s t : State), exec c s = .next t →
    (∃ n r, c = .fullReset n r) ∨ t.setup.words = s.setup.words ∨
    (s.pe.leg = .setup ∧ ∃ dt f, c = .setupFrame dt f ∧ (f.b 0).toNat = s.sbi.station.val ∧
      ((f.b 1).toNat = s.setup.ptr ∨ (f.b 1).toNat = 0))) ∧
  (∀ (c : Instr) (s t : State), exec c s = .next t → s.pe.leg ≠ .setup →
    (∃ n r, c = .fullReset n r) ∨
    (t.setup.words = s.setup.words ∧ t.setup.ptr = s.setup.ptr ∧ t.setup.clampCount = s.setup.clampCount ∧
      t.setup.firstClamped = s.setup.firstClamped ∧ t.setup.sumC2 = s.setup.sumC2 ∧ t.setup.sumC1 = s.setup.sumC1)) ∧
  (∀ s : State, blockContent s 0 =
    [s.setup.sumC2, s.setup.sumC1, s.setup.clampCount, (s.setup.firstClamped.map (BitVec.ofNat 8)).getD 0xFF#8,
     BitVec.ofNat 8 s.pe.leg.code, s.setup.refused, 0#8, 0#8, 0#8, 0#8])

/-- While the node transmits no other frame arrives (R23); before the interframe space has passed a frame is not heard, and
only the counts of bit times move (R7; log entry 9). -/
def Obligations.NothingHeardWhileBusy : Prop :=
  ∀ (c : Instr) (s : State) (dt : Nat), frameCommand c = true → dtOf c = some dt →
    (transmitting s = true → exec c s = .next (elapse s dt)) ∧
    (transmitting s = false → s.sbi.rx = .waitIdle → ∃ k d,
      exec c s = .next { elapse s dt with sbi := { (elapse s dt).sbi with recessive := k, dominant := d } })

/-- A node enters CLAIM only from STANCE, on a passing check, with the nine lift conditions met (R58, R85 to R87): the
effective intent walks, φ is at β, the turn has passed, the own foot is LOADED and not slipping, no class-A flag is latched,
every exclusive position is held by a fresh record, no exclusive neighbour shows a moving state, no fresh LEG record shows
slip, and the BODY record is fresh. Each record that is found fresh has been judged by its age at that instant, the MISSION
record of the intent too (R53, R56). -/
def Obligations.ClaimEntrySafe : Prop :=
  ∀ (c : Instr) (s t : State), PositionsDistinct s → exec c s = .next t → s.pe.leg ≠ .claim → t.pe.leg = .claim →
    (∃ dt, c = .supportCheckResult dt) ∧ s.pe.leg = .stance ∧ s.pe.checkPending = true ∧ t.scu.last.pass = true ∧
    (effIntent t).gait ≠ .stand ∧ (∃ n, t.stationOf .mission = some n ∧ ReadFresh t n) ∧ s.pe.phi = s.beta ∧
    ((s.pe.lead = true ∧ isLead s.pe.applied.gait s.legPos = true) ∨
      ∃ k n l, s.pe.turn = some k ∧ t.legOf n = some l ∧ predecessor s.pe.applied.gait s.legPos = some l.pos ∧
        l.steps ≠ k) ∧
    s.fsu.contact = .loaded ∧ s.fsu.slipping = false ∧ classALatched s = false ∧
    (∀ p, exclusiveUnder s.pe.applied.gait (relation s.legPos p) = true →
      ∃ n l, t.legOf n = some l ∧ l.pos = p ∧ ReadFresh t n) ∧
    (∀ n l, s.legOf n = some l → exclusiveUnder s.pe.applied.gait (relation s.legPos l.pos) = true →
      l.state.moving = false) ∧
    (∀ n l, t.legOf n = some l → fresh t n = true → l.slip = false ∧ ReadFresh t n) ∧
    (∃ n, s.role n = .body ∧ ReadFresh t n)

/-! ## The line and the transmit side -/

/-- 11 recessive bit times: WAIT_IDLE is left for IDLE (R7); a stuck transmit side recovers, BUS_STUCK ends and "line
recovered" is recorded (R24, R151). 64 dominant bit times: STUCK and WAIT_IDLE, and the class-A fault BUS_STUCK is taken
(R24, R150, R152); that a side already STUCK reports again is the model's reading (log entry 20). -/
def Obligations.StuckLineAndRecovery : Prop :=
  (∀ (dt : Nat) (s : State), s.sbi.rx = .waitIdle → s.sbi.tx ≠ .stuck →
    exec (.interframeSpace dt) s = .next
      { elapse s dt with sbi := { (elapse s dt).sbi with
          rx := .idle, recessive := 11, rxAborted := false, dominant := 0 } }) ∧
  (∀ (dt : Nat) (s : State), s.sbi.rx = .waitIdle → s.sbi.tx = .stuck →
    ∃ t, exec (.interframeSpace dt) s = .next t ∧
      OnlyLogs
        { elapse s dt with
          sbi := { (elapse s dt).sbi with
            rx := .idle, recessive := 11, rxAborted := false, dominant := 0, tx := .idle }
          flt := { s.flt with conds := s.flt.conds.set FaultCode.busStuck.idx false } }
        t [{ bit := 0, code := 0x20, detail := 0#8 }]) ∧
  (∀ (dt : Nat) (s : State), transmitting s = false →
     let e : State := { elapse s dt with
       sbi := { (elapse s dt).sbi with
         rx := .waitIdle, recessive := 0, rxAborted := false, dominant := 64, tx := .stuck } }
     ∃ t, exec (.busStuck dt) s = .next t ∧
       FaultTaken e t .busStuck (latchNote s .busStuck ++ holdNote s) ∧
       t.flt.conds = s.flt.conds.set FaultCode.busStuck.idx true ∧ t.flt.clashStation = s.flt.clashStation ∧
       t.flt.clashPosition = s.flt.clashPosition)

/-- Placing a frame (R140 to R142), with the owner told of a lost Lift Notice or Event frame (R107, R142, R159). A second
Alarm is dropped; a Leg Report, Foot Detail or Diagnostic replaces the one held, in its place, or is dropped while that one
is locked; none of this is counted. Any other frame enters behind the frames of lower or equal claim value; into a full
queue only in place of the unlocked frame of the highest claim value placed last, where its own value is lower, and
otherwise it is dropped: either adds one to the TX-dropped count. -/
def Obligations.QueuePlaces : Prop :=
  (∀ (q : TxQueue) (f : TxFrame),
    let same (g : TxFrame) : Bool :=
      g.kind == f.kind && (f.kind != some .diagnostic || byteAt g.payload 0 == byteAt f.payload 0)
    let renewed : Prop := f.kind = some .legReport ∨ f.kind = some .footDetail ∨ f.kind = some .diagnostic
    let counted := satInc q.dropped
    (f.kind = some .alarm → q.frames.any same = true → q.place f = (q, none)) ∧
    (renewed → ∀ a g b, q.frames = a ++ g :: b → same g = true → (∀ x ∈ a ++ b, same x = false) →
      q.place f = (if g.locked then q else { q with frames := a ++ f :: b }, none)) ∧
    ((q.frames.any same = false ∨ ¬ (renewed ∨ f.kind = some .alarm)) →
      (q.frames.length < 8 → ∀ a b, q.frames = a ++ b → (∀ x ∈ a, x.claim ≤ f.claim) → (∀ x ∈ b, f.claim < x.claim) →
        q.place f = ({ q with frames := a ++ f :: b }, none)) ∧
      (8 ≤ q.frames.length → ∀ a g b, q.frames = a ++ g :: b → g.locked = false →
        (∀ x ∈ a, x.locked = false → x.claim ≤ g.claim) → (∀ x ∈ b, x.locked = false → x.claim < g.claim) →
        (g.claim ≤ f.claim → q.place f = ({ q with dropped := counted }, some f)) ∧
        (f.claim < g.claim → ∀ c d, a ++ b = c ++ d → (∀ x ∈ c, x.claim ≤ f.claim) → (∀ x ∈ d, f.claim < x.claim) →
          q.place f = ({ frames := c ++ f :: d, dropped := counted }, some g))))) ∧
  (∀ (s : State) (f : TxFrame),
    let u : State := { s with txq := (s.txq.place f).1 }
    match (s.txq.place f).2 with
    | none => placeFrame s f = u
    | some lost =>
      (lost.isLift = true → s.pe.leg = .claim → placeFrame s f = { u with pe := claimLostPe s }) ∧
      (lost.isEvent = true → placeFrame s f = { u with flt := { s.flt with retry := true } }) ∧
      ((lost.isLift = false ∨ s.pe.leg ≠ .claim) → lost.isEvent = false → placeFrame s f = u))

/-- In TX_IDLE and IDLE the head frame is begun: it is locked, its content fixed, its line bytes are claim byte, payload, C2
and C1, and ARBITRATING is entered; with another start edge first the node listens and its queue is untouched (R19). With an
empty queue, or outside TX_IDLE or IDLE, nothing begins (R19, R24). -/
def Obligations.TransmitBegins : Prop :=
  (∀ (dt : Nat) (s : State) (f : TxFrame) (rest : List TxFrame),
    s.sbi.tx = .idle → s.sbi.rx = .idle → s.txq.frames = f :: rest →
    exec (.txBegin dt false) s = .next
      { elapse s dt with
        sbi := { s.sbi with
          rx := .inFrame, recessive := 0, rxAborted := false, dominant := 0, tx := .arbitrating, txElapsed := 0
          attempt := some { f with locked := true }, finishing := 0
          txLine := (f.claim :: f.payload) ++ [checkC2 (f.claim :: f.payload), checkC1 (f.claim :: f.payload)] }
        txq := { s.txq with frames := { f with locked := true } :: rest } } ∧
    exec (.txBegin dt true) s = .next
      { elapse s dt with sbi := { (elapse s dt).sbi with
          rx := .inFrame, recessive := 0, rxAborted := false, dominant := 0 } }) ∧
  (∀ (dt : Nat) (d : Bool) (s : State), s.sbi.tx ≠ .idle ∨ s.sbi.rx ≠ .idle ∨ s.txq.frames = [] →
    exec (.txBegin dt d) s = .next (elapse s dt))

/-- What the node drives (R2, R4, R11, R19, R21, R135). While it sends nothing it releases the bus, and the bus is dominant
only where another station drives (the levels stand at the resolution of a bit: log entries 8 and 26). From the start of a
frame, in bit time 10 i + k it sends bit k of byte i, of claim byte, payload, C2 and C1: a dominant start bit, the data bits
most significant first, a recessive stop bit; it drives in its 0 bits only, and after the last stop bit not at all. A frame
aborted in a 0 bit is driven to the end of that bit, in a 1 bit no more; that the node transmits nothing and yet drives for
what is left of a 0 bit is the model's reading (log entry 10). A Setpoint's ten bytes go out on the drive link in the same
form, four bits of 0.25 µs in each of its 25 µs, and that line is released before and after. -/
def Obligations.LineDriven : Prop :=
  (∀ s : State, transmitting s = false → s.sbi.finishing = 0 → s.sentBit = none ∧ s.drivesLine = false ∧
    s.lineLevel false = true ∧ s.lineLevel true = false) ∧
  (∀ (dt : Nat) (level : Bool) (s : State) (f : TxFrame),
    s.sbi.attempt = some f → (s.sbi.tx = .sending ∨ (s.sbi.tx = .arbitrating ∧ level = false)) →
    let e := elapse s dt
    let bit := match s.sbi.rateCode with | 0 => 4 | 1 => 2 | _ => 1
    let left := if e.sentBit = some false then bit - e.sbi.txElapsed % bit else 0
    ∃ t, exec (.txAbort dt level) s = .next t ∧ transmitting t = false ∧ ∀ d, (elapse t d).drivesLine = decide (d < left)) ∧
  (∀ (dt : Nat) (s : State) (f : TxFrame) (rest : List TxFrame),
    s.sbi.tx = .idle → s.sbi.rx = .idle → s.txq.frames = f :: rest →
    let bytes := (f.claim :: f.payload) ++ [checkC2 (f.claim :: f.payload), checkC1 (f.claim :: f.payload)]
    let bit := match s.sbi.rateCode with | 0 => 4 | 1 => 2 | _ => 1
    ∃ t, exec (.txBegin dt false) s = .next t ∧
      (∀ i k d : Nat, i < bytes.length → k < 10 → (10 * i + k) * bit ≤ d → d < (10 * i + k + 1) * bit →
        let level := if k = 0 then false else if k = 9 then true else (bytes.getD i 0#8).getLsbD (8 - k)
        (elapse t d).sentBit = some level ∧ (elapse t d).drivesLine = !level ∧
        ∀ others, (elapse t d).lineLevel others = (level && !others)) ∧
      (∀ d, 10 * bytes.length * bit ≤ d → (elapse t d).drivesLine = false)) ∧
  (∀ s : State, s.tu.sending = none → ∀ q, s.driveLevel q = true) ∧
  (∀ s : State, s.tu.sending = some 25 → s.tu.line.length = 10 →
    (∀ (d : Nat) (q : Fin 4), d < 25 →
      let n := 4 * d + q.val
      (elapse s d).driveLevel q =
        (if n % 10 = 0 then false else if n % 10 = 9 then true
          else (s.tu.line.getD (n / 10) 0#8).getLsbD (8 - n % 10))) ∧
    (∀ (d : Nat) (q : Fin 4), 25 ≤ d → (elapse s d).driveLevel q = true))

/-- A recessive bit of the claim byte read dominant: TX_IDLE, the loss counted, the frame unlocked in its place and the
Phase Engine not told (R20, R107, R140); only a claim whose timeout has passed is given up (R108). An abort: TX_IDLE, the
bit error counted, the locked frame dropped; a Lift Notice fails the claim, and an Event frame's record stays in the ring
(R21, R107, R140, R159). A dominant bit is driven to its end (that the side is in TX_IDLE meanwhile, though R18 calls that
not driving, is the model's reading, log entry 10), and the engine listens on (R21), but for an abort in the start bit of
the claim byte: that edge was a glitch, and the engine is in IDLE again (R5; that the two rules meet so is the model's
reading, log entry 33). -/
def Obligations.AttemptsFail : Prop :=
  (∀ (dt : Nat) (bit : Fin 8) (s : State) (f : TxFrame),
     s.sbi.tx = .arbitrating → s.sbi.attempt = some f → s.sbi.txElapsed + dt < 9 * bitTimeUs s.sbi.rateCode →
     f.claim.getLsbD bit.val = true →
     let e := elapse s dt
     let sbi := { e.sbi with
       tx := .idle, attempt := none, counters := { s.sbi.counters with arbLost := satInc s.sbi.counters.arbLost } }
     let q := { s.txq with frames := s.txq.frames.map fun g => { g with locked := false } }
     (¬ (f.isLift = true ∧ s.pe.leg = .claim ∧ s.pe.timeoutPassed = true) →
       exec (.arbitrationLoss dt bit) s = .next { e with sbi := sbi, txq := q }) ∧
     (f.isLift = true → s.pe.leg = .claim → s.pe.timeoutPassed = true →
       exec (.arbitrationLoss dt bit) s = .next { e with sbi := sbi, txq := withoutLift q, pe := claimLostPe e })) ∧
  (∀ (dt : Nat) (level : Bool) (s : State) (f : TxFrame),
     s.sbi.attempt = some f → (s.sbi.tx = .sending ∨ (s.sbi.tx = .arbitrating ∧ level = false)) →
     let e := elapse s dt
     let bit := match s.sbi.rateCode with | 0 => 4 | 1 => 2 | _ => 1
     let edge := decide (e.sbi.txElapsed < bit)
     ∃ t, exec (.txAbort dt level) s = .next t ∧
       t.sbi = { e.sbi with
         rx := if edge then .idle else e.sbi.rx, recessive := if edge then 11 else e.sbi.recessive
         rxAborted := !edge, dominant := if edge then 0 else e.sbi.dominant
         tx := .idle, attempt := none, finishing := if e.sentBit = some false then bit - e.sbi.txElapsed % bit else 0
         counters := { s.sbi.counters with txError := satInc s.sbi.counters.txError } } ∧
       t.pe = (if f.isLift = true ∧ s.pe.leg = .claim then claimLostPe e else e.pe) ∧
       t.flt = { s.flt with retry := t.flt.retry } ∧
       Offered e t { s.txq with frames := s.txq.frames.filter fun g => !g.locked } ∧
       t.time = e.time ∧ t.setup = e.setup ∧ t.pt = e.pt ∧ t.fsu = e.fsu ∧ t.scu = e.scu ∧ t.tu = e.tu)

/-- A completion: TX_IDLE and WAIT_IDLE, the frame counted as sent and not as received, and removed from the queue (R13,
R22, R140); a Lift Notice in CLAIM takes the leg to UNLOAD with the stance z recorded (R90); an Event frame takes the oldest
record from the ring, and every completion clears the retry mark and offers the ring again: the mark stands after it only
where the Event frame of that offer found no room (R159). That it takes effect from the start of the last stop bit on, 10 ×
fields − 1 bit times after the frame's start, and that SENDING begins 9 bit times after it, is the model's reading (log
entry 10). -/
def Obligations.TransmitCompletes : Prop :=
  ∀ (dt : Nat) (s : State) (f : TxFrame), s.sbi.tx = .sending ∨ s.sbi.tx = .arbitrating → s.sbi.attempt = some f →
    (10 * (f.payload.length + 3) - 1) * bitTimeUs s.sbi.rateCode ≤ s.sbi.txElapsed + dt →
    let e := elapse s dt
    ∃ t, exec (.txCompletion dt) s = .next t ∧
      t.sbi = { e.sbi with
        rx := .waitIdle, recessive := 0, rxAborted := false, dominant := 0, tx := .idle, attempt := none
        counters := { s.sbi.counters with sent := satInc s.sbi.counters.sent } } ∧
      (f.isLift = true → s.pe.leg = .claim →
        t.pe = { e.pe with
          leg := .unload, checkPending := false, claimT := none, timeoutPassed := false
          unloadT := some (s.unloadMs * 1000), wait := .none, ownSway := none } ∧
        t.tu = { e.tu with stanceZ := s.tu.p.z }) ∧
      (¬ (f.isLift = true ∧ s.pe.leg = .claim) → t.pe = e.pe ∧ t.tu = e.tu) ∧
      t.flt = { s.flt with ring := (if f.isEvent then s.flt.ring.tail else s.flt.ring), retry := t.flt.retry } ∧
      (let q : TxQueue := { s.txq with frames := s.txq.frames.filter fun g => !g.locked }
      Offered e t q ∧ (q.frames.length < 8 → t.flt.retry = false) ∧
      (t.flt.retry = true → t.flt.ring ≠ [] ∧ q.frames.any TxFrame.isEvent = false ∧ t.txq.dropped = satInc s.txq.dropped) ∧
      (t.flt.retry = false → t.flt.ring ≠ [] → t.txq.frames.any TxFrame.isEvent = true)) ∧
      t.time = e.time ∧ t.setup = e.setup ∧ t.pt = e.pt ∧ t.fsu = e.fsu ∧ t.scu = e.scu

/-- A frame that fails: WAIT_IDLE, and the count of its cause goes up by one (R5, R8, R9, R12); a framing error, truncation
or check error in a frame that the node has aborted is not counted (R21), a claim-parity error is, there too: the model's
reading, log entry 17. A byte field whose start bit reads recessive is a glitch: nothing is counted, the engine is where it
was before the edge, which for the first byte field of a frame is IDLE, and a recessive time that it was measuring goes on
from the rising edge (R5). That the samples of FRAMING_ERROR can spell a glitch is the model's choice (log entry 33). -/
def Obligations.ReceptionFails : Prop :=
  (∀ (dt : Nat) (s : State), Hears s →
     let c := s.sbi.counters
     let u := unheard s dt 0
     let v := unheard s dt 3
     (∀ got field, framingEnd got field = true → exec (.framingError dt got field) s = .next
       { u with sbi := { u.sbi with
           counters := if s.sbi.rxAborted then c else { c with framing := satInc c.framing } } }) ∧
     (∀ got, partialFrame got = true → exec (.truncation dt got) s = .next
       { v with sbi := { v.sbi with
           counters := if s.sbi.rxAborted then c else { c with truncated := satInc c.truncated } } }) ∧
     (∀ f : RxFrame, f.complete = true → f.checkAgrees = false → exec (.checkError dt f) s = .next
       { u with sbi := { u.sbi with
           counters := if s.sbi.rxAborted then c else { c with check := satInc c.check } } }) ∧
     (∀ b : Byte, ((List.range 8).filter b.getLsbD).length % 2 = 1 → exec (.claimParityError dt b) s = .next
       { u with sbi := { u.sbi with counters := { c with parity := satInc c.parity } } })) ∧
  (∀ (dt : Nat) (s : State) (got : List Byte) (field : Samples), transmitting s = false →
    2 ≤ (([0, 1, 2] : List Nat).filter field.getLsbD).length → (got = [] ∨ partialFrame got = true) →
    exec (.framingError dt got field) s = .next
      (if s.sbi.rx = .idle then elapse s dt
      else if s.sbi.rx = .inFrame ∧ got = [] then
        { elapse s dt with sbi := { (elapse s dt).sbi with
            rx := .idle, recessive := 11, rxAborted := false, dominant := 0 } }
      else { elapse s dt with sbi := { (elapse s dt).sbi with recessive := 0, dominant := 0 } }))

/-- R10: good parity and a kind code of 0 or 11 to 15: the unknown-kind count goes up by one, the engine is in WAIT_IDLE, and
no frame that follows is heard until the next interframe space. -/
def Obligations.UnknownKindIgnored : Prop :=
  ∀ (dt : Nat) (s : State) (b : Byte), Hears s → ((List.range 8).filter b.getLsbD).length % 2 = 0 →
    (b.toNat / 16 = 0 ∨ 11 ≤ b.toNat / 16) →
    let u := unheard s dt 0
    let t : State := { u with sbi := { u.sbi with
      counters := { s.sbi.counters with unknown := satInc s.sbi.counters.unknown } } }
    exec (.unknownKind dt b) s = .next t ∧ t.sbi.rx = .waitIdle ∧
    ∀ (c : Instr) (dt' : Nat), frameCommand c = true → dtOf c = some dt' → ∃ k d,
      exec c t = .next { elapse t dt' with sbi := { (elapse t dt').sbi with recessive := k, dominant := d } }

/-- A good frame with the node's own station number: counted as received good, handed to no block; the watch takes its
arrival time and the station source of CLASH is reported, with its own event when it was ended (R13, R14, R150, R152); that
"station clash" stands right after "fault latched" and before "hold entered" is the model's reading (log entry 13). Each
clash watch ends its own source of CLASH 1000 ms after the time it holds, and not before; the condition ends with the other
source (R14, R52, R151). No flag is cleared and no event recorded. -/
def Obligations.StationClashWatched : Prop :=
  (∀ (dt : Nat) (s : State) (f : RxFrame) (k : FrameKind), Hears s → f.good = true → f.kind = some k →
     f.source = s.sbi.station →
     let h := heard s dt
     let e : State := { h with sbi := { h.sbi with clashWatch := some h.time.us } }
     ∃ t, exec (.stationClash dt f) s = .next t ∧
       FaultTaken e t .clash
         (latchNote s .clash ++
           (if s.flt.clashStation then [] else [{ bit := 0, code := 0x21, detail := BitVec.ofNat 8 k.code }]) ++
           holdNote s) ∧
       t.flt.conds = s.flt.conds.set FaultCode.clash.idx true ∧ t.flt.clashStation = true ∧
       t.flt.clashPosition = s.flt.clashPosition) ∧
  (∀ (dt : Nat) (s : State) (w : Micros),
     let e := elapse s dt
     let age := (e.time.us - w).toNat
     (s.sbi.clashWatch = some w → 1000000 ≤ age → exec (.sbiClashWatchExpiry dt) s = .next
       { e with
         sbi := { e.sbi with clashWatch := none }
         flt := { s.flt with
           clashStation := false, conds := s.flt.conds.set FaultCode.clash.idx s.flt.clashPosition } }) ∧
     (s.sbi.clashWatch = some w → age < 1000000 → exec (.sbiClashWatchExpiry dt) s = .next e) ∧
     (s.pt.clashWatch = some w → 1000000 ≤ age → exec (.ptClashWatchExpiry dt) s = .next
       { e with
         pt := { s.pt with clashWatch := none }
         flt := { s.flt with
           clashPosition := false, conds := s.flt.conds.set FaultCode.clash.idx s.flt.clashStation } }) ∧
     (s.pt.clashWatch = some w → age < 1000000 → exec (.ptClashWatchExpiry dt) s = .next e))

/-! ## Setup -/

/-- A Setup frame for this node in SETUP (R29): the next word in order; index 0 again; any other index refused; and the word
of index 53, with which completion follows at once (R32 to R35, R62, R78, R123, R145): the words settled with their check
sum, the node in READY, the epoch at 0 and its timer, the control period and the link watch started, p at the neutral point,
SETUP_CLAMPED latched and recorded (R150) when a word was adjusted, and Diagnostic block 0 in a queue that has room for it.
That the reference height, the contact point, the re-place phase and what is held of the Setpoint take their reset values
then is the model's choice (log entry 5); that SETUP_CLAMPED is reported before the release, so that its event is recorded
whatever EVENT_MASK holds and with the epoch of SETUP, is the model's reading (log entry 19). -/
def Obligations.SetupTaken : Prop :=
  (∀ (dt : Nat) (s : State) (f : RxFrame), FromPeer s f .setup → s.pe.leg = .setup →
     (f.b 0).toNat = s.sbi.station.val →
     let h := heard s dt
     let v := ofBytes (f.b 2) (f.b 3)
     (∀ i : Fin 54, i.val < 53 → (f.b 1).toNat = i.val → s.setup.ptr = i.val → exec (.setupFrame dt f) s = .next
       { h with setup := { s.setup with words := s.setup.words.set i v, ptr := i.val + 1 } }) ∧
     ((f.b 1).toNat = 0 → s.setup.ptr ≠ 0 → exec (.setupFrame dt f) s = .next
       { h with setup := { s.setup with words := s.setup.words.set 0 v, ptr := 1 } }) ∧
     ((f.b 1).toNat ≠ 0 → ((f.b 1).toNat ≠ s.setup.ptr ∨ 54 ≤ (f.b 1).toNat) → exec (.setupFrame dt f) s = .next
       { h with setup := { s.setup with refused := satInc s.setup.refused } }) ∧
     ((f.b 1).toNat = 53 → s.setup.ptr = 53 → ∃ t, exec (.setupFrame dt f) s = .next t ∧ t.pe.leg = .ready ∧
       t.setup.ptr = 54)) ∧
  (∀ (dt : Nat) (s : State) (f : RxFrame), FromPeer s f .setup → s.pe.leg = .setup →
     (f.b 0).toNat = s.sbi.station.val → (f.b 1).toNat = 53 → s.setup.ptr = 53 →
     let h := heard s dt
     let b := settleWords { s.setup with words := s.setup.words.set 53 (ofBytes (f.b 2) (f.b 3)), ptr := 54 } s.sbi.station
     ∃ t, exec (.setupFrame dt f) s = .next t ∧
       t.setup = b ∧ t.sbi = h.sbi ∧
       t.time = { us := h.time.us, epoch := 0#16, epochTimer := some 1000 } ∧
       t.pt = { s.pt with tilt := false } ∧
       t.fsu = { FootSense.reset with link := s.fsu.link, bad := s.fsu.bad, watch := some 2000 } ∧
       t.pe = { PhaseEngine.reset with leg := .ready, period := some 2000 } ∧
       t.tu = { Trajectory.reset with
         p := { x := t.neutralX * 1000, y := t.neutralY * 1000, z := t.neutralZ * 1000 }
         measured := s.tu.measured, tag := s.tu.tag, link := s.tu.link } ∧
       t.scu = s.scu ∧
       t.flt.flags = (if b.clampCount = 0#8 then s.flt.flags else s.flt.flags.set FaultCode.setupClamped.idx true) ∧
       t.flt.conds = (if b.clampCount = 0#8 then s.flt.conds else s.flt.conds.set FaultCode.setupClamped.idx false) ∧
       Reported s t (if b.clampCount = 0#8 then [] else latchNote s .setupClamped) ∧
       (s.txq.frames.length ≤ 4 → (∀ g ∈ s.txq.frames, g.kind ≠ some .diagnostic) →
         ∃ g ∈ t.txq.frames, g.claim = claimByte .diagnostic s.sbi.station ∧
           g.payload = [0#8, b.sumC2, b.sumC1, b.clampCount, (b.firstClamped.map (BitVec.ofNat 8)).getD 0xFF#8, 0#8,
             b.refused, 0#8, 0#8, 0#8, 0#8]))

/-- R30: a Setup frame with another target changes nothing of the Setup Block in any state; one for this node outside SETUP
is refused and counted. The sender's role plays no part; block 0 shows the count as b6, and RESTART keeps it. -/
def Obligations.SetupFrameNotTaken : Prop :=
  (∀ (dt : Nat) (s : State) (f : RxFrame), FromPeer s f .setup →
    ((f.b 0).toNat ≠ s.sbi.station.val → exec (.setupFrame dt f) s = .next (heard s dt)) ∧
    ((f.b 0).toNat = s.sbi.station.val → s.pe.leg ≠ .setup → exec (.setupFrame dt f) s = .next
      { heard s dt with setup := { s.setup with refused := satInc s.setup.refused } })) ∧
  (∀ s : State, (blockContent s 0)[5]? = some s.setup.refused) ∧
  (∀ (dt : Nat) (s t : State) (f : RxFrame), exec (.restart dt f) s = .next t → t.setup.refused = s.setup.refused)

/-- What the first three steps of completion leave (R32, R33, R34). A word in its range is kept and any other becomes the
nearer bound; a box whose minimum is not below its maximum becomes neutral ± 50, T_LOADED is raised and T_UNLOAD lowered to
T_TOUCH, REPORT_OFFSET is taken modulo REPORT_PERIOD, the own station is LEG, and the lowest BODY and MISSION stations keep
their roles. The clamp count is the number of adjustments and the first clamped index that of the first one. So the words
are in range and consistent, the check sum is that of their 108 bytes, the pointer and the refused count are as they were,
and no word has changed when no adjustment was counted. -/
def Obligations.SettledWords : Prop :=
  ∀ (b : SetupBlock) (own : Fin 8),
    let r := settleWords b own
    SettledFrom b.words own r.words ∧
    (∀ l, Adjusted b.words own l → b.clampCount = 0#8 → b.firstClamped = none →
      r.clampCount.toNat = l.length ∧ r.firstClamped = l.head?) ∧
    ParamsSettled r.words own ∧
    r.sumC2 = checkC2 (r.words.toList.flatMap fun w => [hiByte w, loByte w]) ∧
    r.sumC1 = checkC1 (r.words.toList.flatMap fun w => [hiByte w, loByte w]) ∧
    r.ptr = b.ptr ∧ r.refused = b.refused ∧
    (r.clampCount = 0#8 → r.words = b.words)

/-! ## Frames from peers -/

/-- R153: an Alarm from another station latches no flag; a walking leg that is not in HOLD is put in HOLD, with the events
"alarm received" and "hold entered" and no Alarm of its own; in HOLD it is counted; in READY or SETUP it is recorded. In
SETUP the sender's role is not tested (R16). -/
def Obligations.AlarmTaken : Prop :=
  ∀ (dt : Nat) (s : State) (f : RxFrame), FromPeer s f .alarm →
    (s.pe.leg = .setup ∨ s.role f.source ≠ .absent) →
    let h := heard s dt
    let note : Note := { bit := 4, code := 0x08 + f.source.val, detail := f.b 0 }
    (s.pe.leg.walking = true → s.pe.leg ≠ .hold → ∃ t, exec (.alarmReceived dt f) s = .next t ∧
      SameElsewhere h t ∧ t.flt.flags = s.flt.flags ∧ t.flt.conds = s.flt.conds ∧ t.flt.first = s.flt.first ∧
      t.flt.alarmsInHold = s.flt.alarmsInHold ∧ Stopped h t ∧ t.pe.origin = some s.pe.leg ∧
      Logs s t [note, { bit := 4, code := 0x03, detail := BitVec.ofNat 8 s.pe.leg.code }] ∧
      (∀ g ∈ t.txq.frames, g.kind = some .alarm → g ∈ s.txq.frames)) ∧
    (s.pe.leg = .hold → exec (.alarmReceived dt f) s = .next
      { h with flt := { s.flt with alarmsInHold := satInc s.flt.alarmsInHold } }) ∧
    (s.pe.leg.walking = false → ∃ t, exec (.alarmReceived dt f) s = .next t ∧ OnlyLogs h t [note])

/-- A Phase Notice that does not clash, is no Lift Notice and no CONFLICT that names this node: state (STANCE for WITHDRAW),
slip and step count of the record are updated, the other fields kept, or zero in a record that was empty, and the notice
guard is set; nothing else of the node moves (R44, R45, R51, R54). -/
def Obligations.NoticeStored : Prop :=
  ∀ (dt : Nat) (s : State) (f : RxFrame), Accepted s f .phaseNotice → ¬ Clashes s f.source (carriedPos f) →
    (f.b 1).toNat ≠ 1 → ¬ ((f.b 1).toNat = 7 ∧ (f.b 3).toNat = s.sbi.station.val) →
    let h := heard s dt
    let old := (s.legOf f.source).getD (LegPart.empty (carriedPos f))
    ∃ t, exec (.phaseNoticeReceived dt f) s = .next t ∧
      LegStored h t f.source true
        { old with
          state := if (f.b 1).toNat = 2 then .stance else legStateOfCode ((f.b 0).toNat / 8)
          slip := (f.b 0).getLsbD 0, steps := f.b 2 } ∧
      t.flt = { s.flt with conds := legConds h t } ∧ t.time = h.time ∧ t.sbi = h.sbi ∧ t.setup = h.setup ∧
      t.fsu = h.fsu ∧ t.pe = h.pe ∧ t.scu = h.scu ∧ t.tu = h.tu ∧ t.txq = h.txq

/-- A Leg Report or Phase Notice whose leg position clashes is not stored and not handed on; the watch takes its arrival
time, and CLASH is reported, with the source station in its own event, only if the watch held none (R51, R52, R150). That
"position clash" stands right after "fault latched" and before "hold entered" is the model's reading (log entry 13). -/
def Obligations.PositionClashDropped : Prop :=
  ∀ (dt : Nat) (s : State) (f : RxFrame) (c : Instr),
    ((Accepted s f .legReport ∧ c = .legReportReceived dt f) ∨
      (Accepted s f .phaseNotice ∧ c = .phaseNoticeReceived dt f)) →
    Clashes s f.source (carriedPos f) →
    let h := heard s dt
    let e : State := { h with pt := { s.pt with clashWatch := some h.time.us } }
    (s.pt.clashWatch ≠ none → exec c s = .next e) ∧
    (s.pt.clashWatch = none → ∃ t, exec c s = .next t ∧
      FaultTaken e t .clash
        (latchNote s .clash ++
          (if s.flt.clashPosition then [] else [{ bit := 0, code := 0x22, detail := BitVec.ofNat 8 f.source.val }]) ++
          holdNote s) ∧
      t.flt.conds = s.flt.conds.set FaultCode.clash.idx true ∧ t.flt.clashPosition = true ∧
      t.flt.clashStation = s.flt.clashStation)

/-- A Leg Report that does not clash replaces the LEG part by the fields it carries (R43, layout of R26), except that a set
notice guard keeps state, slip and step count; the guard is ended, and nothing else of the node moves (R45, R54). -/
def Obligations.LegReportStored : Prop :=
  ∀ (dt : Nat) (s : State) (f : RxFrame), Accepted s f .legReport → ¬ Clashes s f.source (carriedPos f) →
    let h := heard s dt
    ∃ t l, exec (.legReportReceived dt f) s = .next t ∧ LegStored h t f.source false l ∧
      l.pos = carriedPos f ∧
      l.contact = (match (f.b 1).toNat / 64 with | 1 => .touch | 2 => .loaded | _ => .air) ∧
      l.wait.toNat = (f.b 1).toNat / 4 % 16 ∧
      l.footX = ofBytes (f.b 4) (f.b 5) ∧ l.footY = ofBytes (f.b 6) (f.b 7) ∧
      l.sway = (if (f.b 1).toNat / 4 % 16 = 11 then some { x := f.b 10, y := f.b 11 } else none) ∧
      l.stanceLimit = (f.b 12).getLsbD 7 ∧
      (∀ r old, s.record f.source = some r → r.guard = true → r.part = .leg old →
        l.state = old.state ∧ l.slip = old.slip ∧ l.steps = old.steps) ∧
      ((∀ r, s.record f.source = some r → r.guard = false) →
        l.state = legStateOfCode ((f.b 0).toNat / 8) ∧ l.slip = (f.b 0).getLsbD 0 ∧ l.steps = f.b 3) ∧
      t.flt = { s.flt with conds := legConds h t } ∧ t.time = h.time ∧ t.sbi = h.sbi ∧ t.setup = h.setup ∧
      t.fsu = h.fsu ∧ t.pe = h.pe ∧ t.scu = h.scu ∧ t.tu = h.tu ∧ t.txq = h.txq

/-- A Lift Notice of a peer, stored as CLAIM or as its b0 says: from an exclusive neighbour it makes a leg in CLAIM give its
claim up (R106), and a leg in UNLOAD, SWING, SEARCH or LOAD hand a CONFLICT that names the sender (R110); otherwise it is
only stored (R44, R58, R92). That the position in the stored record, and not the one carried, decides exclusivity is the
model's reading (log entry 31). -/
def Obligations.LiftNoticeHeard : Prop :=
  ∀ (dt : Nat) (s : State) (f : RxFrame), Accepted s f .phaseNotice → ¬ Clashes s f.source (carriedPos f) →
    (f.b 1).toNat = 1 →
    let h := heard s dt
    let old := (s.legOf f.source).getD (LegPart.empty (carriedPos f))
    let near := exclusiveUnder s.pe.applied.gait (relation s.legPos old.pos)
    let conflict : TxFrame :=
      { claim := claimByte .phaseNotice s.sbi.station
        payload :=
          [BitVec.ofNat 8 (s.legPos.code * 64 + s.pe.leg.code * 8 + s.pe.applied.gait.code * 2 + s.fsu.slipping.toNat),
           7#8, s.pe.steps, BitVec.ofNat 8 f.source.val]
        locked := false }
    ∃ t, exec (.phaseNoticeReceived dt f) s = .next t ∧
      LegStored h t f.source true
        { old with
          state := legStateOfCode ((f.b 0).toNat / 8), slip := (f.b 0).getLsbD 0, steps := f.b 2 } ∧
      t.time = h.time ∧ t.sbi = h.sbi ∧ t.setup = h.setup ∧ t.fsu = h.fsu ∧ t.scu = h.scu ∧ t.tu = h.tu ∧
      t.flt = { s.flt with conds := legConds h t, retry := t.flt.retry } ∧
      (near = true → s.pe.leg = .claim → t.pe = claimLostPe h ∧ t.txq = withoutLift s.txq) ∧
      (near = true → s.pe.leg.stepping = true → t.pe = h.pe ∧ t.txq = (s.txq.place conflict).1) ∧
      (near = false ∨ (s.pe.leg ≠ .claim ∧ s.pe.leg.stepping = false) → t.pe = h.pe ∧ t.txq = s.txq)

/-- A CONFLICT that names this node, by the table of R111: in CLAIM the claim is given up, in UNLOAD the leg cancels, in
SWING, SEARCH and LOAD the class-A fault OVERLAP is taken, with its first-fault record, Alarm and HOLD, and its condition
ends at the report (R150 to R152), in STANCE and HOLD the event is recorded, in READY nothing. -/
def Obligations.NamedInConflict : Prop :=
  ∀ (dt : Nat) (s : State) (f : RxFrame), Accepted s f .phaseNotice → ¬ Clashes s f.source (carriedPos f) →
    (f.b 1).toNat = 7 → (f.b 3).toNat = s.sbi.station.val →
    let h := heard s dt
    let old := (s.legOf f.source).getD (LegPart.empty (carriedPos f))
    ∃ t, exec (.phaseNoticeReceived dt f) s = .next t ∧
      LegStored h t f.source true
        { old with
          state := legStateOfCode ((f.b 0).toNat / 8), slip := (f.b 0).getLsbD 0, steps := f.b 2 } ∧
      t.time = h.time ∧ t.sbi = h.sbi ∧ t.setup = h.setup ∧ t.fsu = h.fsu ∧ t.scu = h.scu ∧
      (s.pe.leg = .claim →
        t.pe = claimLostPe h ∧ t.txq = withoutLift s.txq ∧ t.tu = h.tu ∧ t.flt.flags = s.flt.flags ∧ Logs s t []) ∧
      (s.pe.leg = .unload →
        t.pe = cancelledPe h ∧ t.tu = { h.tu with lowering := true } ∧ t.flt.flags = s.flt.flags ∧ Logs s t [] ∧
        t.txq = (s.txq.place
          { claim := claimByte .phaseNotice s.sbi.station
            payload :=
              [BitVec.ofNat 8 (s.legPos.code * 64 + 8 + s.pe.applied.gait.code * 2 + s.fsu.slipping.toNat), 2#8,
               s.pe.steps, 0xFF#8]
            locked := false }).1) ∧
      (s.pe.leg = .swing ∨ s.pe.leg = .search ∨ s.pe.leg = .load →
        FaultTaken { h with pt := t.pt } t .overlap (latchNote s .overlap ++ holdNote s) ∧
        t.flt.conds = (legConds h t).set FaultCode.overlap.idx false ∧ t.flt.clashStation = s.flt.clashStation ∧
        t.flt.clashPosition = s.flt.clashPosition) ∧
      (s.pe.leg = .stance ∨ s.pe.leg = .hold →
        t.pe = h.pe ∧ t.tu = h.tu ∧ t.flt.flags = s.flt.flags ∧ Offered s t s.txq ∧
        Logs s t [{ bit := 3, code := 0x50, detail := BitVec.ofNat 8 f.source.val }]) ∧
      (s.pe.leg = .ready →
        t.pe = h.pe ∧ t.tu = h.tu ∧ t.txq = s.txq ∧ t.flt = { s.flt with conds := legConds h t })

/-- A Body Report replaces the BODY part, ends BODY_SILENT, and is put through the tilt test: TILT is reported when the
condition was ended and |pitch| or |roll| is above TILT_LIMIT, and ended when it was active and neither is (R46, R47, R54).
-/
def Obligations.BodyReportStored : Prop :=
  ∀ (dt : Nat) (s : State) (f : RxFrame), Accepted s f .bodyReport →
    let h := heard s dt
    let b : BodyPart :=
      { comX := ofBytes (f.b 0) (f.b 1), comY := ofBytes (f.b 2) (f.b 3)
        pitch := ofBytes (f.b 4) (f.b 5), roll := ofBytes (f.b 6) (f.b 7) }
    let beyond := decide (s.tiltLimit < b.pitch.toInt.natAbs ∨ s.tiltLimit < b.roll.toInt.natAbs)
    let c := if s.pt.bodySilent then s.flt.conds.set FaultCode.bodySilent.idx false else s.flt.conds
    let stored := { s.pt with
      records := s.pt.records.set f.source
        (some { tag := h.time.us, stale := false, guard := false, part := .body b })
      bodySilent := false, tilt := beyond }
    (beyond = s.pt.tilt → exec (.bodyReportReceived dt f) s = .next
      { h with pt := stored, flt := { s.flt with conds := c } }) ∧
    (beyond = false → s.pt.tilt = true → exec (.bodyReportReceived dt f) s = .next
      { h with pt := stored, flt := { s.flt with conds := c.set FaultCode.tilt.idx false } }) ∧
    (beyond = true → s.pt.tilt = false → ∃ t, exec (.bodyReportReceived dt f) s = .next t ∧
      FaultTaken { h with pt := stored } t .tilt (latchNote s .tilt ++ holdNote s) ∧
      t.flt.conds = c.set FaultCode.tilt.idx true)

/-- An Intent is clamped by the gait it names and replaces the MISSION part, INTENT_SILENT ends, and a clamp set that is not
empty and differs from the one held is recorded as an event (R48, R49, R54). -/
def Obligations.IntentStored : Prop :=
  ∀ (dt : Nat) (s : State) (f : RxFrame), Accepted s f .intent →
    let h := heard s dt
    let g : Gait := match (f.b 0).toNat % 4 with | 1 => .crawl | 2 => .diagonal | _ => .stand
    let vx := (ofBytes (f.b 1) (f.b 2)).toInt
    let vy := (ofBytes (f.b 3) (f.b 4)).toInt
    let om := (ofBytes (f.b 5) (f.b 6)).toInt
    let lim (stand crawl diagonal : Int) : Int := match g with | .stand => stand | .crawl => crawl | .diagonal => diagonal
    let held := match s.record f.source with
      | some { part := .mission m0, .. } => m0.clampSet
      | _ => 0#8
    ∃ t m, exec (.intentReceived dt f) s = .next t ∧
      t.pt = { s.pt with
        records := s.pt.records.set f.source
          (some { tag := h.time.us, stale := false, guard := false, part := .mission m })
        intentSilent := false } ∧
      m.gait = g ∧
      m.vx = lim vx (max (-150) (min 150 vx)) (max (-400) (min 400 vx)) ∧
      m.vy = lim vy (max (-80) (min 80 vy)) (max (-150) (min 150 vy)) ∧
      m.omega = lim om (max (-300) (min 300 om)) (max (-600) (min 600 om)) ∧
      m.cycle = max 600 (min 4000 (ofBytes (f.b 7) (f.b 8)).toNat) ∧
      m.step = max 20 (min 180 (f.b 9).toNat) ∧
      m.offset = max (-60) (min 60 (f.b 10).toInt) ∧ m.seq = f.b 11 ∧
      m.clampSet.getLsbD 0 = (m.vx != vx) ∧ m.clampSet.getLsbD 1 = (m.vy != vy) ∧
      m.clampSet.getLsbD 2 = (m.omega != om) ∧
      m.clampSet.getLsbD 3 = (m.cycle != (ofBytes (f.b 7) (f.b 8)).toNat) ∧
      m.clampSet.getLsbD 4 = (m.step != (f.b 9).toNat) ∧ m.clampSet.getLsbD 5 = (m.offset != (f.b 10).toInt) ∧
      m.clampSet.getLsbD 6 = ((f.b 0).toNat % 4 == 3) ∧ m.clampSet.getLsbD 7 = false ∧
      OnlyLogs
        { h with
          pt := t.pt
          flt := { s.flt with
            conds := if s.pt.intentSilent then s.flt.conds.set FaultCode.intentSilent.idx false else s.flt.conds } }
        t
        (if m.clampSet ≠ 0#8 ∧ m.clampSet ≠ held then [{ bit := 2, code := 0x41, detail := m.clampSet }] else [])

/-- Screening of good frames from other stations: an information frame of any role but ABSENT is counted and dropped; a
frame of a kind that its sender's role does not give is a stranger; in SETUP every kind but Setup and Alarm is counted and
dropped with no other count (R15, R16). An accepted Control frame (R17): another station's target is dropped without a
count; a target of 8 to 0xFE, and a command code outside 1 to 6 addressed to this node, count as an unknown kind. -/
def Obligations.FramesAndCommandsScreened : Prop :=
  (∀ (dt : Nat) (s : State) (f : RxFrame) (k : FrameKind) (c : Instr), FromPeer s f k →
     ((k = .alarm ∧ c = .alarmReceived dt f) ∨ (k = .phaseNotice ∧ c = .phaseNoticeReceived dt f) ∨
       (k = .legReport ∧ c = .legReportReceived dt f) ∨ (k = .bodyReport ∧ c = .bodyReportReceived dt f) ∨
       (k = .intent ∧ c = .intentReceived dt f) ∨
       ((k = .footDetail ∨ k = .diagnostic ∨ k = .event) ∧ c = .infoFrameReceived dt f) ∨
       (k = .control ∧ controlCommand dt f (f.b 1).toNat = some c)) →
     let h := heard s dt
     let taken : Bool := match k with
       | .alarm | .footDetail | .diagnostic | .event => s.role f.source != .absent
       | .phaseNotice | .legReport => s.role f.source == .leg
       | .bodyReport => s.role f.source == .body
       | .intent | .control => s.role f.source == .mission
       | .setup => true
     (s.pe.leg = .setup → k ≠ .alarm → exec c s = .next h) ∧
     (s.pe.leg ≠ .setup → taken = false → exec c s = .next
       { h with sbi := { h.sbi with
           counters := { h.sbi.counters with stranger := satInc s.sbi.counters.stranger } } }) ∧
     (s.pe.leg ≠ .setup → taken = true → k = .footDetail ∨ k = .diagnostic ∨ k = .event → exec c s = .next h)) ∧
  (∀ (dt : Nat) (s : State) (f : RxFrame) (n : Nat) (c : Instr), Accepted s f .control → controlCommand dt f n = some c →
     let h := heard s dt
     let counted : State := { h with sbi := { h.sbi with
       counters := { h.sbi.counters with unknown := satInc s.sbi.counters.unknown } } }
     let target := (f.b 0).toNat
     let code := (f.b 1).toNat
     (code = n → target ≠ s.sbi.station.val → target < 8 → exec c s = .next h) ∧
     (code = n → 8 ≤ target → target ≠ 255 → exec c s = .next counted) ∧
     ((code = 0 ∨ 6 < code) → (target = s.sbi.station.val ∨ target = 255) → exec c s = .next counted))

/-! ## Control commands -/

/-- START by the node's state (R37): accepted in READY with no class-A flag and the started mark; refused with detail 1 or 2;
ignored in a walking state. The change point reads the MISSION record, and no other, at this instant (R53, R80; which records
it reads is the model's reading, log entry 11). -/
def Obligations.StartTaken : Prop :=
  ∀ (dt : Nat) (s : State) (f : RxFrame), Commanded s f 1 →
    let h := heard s dt
    (s.pe.leg = .ready → classALatched s = false → s.tu.started = true → ∃ t, exec (.start dt f) s = .next t ∧
      t.pe = { h.pe with
        leg := .stance, checkPending := false, phi := 0#16, steps := 0#8, applied := appliedOf (effIntent (aged h))
        turn := none, lead := true } ∧
      t.tu = { h.tu with p := s.tu.measured } ∧
      t.time = h.time ∧ t.sbi = h.sbi ∧ t.setup = h.setup ∧ t.fsu = h.fsu ∧ t.scu = h.scu ∧
      (∀ n, t.record n = if h.stationOf .mission = some n then (aged h).record n else s.record n) ∧
      ((∀ n, h.stationOf .mission = some n → ¬ ReadMarks h n) → t.pt = s.pt ∧ t.flt = s.flt ∧ t.txq = s.txq)) ∧
    (s.pe.leg = .ready → classALatched s = true → ∃ t, exec (.start dt f) s = .next t ∧
      OnlyLogs h t [{ bit := 2, code := 0x40, detail := 1#8 }]) ∧
    (s.pe.leg = .ready → classALatched s = false → s.tu.started = false → ∃ t, exec (.start dt f) s = .next t ∧
      OnlyLogs h t [{ bit := 2, code := 0x40, detail := 2#8 }]) ∧
    (s.pe.leg.walking = true → exec (.start dt f) s = .next h)

/-- RESTART (R38, with the RESTART columns of R59, R62, R78, R113, R123, R144, R145, R149): what is kept, what every block
takes, and in the queue the frames due at epoch 0, and no other: with REPORT_OFFSET 0 the Leg Report, and the Foot Detail
where it is on (R145, R146), built from the restarted state. That the reference height, the contact point and the re-place
phase take their reset values too is the model's choice (log entry 5), and so is a check in flight beside an IDLE unit (log
entry 18). -/
def Obligations.RestartTaken : Prop :=
  ∀ (dt : Nat) (s : State) (f : RxFrame), Commanded s f 2 →
    let h := heard s dt
    ∃ t, exec (.restart dt f) s = .next t ∧
      t.setup = s.setup ∧ t.time = { us := h.time.us, epoch := 0#16, epochTimer := some 1000 } ∧
      t.sbi = { h.sbi with clashWatch := none, counters := Counters.reset } ∧
      t.pt = PeerTable.reset ∧
      t.fsu = { FootSense.reset with link := s.fsu.link, watch := some 2000 } ∧
      t.pe = { PhaseEngine.reset with leg := .ready, period := h.pe.period } ∧
      t.scu = { SupportUnit.reset with inFlight := s.scu.inFlight } ∧
      t.tu = { h.tu with
        stanceZ := 0, lowering := false, plan := SwingPlan.reset, stub := StubState.reset, rise := RisePath.reset
        contact := P3.zero, stanceLimit := false, clampCond := false, driveLimit := false, misses := 0#8
        driveLost := false, driveFault := false, started := false, frozen := false, descentStopped := false
        pressFrozen := false } ∧
      t.flt = FaultUnit.reset ∧
      t.txq.dropped = 0#8 ∧
      (∀ g ∈ t.txq.frames, g.kind = some .legReport ∨ g.kind = some .footDetail) ∧
      (let report : TxFrame :=
        { claim := claimByte .legReport s.sbi.station, payload := legReportPayload t, locked := false }
      let detail : TxFrame :=
        { claim := claimByte .footDetail s.sbi.station, payload := footDetailPayload t, locked := false }
      t.txq.frames = (if s.reportOffset ≠ 0 then [] else if s.detailPeriod = 0 then [report] else [report, detail]))

/-- A RESUME in HOLD with no class-A flag latched (R155): φ 0, the change point taken, awaiting turn, lead mark, no origin,
and STANCE, LOAD or SEARCH by the contact class, each with what it starts; no notice is handed, so that the queue gains no
frame but an Event frame. The MISSION record, and no other, is read at this instant (R53; that no other is, is the model's
reading, log entry 11); the events follow when that read raises no fault of its own. -/
def Obligations.ResumeTaken : Prop :=
  ∀ (dt : Nat) (s : State) (f : RxFrame), Commanded s f 3 → s.pe.leg = .hold → classALatched s = false →
    let h := heard s dt
    let i := effIntent (aged h)
    ∃ t, exec (.resume dt f) s = .next t ∧
      (let pe := { h.pe with
        leg := t.pe.leg, checkPending := false, phi := 0#16, applied := appliedOf i, turn := none
        lead := true, origin := none, wait := .none, ownSway := none }
      (s.fsu.contact = .loaded → t.pe.leg = .stance ∧ t.pe = pe ∧ t.tu = h.tu) ∧
      (s.fsu.contact = .touch → t.pe.leg = .load ∧ t.pe = { pe with loadT := some (s.loadMs * 1000) } ∧
        t.tu = { h.tu with contact := s.tu.p }) ∧
      (s.fsu.contact = .air → t.pe.leg = .search ∧
        t.pe = { pe with
          attempts := 0, deadlinePassed := false, watchArmed := true, replacing := false
          footholdT := some ((appliedOf i).tSw * s.footholdF / 8 * 1000) } ∧
        t.tu = { h.tu with plan := { h.tu.plan with z0 := s.tu.p.z, h := (i.step : Int) * 1000 } })) ∧
      (∀ n, t.record n = if h.stationOf .mission = some n then (aged h).record n else s.record n) ∧
      t.flt.alarmsInHold = 0#8 ∧
      t.time = h.time ∧ t.sbi = h.sbi ∧ t.setup = h.setup ∧ t.fsu = h.fsu ∧ t.scu = h.scu ∧
      (∀ g ∈ t.txq.frames, g.isEvent = true ∨ g ∈ s.txq.frames) ∧
      ((∀ n, h.stationOf .mission = some n → ¬ ReadMarks h n) →
        t.pt = h.pt ∧ t.flt.flags = s.flt.flags ∧ t.flt.conds = s.flt.conds ∧ Offered s t s.txq ∧
        Logs s t
          ((if s.flt.alarmsInHold = 0#8 then []
            else [{ bit := 4, code := 0x10, detail := s.flt.alarmsInHold }]) ++
          [{ bit := 4, code := 0x05, detail := BitVec.ofNat 8 t.pe.leg.code }]))

/-- R156: a RESUME in HOLD with a class-A flag latched is refused: leg, origin, motion and count stay, one Alarm
HOLD_PERSISTS with detail 7 is placed (and dropped by R141 if one waits), and the event carries the lowest latched class-A
code. -/
def Obligations.ResumeRefused : Prop :=
  ∀ (dt : Nat) (s : State) (f : RxFrame) (i : Fin 8), Commanded s f 3 → s.pe.leg = .hold →
    s.flt.flags[i.val] = true → (∀ j : Fin 8, j < i → s.flt.flags[j.val] = false) →
    let h := heard s dt
    ∃ t, exec (.resume dt f) s = .next t ∧ SameElsewhere h t ∧ t.pe = h.pe ∧ t.tu = h.tu ∧
      t.flt.flags = s.flt.flags ∧ t.flt.conds = s.flt.conds ∧ t.flt.alarmsInHold = s.flt.alarmsInHold ∧
      Logs s t [{ bit := 4, code := 0x06, detail := BitVec.ofNat 8 (i.val + 1) }] ∧
      Offered s t (s.txq.place
        { claim := claimByte .alarm s.sbi.station, payload := [0x20#8, 7#8], locked := false }).1 ∧
      (s.txq.frames.any (fun g => g.kind == some .alarm) = true → Offered s t s.txq)

/-- R157: CLEAR_FAULTS clears every flag whose condition has ended and keeps the others; the first-fault record empties only
with the last flag; the event carries the number of flags left; leg, conditions and the alarms count stay. For CLASH the
condition has ended only when both sources have. -/
def Obligations.ClearFaultsTaken : Prop :=
  ∀ (dt : Nat) (s : State) (f : RxFrame), Commanded s f 4 →
    let h := heard s dt
    ∃ t, exec (.clearFaults dt f) s = .next t ∧
      (∀ i : Fin 17, t.flt.flags[i] = (s.flt.flags[i] && s.flt.conds[i])) ∧
      t.flt.first = (if ∃ i : Fin 17, t.flt.flags[i] = true then s.flt.first else none) ∧
      (ClashFromSources s →
        t.flt.flags[FaultCode.clash.idx] =
          (s.flt.flags[FaultCode.clash.idx] && (s.flt.clashStation || s.flt.clashPosition))) ∧
      OnlyLogs { h with flt := { s.flt with flags := t.flt.flags, first := t.flt.first } } t
        [{ bit := 4, code := 0x07
           detail := BitVec.ofNat 8 ((List.finRange 17).filter fun i => t.flt.flags[i]).length }]

/-- A QUERY of blocks 0 to 5 places a Diagnostic of that block, built at its arrival, by R141 and R142; a higher number is
ignored with no count (R148); block 3 reads the MISSION record at this instant (R53, R56; that it reads no other is the
model's reading, log entry 11). The contents of blocks 1 to 5 are those of R25, R26, R77 and R122; the epoch bytes of block
4 with an empty first-fault record are left open here (log entry 32). -/
def Obligations.QueryAnswered : Prop :=
  (∀ (dt : Nat) (s : State) (f : RxFrame), Commanded s f 5 →
    let h := heard s dt
    ((f.b 2).toNat ≤ 5 → (f.b 2).toNat ≠ 3 → ∃ t, exec (.query dt f) s = .next t ∧
      SameElsewhere h t ∧ t.pe = h.pe ∧ t.tu = h.tu ∧ t.flt = { s.flt with retry := t.flt.retry } ∧
      t.txq = (s.txq.place
        { claim := claimByte .diagnostic s.sbi.station, payload := f.b 2 :: blockContent h (f.b 2).toNat
          locked := false }).1) ∧
    ((f.b 2).toNat = 3 → ∃ t, exec (.query dt f) s = .next t ∧ t.pe = h.pe ∧ t.tu = h.tu ∧ t.sbi = h.sbi ∧
      t.setup = h.setup ∧ t.fsu = h.fsu ∧ t.scu = h.scu ∧
      (∀ n, t.record n = if h.stationOf .mission = some n then (aged h).record n else s.record n) ∧
      ((∀ n, h.stationOf .mission = some n → ¬ ReadMarks h n) →
        t.txq = (s.txq.place
          { claim := claimByte .diagnostic s.sbi.station, payload := 3#8 :: blockContent h 3, locked := false }).1)) ∧
    (6 ≤ (f.b 2).toNat → exec (.query dt f) s = .next h)) ∧
  (∀ s : State,
    blockContent s 1 =
      [s.sbi.counters.rxGood, s.sbi.counters.framing, s.sbi.counters.check, s.sbi.counters.truncated,
       s.sbi.counters.parity, s.sbi.counters.unknown, s.sbi.counters.stranger, s.sbi.counters.arbLost,
       s.sbi.counters.txError, s.sbi.counters.sent] ∧
    blockContent s 5 =
      [BitVec.ofNat 8 s.flt.ring.length, s.flt.lost, s.txq.dropped, 0#8, 0#8, 0#8, 0#8, 0#8, 0#8, 0#8] ∧
    blockContent s 2 =
      (let out (v : Int) : Half := BitVec.ofInt 16 v
       [hiByte (out s.fsu.ax.out), loByte (out s.fsu.ax.out), hiByte (out s.fsu.ay.out), loByte (out s.fsu.ay.out),
        hiByte (out s.fsu.az.out), loByte (out s.fsu.az.out), BitVec.ofNat 8 s.fsu.contact.code,
        BitVec.ofNat 8 (s.fsu.slipping.toNat * 128 + s.fsu.degraded.toNat * 64 + s.fsu.ax.limit.toNat * 32 +
          s.fsu.ay.limit.toNat * 16 + s.fsu.az.limit.toNat * 8), s.fsu.bad, 0#8]) ∧
    blockContent s 3 =
      [BitVec.ofNat 8 s.scu.last.n, hiByte (BitVec.ofInt 16 s.scu.last.margin), loByte (BitVec.ofInt 16 s.scu.last.margin),
       if s.scu.last.pass then 1#8 else 0#8, BitVec.ofNat 8 s.scu.last.reason.code,
       BitVec.ofNat 8 s.pe.applied.gait.code,
       (match (s.stationOf .mission).bind s.record with | some { part := .mission m, .. } => m.seq | _ => 0#8),
       0#8, 0#8, 0#8] ∧
    (let b := byteAt (blockContent s 4)
     (blockContent s 4).length = 10 ∧
     (∀ i : Fin 8, (b 0).getLsbD i.val = s.flt.flags[i.val]) ∧
     (∀ i : Fin 9, (ofBytes (b 1) (b 2)).getLsbD i.val = s.flt.flags[i.val + 8]) ∧
     (∀ i : Fin 16, 9 ≤ i.val → (ofBytes (b 1) (b 2)).getLsbD i.val = false) ∧
     (s.flt.first = none → b 3 = 0#8) ∧
     (∀ f, s.flt.first = some f → b 3 = f.code.code ∧ ofBytes (b 4) (b 5) = f.epoch) ∧
     b 6 = 0#8 ∧ b 7 = 0#8 ∧ b 8 = 0#8 ∧ b 9 = 0#8))

/-- R160: EVENT_TEST records the TEST event with detail 0xA5 through the mask, counts a lost event when the ring is full, and
changes no flag and no leg state. -/
def Obligations.EventTestRecorded : Prop :=
  ∀ (dt : Nat) (s : State) (f : RxFrame), Commanded s f 6 →
    ∃ t, exec (.eventTest dt f) s = .next t ∧
      OnlyLogs (heard s dt) t [{ bit := 5, code := 0x60, detail := 0xA5#8 }] ∧
      (s.eventMask.getLsbD 5 = false → t.flt.ring = s.flt.ring ∧ t.flt.lost = s.flt.lost) ∧
      (s.eventMask.getLsbD 5 = true → s.flt.ring.length = 16 → t.flt.ring = s.flt.ring ∧
        t.flt.lost = satInc s.flt.lost)

/-! ## The Peer Table's own read -/

/-- The ageing read marks exactly the present, unmarked records whose age is above their limit, and raises their silence
faults: flag and condition of the fault and the Peer Table's own condition become set, an empty first-fault record takes the
first of them, "peer silent" is recorded with its station for each LEG record and "fault latched" for a BODY or MISSION flag
that was clear. It clears no mark, and leaves the tilt condition, the clash watch, the other flags and conditions and every
other block as they are, but for the Event frame (R53 to R55, R150, R158). That the records are read lowest station first,
which gives the events and the first-fault record their order, is the model's reading (log entry 11). Outside the multiples
of 1 048 576 µs, and in SETUP, nothing is read. A mark that any command sets is that of a record older than its limit, and
its silence fault is latched and active after it (R53, R54, R56). -/
def Obligations.AgeingReadMarks : Prop :=
  (∀ (c : Instr) (s t : State) (n : Fin 8) (r : Record), exec c s = .next t → s.record n = some r → r.stale = false →
    t.record n = some { r with stale := true } →
    staleLimit s r < (t.time.us - r.tag).toNat ∧ t.flt.flags[(silenceOf r.part).idx] = true ∧
    t.flt.conds[(silenceOf r.part).idx] = true) ∧
  (∀ (dt : Nat) (s : State),
    let e := elapse s dt
    (s.pe.leg ≠ .setup → e.time.us.toNat % 1048576 = 0 → ∃ t, exec (.ageingRead dt) s = .next t ∧
      (∀ n r, s.record n = some r → n ≠ s.sbi.station → r.stale = false → staleLimit s r < (e.time.us - r.tag).toNat →
        t.record n = some { r with stale := true }) ∧
      (∀ n, (∀ r, s.record n = some r →
          n = s.sbi.station ∨ r.stale = true ∨ (e.time.us - r.tag).toNat ≤ staleLimit s r) →
        t.record n = s.record n) ∧
      t.pt = { s.pt with
        records := t.pt.records
        peerSilent := s.pt.peerSilent || newlySilent e .peerSilent
        bodySilent := s.pt.bodySilent || newlySilent e .bodySilent
        intentSilent := s.pt.intentSilent || newlySilent e .intentSilent } ∧
      (∀ c : FaultCode, t.flt.flags[c.idx] = (s.flt.flags[c.idx] || newlySilent e c) ∧
        t.flt.conds[c.idx] = (s.flt.conds[c.idx] || newlySilent e c)) ∧
      t.flt.first = s.flt.first.or ((firstSilent e).map fun c => { code := c, epoch := s.time.epoch }) ∧
      t.flt.clashStation = s.flt.clashStation ∧ t.flt.clashPosition = s.flt.clashPosition ∧
      t.flt.alarmsInHold = s.flt.alarmsInHold ∧ Logs s t (silenceNotes e) ∧ Offered s t s.txq ∧
      t.time = e.time ∧ t.sbi = e.sbi ∧ t.setup = e.setup ∧ t.fsu = e.fsu ∧ t.pe = e.pe ∧ t.scu = e.scu ∧
      t.tu = e.tu) ∧
    (s.pe.leg = .setup ∨ e.time.us.toNat % 1048576 ≠ 0 → exec (.ageingRead dt) s = .next e))

/-! ## The two local links -/

/-- A good sample (R62 to R67, R72 to R74): in SETUP it is discarded; after it, in a unit that is degraded or not, but for
the sample that ends degraded contact (`DegradedContact`), the delay lines shift, the outputs are the rounded weighted sums
limited to 16 bits, a limited axis sets its sticky flag, FILTER_LIMIT is reported when the condition was ended and ends when
no axis is limited, the refill count goes up, the link watch starts again and its condition ends, a stuck condition ends at a
differing Fz and stays at an equal one that does not begin it, and, in a unit that is not degraded and while the leg is not
stepping, the class is judged by the thresholds once the refill has finished. A sample that does not complete a stuck run
records FILTER_LIMIT, and, in an entry to STANCE, the silence of the MISSION record it reads (R150, R158). -/
def Obligations.ForceSampleTaken : Prop :=
  ∀ (dt : Nat) (s : State) (l : List Byte), forceFrame false l = true → s.fsu.link ≠ .waitIdle →
    let e := elapse s dt
    let limited := sampleLimited s l
    let f := FaultCode.filterLimit.idx
    (s.pe.leg = .setup → exec (.forceSampleGood dt l) s = .next { e with fsu := { e.fsu with link := .waitIdle } }) ∧
    (s.pe.leg ≠ .setup → ¬ RecoversNow s l → ∃ t, exec (.forceSampleGood dt l) s = .next t ∧
      t.fsu.link = .waitIdle ∧ t.fsu.watch = some 2000 ∧ t.fsu.linkCond = false ∧ t.fsu.bad = s.fsu.bad ∧
      t.fsu.prevFz = some (halfAt l 4) ∧ t.fsu.refill = min 17 (s.fsu.refill + 1) ∧
      (∀ k : Fin 16,
        t.fsu.ax.line[k] = (if k.val = 0 then halfAt l 0 else s.fsu.ax.line[k.val - 1]'(by omega)) ∧
        t.fsu.ay.line[k] = (if k.val = 0 then halfAt l 2 else s.fsu.ay.line[k.val - 1]'(by omega)) ∧
        t.fsu.az.line[k] = (if k.val = 0 then halfAt l 4 else s.fsu.az.line[k.val - 1]'(by omega))) ∧
      t.fsu.ax.out = outputOf s t.fsu.ax.line ∧ t.fsu.ay.out = outputOf s t.fsu.ay.line ∧
      t.fsu.az.out = outputOf s t.fsu.az.line ∧
      t.fsu.ax.limit = (s.fsu.ax.limit || outputLimited s t.fsu.ax.line) ∧
      t.fsu.ay.limit = (s.fsu.ay.limit || outputLimited s t.fsu.ay.line) ∧
      t.fsu.az.limit = (s.fsu.az.limit || outputLimited s t.fsu.az.line) ∧
      t.fsu.limitCond = limited ∧ t.flt.flags[f] = (s.flt.flags[f] || (limited && !s.fsu.limitCond)) ∧
      t.flt.conds[f] = (if limited = s.fsu.limitCond then s.flt.conds[f] else limited) ∧
      t.flt.conds[FaultCode.footLinkLost.idx] = (s.flt.conds[FaultCode.footLinkLost.idx] && !s.fsu.linkCond) ∧
      (s.fsu.prevFz ≠ none → s.fsu.prevFz ≠ some (halfAt l 4) → t.fsu.stuckCond = false ∧
        t.flt.conds[FaultCode.forceStuck.idx] = (s.flt.conds[FaultCode.forceStuck.idx] && !s.fsu.stuckCond)) ∧
      (s.fsu.prevFz = none ∨ s.fsu.prevFz = some (halfAt l 4) → ¬ StuckNow s l → t.fsu.stuckCond = s.fsu.stuckCond ∧
        t.flt.conds[FaultCode.forceStuck.idx] = s.flt.conds[FaultCode.forceStuck.idx]) ∧
      t.fsu.stuckRun = (if s.fsu.prevFz = some (halfAt l 4) then min 512 (s.fsu.stuckRun + 1) else 1) ∧
      (¬ StuckNow s l → ReportedAmongReads e t (limitNote s l) []) ∧
      (¬ StuckNow s l → s.pe.leg ≠ .load → Reported s t (limitNote s l)) ∧
      (s.fsu.degraded = false → s.pe.leg.stepping = false → t.fsu.degraded = false ∧
        t.fsu.contact = (if s.filterN + 1 < min 17 (s.fsu.refill + 1) then classByForce s s.fsu.contact t.fsu.az.out
          else s.fsu.contact)) ∧
      t.time = e.time ∧ t.sbi = e.sbi ∧ t.setup = e.setup ∧ t.scu = e.scu)

/-- A judged sample (R63, R67, R68, R70, R71, R104): the class is that of the thresholds; a change of it reaches the Phase
Engine first, as `ClassActs` says for each leg state (stub, entry to LOAD, watch, LOADED in LOAD, late LOADED, HOLD); then
the slip state moves by its table, and slip-start and slip-end reach the Phase Engine as `SlipActs` says (notice, slip
timer, freeze, the end of SLIP_PERSIST). `u` stands between the two. The sample reports no fault of its own; one that limits
an axis anew or completes a stuck run is left to `ForceSampleTaken` and `DegradedContact`. That the LOADED notice of an
entry to STANCE carries the gait after the change point (log entry 30), and that a LOADED in LOAD with the load-pending mark
set hands one notice (log entry 16), are the model's readings. -/
def Obligations.JudgedSampleActs : Prop :=
  ∀ (dt : Nat) (s : State) (l : List Byte), SampleTaken s l → s.fsu.degraded = false →
    s.filterN + 1 < min 17 (s.fsu.refill + 1) → ¬ StuckNow s l → (sampleLimited s l = true → s.fsu.limitCond = true) →
    (s.pe.leg = .claim → QueueOrdered s) →
    let e := elapse s dt
    let fx := outputOf s (lineAfter (halfAt l 0) s.fsu.ax.line)
    let fy := outputOf s (lineAfter (halfAt l 2) s.fsu.ay.line)
    let fz := outputOf s (lineAfter (halfAt l 4) s.fsu.az.line)
    let new := classByForce s s.fsu.contact fz
    let ft := max fx.natAbs fy.natAbs + min fx.natAbs fy.natAbs / 2
    let v := slipTable s.slipCount s.fsu.slipping s.fsu.slipRun s.fsu.okRun new (decide (0 < fz ∧ s.mu * fz < ft * 256))
    let c0 := s.flt.conds
    let c1 := if s.fsu.limitCond = true ∧ sampleLimited s l = false then c0.set FaultCode.filterLimit.idx false else c0
    let c2 := if s.fsu.linkCond then c1.set FaultCode.footLinkLost.idx false else c1
    let c3 := if s.fsu.stuckCond = true ∧ s.fsu.prevFz ≠ none ∧ s.fsu.prevFz ≠ some (halfAt l 4) then
      c2.set FaultCode.forceStuck.idx false else c2
    let b : State := { e with flt := { s.flt with conds := c3 } }
    ∃ t u, exec (.forceSampleGood dt l) s = .next t ∧
      t.fsu.contact = new ∧ (t.fsu.slipping, t.fsu.slipRun, t.fsu.okRun) = v.1 ∧
      u.sbi = e.sbi ∧ u.setup = e.setup ∧
      (if new = s.fsu.contact then u.pe = b.pe ∧ u.tu = b.tu ∧ u.pt = b.pt ∧ u.txq = b.txq ∧ u.flt = b.flt
      else ClassActs b u s.fsu.contact new) ∧
      SlipActs u t v.2 ∧ t.time = e.time ∧ t.sbi = e.sbi ∧ t.setup = e.setup ∧ t.scu = e.scu

/-- The other ends of a frame on the two links: a bad sample is counted and empties the recovery run, an unfit one is
discarded uncounted (R61, R76); a bad reply is discarded and leaves the window as it was (R137); 4 recessive bit times take
an engine from WAIT_IDLE to IDLE (R60, R135); the end of a Setpoint opens the answer window for 400 µs (R136). A window that
closes with no reply is a miss; at 3, with the condition ended, DRIVE_LOST is taken (R137). -/
def Obligations.LinkEventsAndMisses : Prop :=
  (∀ (dt : Nat) (s : State),
     let e := elapse s dt
     (∀ b, s.fsu.link ≠ .waitIdle → badForce b = true → exec (.forceSampleBad dt b) s = .next
       { e with fsu := { e.fsu with link := .waitIdle, bad := satInc s.fsu.bad, recovery := 0 } }) ∧
     (∀ l, s.fsu.link ≠ .waitIdle → forceFrame true l = true → exec (.forceSampleUnfit dt l) s = .next
       { e with fsu := { e.fsu with link := .waitIdle } }) ∧
     (s.fsu.link = .waitIdle → exec (.footLinkIdle dt) s = .next { e with fsu := { e.fsu with link := .idle } }) ∧
     (∀ b, s.tu.link ≠ .waitIdle →
       (linkFailed 10 b = true ∨ ∃ l, b = .whole l ∧ l.length = 10 ∧
         (linkCheckAgrees 10 l = false ∨ s.tu.window = none ∨ byteAt l 0 ≠ s.tu.tag ∨ 4 ≤ (byteAt l 1).toNat)) →
       exec (.badReply dt b) s = .next { e with tu := { e.tu with link := .waitIdle } }) ∧
     (s.tu.link = .waitIdle → exec (.driveLinkIdle dt) s = .next { e with tu := { e.tu with link := .idle } }) ∧
     (∀ k, s.tu.sending = some k → k ≤ dt → exec (.setpointEnd dt) s = .next
       { e with tu := { e.tu with sending := none, window := some 400 } })) ∧
  (∀ (dt : Nat) (s : State) (k : Nat), s.tu.window = some k → k ≤ dt →
     let e := elapse s dt
     let m := satInc s.tu.misses
     (m ≠ 3#8 ∨ s.tu.driveLost = true → exec (.answerWindowClose dt) s = .next
       { e with tu := { e.tu with window := none, misses := m } }) ∧
     (m = 3#8 → s.tu.driveLost = false → ∃ t, exec (.answerWindowClose dt) s = .next t ∧
       FaultTaken { e with tu := { e.tu with window := none, misses := m, driveLost := true } } t .driveLost
         (latchNote s .driveLost ++ holdNote s) ∧
       t.flt.conds = s.flt.conds.set FaultCode.driveLost.idx true))

/-- Degraded contact. The link watch expires (R72, R74): FOOT_LINK_LOST is latched, and a unit that is not degraded enters
degraded contact with the cause LINK, a slipping foot with the slip-end of R104: slip timer and freeze ended, SLIP_END
handed, a reported SLIP_PERSIST ended, and in HOLD no notice; a unit already degraded adds the cause; with the link
condition active only the run and the watch change. A stuck run of 512 in a moving state latches FORCE_STUCK and does the
same with the cause STUCK (R73, R74). A good sample in a degraded unit hands no class change and judges no slip; it moves
the recovery run, and the sixteenth differing one ends degraded contact, zeroes the lines and is the first of the refill
(R76; that it is entered on the zeroed lines as a sample of its own, with its own limits, is the model's reading, log entry
14). A differing sample ends the stuck condition, here as everywhere (R73); the faults are recorded as R150 says. -/
def Obligations.DegradedContact : Prop :=
  (∀ (dt : Nat) (s : State) (k : Nat), s.fsu.watch = some k → k ≤ dt → s.pe.leg ≠ .setup →
     let e := elapse s dt
     let conds := s.flt.conds.set FaultCode.footLinkLost.idx true
     let flags := s.flt.flags.set FaultCode.footLinkLost.idx true
     let slipOver := noticeWith s s.pe.leg s.pe.applied.gait false 6 s.pe.steps 0xFF#8
     (s.fsu.linkCond = true → exec (.footLinkLost dt) s = .next
       { e with fsu := { s.fsu with watch := none, recovery := 0 } }) ∧
     (s.fsu.linkCond = false → s.fsu.degraded = true → ∃ t, exec (.footLinkLost dt) s = .next t ∧
       t.fsu = { s.fsu with watch := none, recovery := 0, linkCond := true, causeLink := true } ∧
       t.flt.flags = flags ∧ t.flt.conds = conds ∧ t.pe = e.pe ∧ t.tu = e.tu ∧ t.pt = e.pt ∧ t.sbi = e.sbi ∧
       Reported s t (latchNote s .footLinkLost)) ∧
     (s.fsu.linkCond = false → s.fsu.degraded = false → ∃ t, exec (.footLinkLost dt) s = .next t ∧
       t.fsu = { s.fsu with
         watch := none, recovery := 0, linkCond := true, causeLink := true, degraded := true, slipping := false
         slipRun := 0, okRun := 0, refHeight := s.tu.measured.z } ∧
       t.flt.flags = flags ∧ t.pt = e.pt ∧ t.sbi = e.sbi ∧
       (s.fsu.slipping = false ∨ s.pe.leg.walking = false → t.flt.conds = conds ∧ t.pe = e.pe ∧ t.tu = e.tu) ∧
       (s.fsu.slipping = false ∨ s.pe.leg.walking = false ∨ s.pe.leg = .hold →
         ∀ g ∈ t.txq.frames, g.isEvent = true ∨ g ∈ s.txq.frames) ∧
       (s.fsu.slipping = true → s.pe.leg.walking = true →
         t.tu = { e.tu with frozen := false } ∧
         t.flt.conds = (if s.pe.slipReported then conds.set FaultCode.slipPersist.idx false else conds) ∧
         (s.pe.leg = .hold → t.pe = { e.pe with slipReported := false }) ∧
         (s.pe.leg ≠ .hold → (s.pe.leg = .claim → QueueOrdered s) →
           t.pe = { e.pe with slipT := none, slipReported := false } ∧
           (s.txq.frames.length ≤ 6 → slipOver ∈ t.txq.frames))) ∧
       Reported s t (latchNote s .footLinkLost ++ [{ bit := 1, code := 0x30, detail := 1#8 }]))) ∧
  (∀ (dt : Nat) (s : State) (l : List Byte), SampleTaken s l → (s.fsu.degraded = true ∨ StuckNow s l) →
    let e := elapse s dt
    let f := FaultCode.filterLimit.idx
    ∃ t, exec (.forceSampleGood dt l) s = .next t ∧ t.fsu.contact = s.fsu.contact ∧
      t.fsu.watch = some 2000 ∧ t.fsu.linkCond = false ∧ t.fsu.prevFz = some (halfAt l 4) ∧ t.pt = s.pt ∧ t.sbi = e.sbi ∧
      (∀ i : Fin 17, i ≠ FaultCode.filterLimit.idx → i ≠ FaultCode.forceStuck.idx → t.flt.flags[i] = s.flt.flags[i]) ∧
      (StuckNow s l →
        t.fsu.degraded = true ∧ t.fsu.stuckCond = true ∧ t.fsu.causeStuck = true ∧ t.fsu.causeLink = s.fsu.causeLink ∧
        t.fsu.recovery = 0 ∧ t.flt.flags[FaultCode.forceStuck.idx] = true ∧
        t.flt.conds[FaultCode.forceStuck.idx] = true ∧
        (s.fsu.degraded = true → t.pe = e.pe ∧ t.tu = e.tu ∧ t.fsu.refHeight = s.fsu.refHeight ∧
          Reported s t (limitNote s l ++ latchNote s .forceStuck)) ∧
        (s.fsu.degraded = false →
          t.fsu.refHeight = s.tu.measured.z ∧ t.fsu.slipping = false ∧ t.fsu.slipRun = 0 ∧ t.fsu.okRun = 0 ∧
          t.pe = (if s.fsu.slipping then { e.pe with slipT := none, slipReported := false } else e.pe) ∧
          t.tu = (if s.fsu.slipping then { e.tu with frozen := false } else e.tu) ∧
          t.flt.conds[FaultCode.slipPersist.idx] =
            (s.flt.conds[FaultCode.slipPersist.idx] && !(s.fsu.slipping && s.pe.slipReported)) ∧
          (s.fsu.slipping = true → s.txq.frames.length ≤ 6 →
            noticeWith s s.pe.leg s.pe.applied.gait false 6 s.pe.steps 0xFF#8 ∈ t.txq.frames) ∧
          Reported s t (limitNote s l ++ latchNote s .forceStuck ++ [{ bit := 1, code := 0x30, detail := 2#8 }]))) ∧
      (¬ StuckNow s l → t.pe = e.pe ∧ t.tu = e.tu ∧ t.fsu.slipping = s.fsu.slipping ∧ t.fsu.slipRun = s.fsu.slipRun ∧
        t.fsu.okRun = s.fsu.okRun ∧ t.flt.flags[FaultCode.forceStuck.idx] = s.flt.flags[FaultCode.forceStuck.idx] ∧
        (s.fsu.prevFz = none ∨ s.fsu.prevFz = some (halfAt l 4) →
          t.fsu.degraded = true ∧ t.fsu.recovery = 0 ∧ Reported s t (limitNote s l)) ∧
        (s.fsu.prevFz ≠ none → s.fsu.prevFz ≠ some (halfAt l 4) → t.fsu.stuckCond = false ∧
          t.flt.conds[FaultCode.forceStuck.idx] = (s.flt.conds[FaultCode.forceStuck.idx] && !s.fsu.stuckCond)) ∧
        (s.fsu.prevFz ≠ none → s.fsu.prevFz ≠ some (halfAt l 4) → s.fsu.recovery < 15 →
          t.fsu.degraded = true ∧ t.fsu.recovery = s.fsu.recovery + 1 ∧ Reported s t (limitNote s l)) ∧
        (s.fsu.prevFz ≠ none → s.fsu.prevFz ≠ some (halfAt l 4) → 15 ≤ s.fsu.recovery →
          t.fsu.degraded = false ∧ t.fsu.causeLink = false ∧ t.fsu.causeStuck = false ∧ t.fsu.stuckRun = 1 ∧
          t.fsu.refill = 1 ∧
          (∀ k : Fin 16,
            t.fsu.ax.line[k] = (if k.val = 0 then halfAt l 0 else 0#16) ∧
            t.fsu.ay.line[k] = (if k.val = 0 then halfAt l 2 else 0#16) ∧
            t.fsu.az.line[k] = (if k.val = 0 then halfAt l 4 else 0#16)) ∧
          t.fsu.ax.out = outputOf s t.fsu.ax.line ∧ t.fsu.ay.out = outputOf s t.fsu.ay.line ∧
          t.fsu.az.out = outputOf s t.fsu.az.line ∧
          t.fsu.ax.limit = (s.fsu.ax.limit || outputLimited s (lineAfter (halfAt l 0) s.fsu.ax.line) ||
            outputLimited s t.fsu.ax.line) ∧
          t.fsu.ay.limit = (s.fsu.ay.limit || outputLimited s (lineAfter (halfAt l 2) s.fsu.ay.line) ||
            outputLimited s t.fsu.ay.line) ∧
          t.fsu.az.limit = (s.fsu.az.limit || outputLimited s (lineAfter (halfAt l 4) s.fsu.az.line) ||
            outputLimited s t.fsu.az.line) ∧
          (let once := sampleLimited s l
          let again := outputLimited s t.fsu.ax.line || outputLimited s t.fsu.ay.line || outputLimited s t.fsu.az.line
          let before := if once = s.fsu.limitCond then s.flt.conds[f] else once
          let new := (once && !s.fsu.limitCond) || (again && !once)
          t.fsu.limitCond = again ∧ t.flt.flags[f] = (s.flt.flags[f] || new) ∧
          t.flt.conds[f] = (if again = once then before else again) ∧
          Reported s t ((if new then latchNote s .filterLimit else []) ++ [{ bit := 1, code := 0x31, detail := 0#8 }])))))

/-- The reply (R137 to R139): the window closes, the misses are 0 and DRIVE_LOST ends; by its state the measured position is
taken, the drive-limit flag and the started mark take their values, and DRIVE_FAULT is raised or ended; in READY p follows
the measured position. In degraded contact a reply that takes its position judges the class by the lag under a pressing
Setpoint, or by a rise of 6000 µm above the reference height (R75), and a change of class reaches the Phase Engine (R68). A
DRIVE_FAULT that is raised is taken as R150 and R152 say, with its condition, its events and its Alarm. That the judgement
comes after it is the model's reading (log entry 15), and through `ClassActs` so are the gait in the LOADED notice (log
entry 30) and the one notice of a late LOADED in LOAD (log entry 16). `u` stands before the judgement. -/
def Obligations.StatusReplyTaken : Prop :=
  ∀ (dt : Nat) (s : State) (l : List Byte), statusFrame l = true → s.tu.link ≠ .waitIdle → s.tu.window ≠ none →
    byteAt l 0 = s.tu.tag →
    let e := elapse s dt
    let code := (byteAt l 1).toNat
    let q : P3 :=
      { x := (halfAt l 2).toInt * 100, y := (halfAt l 4).toInt * 100, z := (halfAt l 6).toInt * 100 }
    let c := if s.tu.driveLost then s.flt.conds.set FaultCode.driveLost.idx false else s.flt.conds
    let raise := !s.tu.driveFault && (code == 2 || (code == 3 && s.pe.leg.walking))
    ∃ t, exec (.statusReply dt l) s = .next t ∧
      t.tu.link = .waitIdle ∧ t.tu.window = none ∧ t.tu.misses = 0#8 ∧ t.tu.driveLost = false ∧
      t.tu.measured = (if code = 3 then s.tu.measured else q) ∧
      t.tu.driveLimit = (code == 1) ∧
      t.tu.started = (s.tu.started || code == 0 || code == 1) ∧
      t.tu.driveFault = (if code ≤ 1 then false else s.tu.driveFault || raise) ∧
      (s.pe.leg = .ready → t.tu.p = (if code = 3 then s.tu.p else q)) ∧
      t.flt.flags[FaultCode.driveFault.idx] = (s.flt.flags[FaultCode.driveFault.idx] || raise) ∧
      (raise = true → s.pe.leg.walking = true → t.pe.leg = .hold) ∧
      (s.fsu.degraded = false → raise = false →
        t.pe = e.pe ∧ t.fsu = e.fsu ∧ t.txq = e.txq ∧
        t.flt = { s.flt with
          conds := if code ≤ 1 ∧ s.tu.driveFault = true then c.set FaultCode.driveFault.idx false else c }) ∧
      (let conds := if code ≤ 1 ∧ s.tu.driveFault = true then c.set FaultCode.driveFault.idx false else c
      let h : State := { e with
        tu := { e.tu with
          link := .waitIdle, window := none, misses := 0#8, driveLost := false
          measured := if code = 3 then s.tu.measured else q
          p := if s.pe.leg = .ready ∧ code ≠ 3 then q else s.tu.p, driveLimit := code == 1
          started := s.tu.started || code == 0 || code == 1
          driveFault := if code ≤ 1 then false else s.tu.driveFault || raise }
        flt := { s.flt with conds := conds } }
      ∃ u : State,
        (raise = true →
          FaultTaken h u .driveFault (latchNote s .driveFault ++ holdNote s) ∧
          u.flt.conds = conds.set FaultCode.driveFault.idx true ∧ u.flt.clashStation = s.flt.clashStation ∧
          u.flt.clashPosition = s.flt.clashPosition) ∧
        (raise = false → u = h) ∧
        (s.fsu.degraded = false ∨ code = 3 → t = u) ∧
        (s.fsu.degraded = true → code ≠ 3 → ∀ v, s.tu.lastZ = some v →
          let lag := q.z - v
          let new : Contact :=
            if s.tu.pressing then (if lag < 3000 then .air else if lag < 8000 then .touch else .loaded)
            else if s.fsu.contact ≠ .air ∧ s.fsu.refHeight + 6000 ≤ q.z then .air else s.fsu.contact
          t.fsu = { e.fsu with
            contact := new, refHeight := if s.tu.pressing then q.z else s.fsu.refHeight } ∧
          (if new = s.fsu.contact then t.pe = u.pe ∧ t.tu = u.tu ∧ t.pt = u.pt ∧ t.txq = u.txq ∧ t.flt = u.flt
          else ClassActs u t s.fsu.contact new))) ∧
      t.time = e.time ∧ t.sbi = e.sbi ∧ t.setup = e.setup ∧ t.scu = e.scu

/-! ## The node's own clock -/

/-- A control-period expiry (R79, R82, R130, R131, R135, R136): the timer runs on at 2000 µs; one Setpoint is sent with the
next tag, its coordinates those of p in the box, in 0.1 mm, its ten bytes on the drive link; φ moves by its table while the
leg state stays; READY sends HOLD and keeps p itself unclamped (the model's reading, log entry 28); and a swing follows its
profile in x, y and height, clamped to the box. -/
def Obligations.ControlPeriodSends : Prop :=
  ∀ (dt : Nat) (s : State) (k : Nat), s.pe.period = some k → k ≤ dt → s.pe.leg ≠ .setup →
    let e := elapse s dt
    let up := s.pe.phi.toNat + 131072 / s.pe.applied.cycle
    let pl := s.tu.plan
    let j : Int := (pl.k + 1 : Nat)
    ∃ t p, exec (.controlPeriodExpiry dt) s = .next t ∧
      t.pe.period = some 2000 ∧ t.tu.tag = s.tu.tag + 1#8 ∧ t.tu.setpoint = some p ∧ p.tag = s.tu.tag + 1#8 ∧
      t.tu.sending = some 25 ∧ t.tu.priorZ = s.tu.lastZ ∧
      (let body := [match p.mode with | .hold => 0#8 | .position => 1#8 | .soft => 2#8, p.tag,
        hiByte p.x, loByte p.x, hiByte p.y, loByte p.y, hiByte p.z, loByte p.z]
       t.tu.line = body ++ [checkC2 body, checkC1 body]) ∧
      (BoxSane s →
        TenthsOf p.x (inBox s t.tu.p).x ∧ TenthsOf p.y (inBox s t.tu.p).y ∧ TenthsOf p.z (inBox s t.tu.p).z ∧
        t.tu.lastZ = some (100 * p.z.toInt) ∧
        t.tu.pressing = (match s.tu.lastZ with
          | none => false
          | some before => decide (p.mode = .soft ∧ 100 * p.z.toInt ≤ before))) ∧
      (t.pe.leg = s.pe.leg → t.pe.phi = match s.pe.leg with
        | .stance => BitVec.ofNat 16 (min up s.pe.applied.gait.beta)
        | .unload | .swing | .search | .load => BitVec.ofNat 16 (min up 65535)
        | _ => s.pe.phi) ∧
      t.time = e.time ∧ t.sbi = e.sbi ∧ t.setup = e.setup ∧ t.fsu = e.fsu ∧
      (s.pe.leg = .ready → p.mode = .hold ∧ t.tu.p = s.tu.p ∧ t.pe = { e.pe with period := some 2000 } ∧
        t.pt = s.pt ∧ t.scu = s.scu ∧ t.txq = s.txq ∧ t.flt = s.flt) ∧
      (s.pe.leg = .swing → s.pe.stubRise = false → pl.k + 1 < pl.kEnd →
        p.mode = .position ∧ t.tu.plan = { pl with k := pl.k + 1 } ∧ t.pe.leg = .swing ∧
        (s.boxZMin ≤ s.boxZMax → t.tu.p.z = max (s.boxZMin * 1000) (min (s.boxZMax * 1000)
          (pl.z0 + (4 * pl.h * j * (pl.kEnd - j)).fdiv (pl.kEnd * pl.kEnd) +
            (s.tu.stub.d0 * (pl.kEnd - j)).tdiv (pl.kEnd - s.tu.stub.k)))) ∧
        (s.boxXMin ≤ s.boxXMax → t.tu.p.x = max (s.boxXMin * 1000) (min (s.boxXMax * 1000)
          (pl.startX + ((pl.targetX - pl.startX) * j).tdiv pl.kEnd))) ∧
        (s.boxYMin ≤ s.boxYMax → t.tu.p.y = max (s.boxYMin * 1000) (min (s.boxYMax * 1000)
          (pl.startY + ((pl.targetY - pl.startY) * j).tdiv pl.kEnd))))

/-- The decisions of an expiry in STANCE (R50, R53, R56, R79, R80, R84 to R87, R112), on records judged by their age at that
instant: the change point under STAND, the turn record, and then, unless a check is pending, the first of the nine
conditions that fails is the wait reason, or, when all hold, a check is requested on the snapshot of R112. The effective
intent is the stored Intent while it is fresh, without velocities in STAND, and otherwise the standing default. No read
changes a record but by its stale mark, and where none is older than its limit the Peer Table stays. -/
def Obligations.StanceExpiryDecides : Prop :=
  (∀ (s : State) (n : Fin 8) (r : Record) (m : MissionPart), s.stationOf .mission = some n → s.record n = some r →
    r.stale = false → r.part = .mission m →
    effIntent s =
      { gait := m.gait, vx := if m.gait = .stand then 0 else m.vx, vy := if m.gait = .stand then 0 else m.vy
        omega := if m.gait = .stand then 0 else m.omega, cycle := m.cycle, step := m.step, offset := m.offset }) ∧
  (∀ s : State, (∀ n, s.stationOf .mission = some n → fresh s n = false) →
    effIntent s = { gait := .stand, vx := 0, vy := 0, omega := 0, cycle := 2000, step := 60, offset := 0 }) ∧
  (∀ g p, isLead g p = true ↔ (g, p) ∈ [(Gait.crawl, LegPos.lh), (.diagonal, .lf), (.diagonal, .rh)]) ∧
  (∀ g p q, predecessor g p = some q ↔ (g, p, q) ∈
    [(Gait.crawl, LegPos.lf, LegPos.lh), (.crawl, .rf, .rh), (.crawl, .lh, .rf), (.crawl, .rh, .lf),
     (.diagonal, .lf, .rf), (.diagonal, .rf, .lf), (.diagonal, .lh, .rh), (.diagonal, .rh, .lh)]) ∧
  (∀ (dt : Nat) (s : State) (k : Nat), s.pe.period = some k → k ≤ dt → s.pe.leg = .stance → PositionsDistinct s →
    let e := aged (expiring s dt)
    let a := if s.pe.applied.gait = .stand then appliedOf (effIntent e) else s.pe.applied
    let changed := a.gait != s.pe.applied.gait
    let kept := if changed then none else s.pe.turn
    let read := (predecessor a.gait s.legPos).bind fun p => (e.legAt p).map LegPart.steps
    let d : State := { e with pe := { e.pe with
      applied := a, turn := if kept = none then read else kept, lead := changed || s.pe.lead } }
    ∃ t, exec (.controlPeriodExpiry dt) s = .next t ∧
      (∀ n, t.record n = s.record n ∨ t.record n = e.record n) ∧
      ((∀ n, ¬ ReadMarks (elapse s dt) n) → t.pt = s.pt) ∧
      (s.pe.checkPending = true → t.pe = d.pe ∧ t.scu = s.scu) ∧
      (s.pe.checkPending = false →
        (∀ i : Fin 9, (∀ j : Fin 9, j < i → LiftHolds d liftOrder[j]) → ¬ LiftHolds d liftOrder[i] →
          t.pe = { d.pe with wait := liftOrder[i], ownSway := none } ∧ t.scu = s.scu) ∧
        ((∀ i : Fin 9, LiftHolds d liftOrder[i]) → CheckRequested d t)))

/-- The decisions of an expiry in CLAIM, UNLOAD and LOAD, outside SETUP as every expiry (R78, R89, R91 to R93, R102, R129),
on records judged by their age at that instant (R53, R56). In CLAIM none. In UNLOAD the unload test (R69): unloaded, the leg
enters SWING with its plan, the foot still at its start, whether or not a check is pending; otherwise, with the
check-pending mark set, no condition is tested and no second request is made (R87), and with it clear a failed nearby test
cancels, and else a new check is requested; in LOAD a class found LOADED enters STANCE. That the unload test is asked even
while a check is pending (log entry 27), and that the LOADED notice carries the gait after the change point (log entry 30),
are the model's readings. -/
def Obligations.StepExpiryDecides : Prop :=
  ∀ (dt : Nat) (s : State) (k : Nat), s.pe.period = some k → k ≤ dt → s.pe.leg ≠ .setup →
    PositionsDistinct s → BoxSane s → (s.pe.leg = .claim → QueueOrdered s) →
    let e := aged (expiring s dt)
    let a := s.pe.applied
    let tst := (match a.gait with | .diagonal => 32768 | _ => 49152) * a.cycle / 65536
    let tsw := a.cycle - tst
    let light : Bool :=
      if s.fsu.degraded then s.fsu.contact == .air
      else decide (s.filterN + 1 < s.fsu.refill ∧ s.fsu.az.out < s.tUnload)
    let i := effIntent e
    let ux := i.vx - (i.omega * s.neutralY).tdiv 1000
    let uy := i.vy + (i.omega * s.neutralX).tdiv 1000
    let target := inBox s
      { x := (s.neutralX + (ux * tst).tdiv 2000) * 1000, y := (s.neutralY + (uy * tst).tdiv 2000) * 1000, z := 0 }
    ∃ t p, exec (.controlPeriodExpiry dt) s = .next t ∧ t.tu.setpoint = some p ∧
      (s.pe.leg = .claim → t.pe = e.pe) ∧
      (s.pe.leg = .unload → light = true →
        t.pe = { e.pe with
          leg := .swing, checkPending := false, wait := .none, ownSway := none, unloadT := none
          footholdT := some (tsw * s.footholdF / 8 * 1000), lead := false, deadlinePassed := false, stubs := 0
          stubRise := false, attempts := 0, watchArmed := s.fsu.contact == .air } ∧
        t.tu.plan =
          { startX := s.tu.p.x, startY := s.tu.p.y, targetX := target.x, targetY := target.y, z0 := s.tu.p.z
            h := a.step * 1000, kEnd := max 10 (tsw / 2), k := 0 } ∧
        t.tu.stub = { z := 0, k := 0, d0 := 0, j := 0 } ∧ t.tu.p = inBox s s.tu.p ∧ t.tu.lowering = false ∧
        t.tu.stanceZ = 0 ∧ p.mode = .position ∧ t.scu = s.scu ∧
        ((∀ n, ¬ ReadMarks (elapse s dt) n) → t.pt = s.pt ∧ t.txq = s.txq ∧ t.flt = s.flt)) ∧
      (s.pe.leg = .unload → light = false → s.pe.checkPending = true →
        t.pe = e.pe ∧ t.scu = s.scu ∧ ((∀ n, ¬ ReadMarks (elapse s dt) n) → t.pt = s.pt)) ∧
      (s.pe.leg = .unload → light = false → s.pe.checkPending = false → LiftHolds e .slipNearby → LiftHolds e .bodyStale →
        CheckRequested e t) ∧
      (s.pe.leg = .unload → light = false → s.pe.checkPending = false →
        ¬ (LiftHolds e .slipNearby ∧ LiftHolds e .bodyStale) →
        t.pe = cancelledPe e ∧ t.scu = s.scu ∧
        (s.txq.frames.length ≤ 6 →
          noticeWith s .stance a.gait s.fsu.slipping 2 s.pe.steps 0xFF#8 ∈ t.txq.frames)) ∧
      (s.pe.leg = .load → s.fsu.contact = .loaded → t.pe = stancePe e ∧
        (s.txq.frames.length ≤ 6 →
          noticeWith s .stance t.pe.applied.gait s.fsu.slipping 4 s.pe.steps 0xFF#8 ∈ t.txq.frames)) ∧
      (s.pe.leg = .load → s.fsu.contact ≠ .loaded → t.pe = e.pe)

/-- The foot of a leg that stands after the decisions of an expiry outside SETUP, in STANCE, CLAIM or UNLOAD (R118 to R120,
R124 to R128): the stance displacement unless it is frozen, the sway of the request followed, the z of the unload rise, of
the lowering or toward the body height, the clamp with the stance-limit flag and WORKSPACE_CLAMP, which is recorded after
the silence faults of the records read (R150), and the mode. A lowering begins at the expiry after the cancel that asks for
it (R92). The effective intent, the peers' stance-limit flags and the requests come from records judged by their age at that
instant (R53, R56). That a change of state in step 2 first moves the foot in this period, and that a cancel made in it
leaves z where it is in this period, is the model's reading (log entry 12). -/
def Obligations.StandingMoves : Prop :=
  ∀ (dt : Nat) (s : State) (k : Nat), s.pe.period = some k → k ≤ dt → s.pe.leg ≠ .setup → BoxSane s →
    ∃ (t : State) (p : Setpoint) (st sw : P2), exec (.controlPeriodExpiry dt) s = .next t ∧ t.tu.setpoint = some p ∧
      let u := aged t
      (t.pe.leg = .stance ∨ t.pe.leg = .claim ∨ t.pe.leg = .unload →
        let i := effIntent u
        let cancelled := s.pe.leg = .unload ∧ t.pe.leg = .stance
        let down := t.pe.leg = .stance ∧ s.tu.lowering = true
        let goal := s.neutralZ * 1000 - i.offset * 1000
        let z :=
          if t.pe.leg = .unload then min (s.tu.p.z + 250) (s.tu.stanceZ + 6000)
          else if cancelled then s.tu.p.z
          else if down then (if s.tu.p.z ≤ s.tu.stanceZ then s.tu.p.z else max (s.tu.p.z - 250) s.tu.stanceZ)
          else if (s.tu.p.z - goal).natAbs ≤ 40 then goal
          else if s.tu.p.z < goal then s.tu.p.z + 40 else s.tu.p.z - 40
        let q : P3 := { x := s.tu.p.x + st.x + sw.x, y := s.tu.p.y + st.y + sw.y, z := z }
        let clamped := decide (inBox s q ≠ q)
        let w := FaultCode.workspaceClamp.idx
        (StanceFrozen s u → st = { x := 0, y := 0 }) ∧
        (¬ StanceFrozen s u → st =
          { x := -2 * i.vx + (2 * i.omega * s.tu.p.y).tdiv 1000000
            y := -2 * i.vy - (2 * i.omega * s.tu.p.x).tdiv 1000000 }) ∧
        SwayIs u sw ∧
        t.tu.p = inBox s q ∧ t.tu.lowering = (if cancelled then true else if down then decide (s.tu.stanceZ < z) else s.tu.lowering) ∧
        t.tu.stanceZ = s.tu.stanceZ ∧ t.tu.stanceLimit = clamped ∧ t.tu.clampCond = clamped ∧
        t.flt.flags[w] = (s.flt.flags[w] || (clamped && !s.tu.clampCond)) ∧
        t.flt.conds[w] = (if clamped = s.tu.clampCond then s.flt.conds[w] else clamped) ∧
        ReportedAmongReads (elapse s dt) t []
          (if clamped && !s.tu.clampCond then latchNote s .workspaceClamp else []) ∧
        p.mode = (if t.pe.leg = .unload then .soft else .position))

/-- The foot at an expiry outside SETUP, in SWING during a stub rise, in SEARCH, in LOAD and in HOLD (R124, R131 to R134,
R154): the rise, the descent or the re-place rise, the press, and the HOLD motion of the origin, each clamped to the box
without a watch (R128), and the mode of its Setpoint. -/
def Obligations.FootMoves : Prop :=
  ∀ (dt : Nat) (s : State) (k : Nat), s.pe.period = some k → k ≤ dt → s.pe.leg ≠ .setup → BoxSane s →
    let foot := s.tu.p
    let press : P3 := { x := s.tu.contact.x, y := s.tu.contact.y, z := max (foot.z - 250) (s.tu.contact.z - 10000) }
    let j : Int := (s.tu.stub.j + 1 : Nat)
    let r := s.tu.rise
    let n : Int := (r.j + 1 : Nat)
    ∃ t p, exec (.controlPeriodExpiry dt) s = .next t ∧ t.tu.setpoint = some p ∧
      (s.pe.leg = .swing → s.pe.stubRise = true →
        t.tu.p = inBox s { foot with z := s.tu.stub.z + (s.stubLift * 1000 * j).tdiv 25 } ∧
        t.tu.stub.j = s.tu.stub.j + 1 ∧ t.tu.plan.k = s.tu.plan.k ∧ p.mode = .position) ∧
      (s.pe.leg = .search → s.pe.replacing = false → t.tu.p = inBox s { foot with z := descentZ s } ∧ p.mode = .soft) ∧
      (s.pe.leg = .search → s.pe.replacing = true →
        t.tu.p = inBox s
          { x := r.sx + (r.dx * n).tdiv 50, y := r.sy + (r.dy * n).tdiv 50
            z := r.sz + ((s.tu.plan.z0 + s.tu.plan.h - r.sz) * n).tdiv 50 } ∧
        t.tu.rise.j = r.j + 1 ∧ p.mode = .soft) ∧
      (s.pe.leg = .load → s.fsu.contact ≠ .loaded → t.tu.p = inBox s press ∧ p.mode = .soft) ∧
      (s.pe.leg = .hold →
        (s.pe.origin = some .stance ∨ s.pe.origin = some .claim → t.tu.p = inBox s foot ∧ p.mode = .position) ∧
        (s.pe.origin = some .unload → p.mode = .soft ∧
          t.tu.p = inBox s
            { foot with z := if foot.z ≤ s.tu.stanceZ then foot.z else max (foot.z - 250) s.tu.stanceZ }) ∧
        (s.pe.origin = some .swing ∨ s.pe.origin = some .search → p.mode = .soft ∧
          t.tu.p = inBox s (if s.tu.descentStopped then foot else { foot with z := descentZ s })) ∧
        (s.pe.origin = some .load →
          t.tu.pressFrozen = (s.tu.pressFrozen || s.fsu.contact == .loaded) ∧
          t.tu.p = inBox s (if t.tu.pressFrozen then foot else press) ∧
          p.mode = (if t.tu.pressFrozen then .position else .soft)) ∧
        t.pe = (expiring s dt).pe ∧ t.tu.lowering = s.tu.lowering) ∧
      (s.pe.leg = .hold ∨ s.pe.leg = .swing ∨ s.pe.leg = .search →
        t.tu.stanceLimit = s.tu.stanceLimit ∧ t.tu.clampCond = s.tu.clampCond ∧ t.tu.stanceZ = s.tu.stanceZ)

/-- Step 4 of an expiry (R79, R96 to R101, R131 to R133): the swing end with its three cases, the stub rise end with the new
apex and the correction, the search bottom, and the re-place end; a motion that has not reached its end moves no leg state.
An exhausted search with no attempt left takes NO_FOOTHOLD, with its first-fault record and its Alarm (R150, R152). -/
def Obligations.MotionEnds : Prop :=
  ∀ (dt : Nat) (s : State) (k : Nat), s.pe.period = some k → k ≤ dt →
    let e := expiring s dt
    let pl := s.tu.plan
    let h := pl.h + s.stubLift * 1000
    let ks : Int := s.tu.stub.k
    let air := s.fsu.contact = .air
    let searching : State := { e with pe := { e.pe with
      leg := .search, checkPending := false, replacing := false, wait := .none, ownSway := none } }
    ∃ t, exec (.controlPeriodExpiry dt) s = .next t ∧
      (s.pe.leg = .swing → s.pe.stubRise = false →
        (pl.k + 1 ≠ pl.kEnd → t.pe = e.pe) ∧
        (pl.k + 1 = pl.kEnd → ¬ air → Landed e t) ∧
        (pl.k + 1 = pl.kEnd → air → s.pe.deadlinePassed = true → Exhausted searching t) ∧
        (pl.k + 1 = pl.kEnd → air → s.pe.deadlinePassed = false → t.pe = searching.pe ∧ t.flt = s.flt)) ∧
      (s.pe.leg = .swing → s.pe.stubRise = true →
        (s.tu.stub.j + 1 ≠ 25 → t.pe = e.pe) ∧
        (s.tu.stub.j + 1 = 25 → ¬ air → Landed e t) ∧
        (s.tu.stub.j + 1 = 25 → air → t.pe = { e.pe with stubRise := false } ∧ t.tu.plan = { pl with h := h } ∧
          t.tu.stub.d0 = t.tu.p.z - (pl.z0 + (4 * h * ks * (pl.kEnd - ks)).fdiv (pl.kEnd * pl.kEnd)))) ∧
      (s.pe.leg = .search → s.pe.replacing = false →
        (descentZ s ≠ bottomOf s → t.pe = e.pe) ∧ (descentZ s = bottomOf s → Exhausted e t)) ∧
      (s.pe.leg = .search → s.pe.replacing = true →
        (s.tu.rise.j + 1 ≠ 50 → t.pe = e.pe) ∧
        (s.tu.rise.j + 1 = 50 → ¬ air → Landed e t) ∧
        (s.tu.rise.j + 1 = 50 → air → t.pe = { e.pe with
          replacing := false, watchArmed := true
          footholdT := some ((s.pe.applied.cycle -
            (match s.pe.applied.gait with | .diagonal => 32768 | _ => 49152) * s.pe.applied.cycle / 65536) *
              s.footholdF / 8 * 1000) }))

/-- The result of a support check (R87, R91, R92, R113, R118, R121): it is stored as the last result; with the check-pending
mark clear nothing else happens. A fail in STANCE names the wait reason and, for MARGIN, the own sway request; a fail in
UNLOAD cancels, with its WITHDRAW notice (R94); a pass there only clears the mark. A pass in STANCE tests the nine
conditions again: the first that fails becomes the wait reason and the leg stays, and when all hold it enters CLAIM with its
timer and hands its Lift Notice, whose bytes are those of R89 and R94. The conditions are tested on records judged by their
age at that instant (R53, R56); where none is older than its limit, the whole next state is given. -/
def Obligations.SupportCheckActs : Prop :=
  ∀ (dt : Nat) (s : State) (sn : Snapshot), s.scu.inFlight = some sn →
    let r := checkResult sn s.marginM s.corridorW s.swayMax
    let e : State := { elapse s dt with scu := { checking := false, inFlight := none, last := r } }
    let u : State := { e with pe := { e.pe with checkPending := false } }
    let claim : PhaseEngine := { u.pe with
      leg := .claim, claimT := some 20000, timeoutPassed := false, wait := .none, ownSway := none }
    let lift := noticeWith s .claim s.pe.applied.gait s.fsu.slipping 1 s.pe.steps 0xFF#8
    (s.pe.checkPending = false → exec (.supportCheckResult dt) s = .next e) ∧
    (s.pe.checkPending = true → s.pe.leg = .stance → r.pass = false → exec (.supportCheckResult dt) s = .next
      { u with pe := { u.pe with
          wait := r.reason
          ownSway := if r.reason = .margin then some (r.sway.getD { x := 0, y := 0 }) else none } }) ∧
    (s.pe.checkPending = true → s.pe.leg = .unload → r.pass = true → exec (.supportCheckResult dt) s = .next u) ∧
    (s.pe.checkPending = true → s.pe.leg = .unload → r.pass = false → ∃ t, exec (.supportCheckResult dt) s = .next t ∧
      t.pe = cancelledPe e ∧ t.tu = { e.tu with lowering := true } ∧ t.scu = e.scu ∧ OnlyConds e t s.flt.conds ∧
      t.txq = (s.txq.place (noticeWith s .stance s.pe.applied.gait s.fsu.slipping 2 s.pe.steps 0xFF#8)).1 ∧
      t.pt = s.pt ∧ t.sbi = e.sbi ∧ t.fsu = e.fsu ∧ t.time = e.time ∧ t.setup = e.setup) ∧
    (s.pe.checkPending = true → s.pe.leg = .stance → r.pass = true →
      (liftConditions u).2 = none → (liftConditions u).1.txq.frames.length < 8 →
      ∃ t, exec (.supportCheckResult dt) s = .next t ∧
        t.pe = claim ∧ t.scu = e.scu ∧ t.sbi = e.sbi ∧ t.fsu = e.fsu ∧ t.tu = e.tu ∧ lift ∈ t.txq.frames) ∧
    (s.pe.checkPending = true → s.pe.leg = .stance → r.pass = true → PositionsDistinct s →
      ∃ t, exec (.supportCheckResult dt) s = .next t ∧
        t.scu = e.scu ∧ t.sbi = e.sbi ∧ t.fsu = e.fsu ∧ t.tu = e.tu ∧ t.setup = e.setup ∧ t.time = e.time ∧
        (∀ n, t.record n = s.record n ∨ t.record n = (aged e).record n) ∧
        (∀ i : Fin 9, (∀ j : Fin 9, j < i → LiftHolds (aged u) liftOrder[j]) → ¬ LiftHolds (aged u) liftOrder[i] →
          t.pe = { u.pe with wait := liftOrder[i], ownSway := none } ∧
          ∀ g ∈ t.txq.frames, g.isEvent = true ∨ g ∈ s.txq.frames) ∧
        ((∀ i : Fin 9, LiftHolds (aged u) liftOrder[i]) → s.txq.frames.length ≤ 6 →
          t.pe = claim ∧ lift ∈ t.txq.frames)) ∧
    (s.pe.checkPending = true → s.pe.leg = .stance → r.pass = true → PositionsDistinct s → (∀ n, ¬ ReadMarks e n) →
      (∀ i : Fin 9, (∀ j : Fin 9, j < i → LiftHolds u liftOrder[j]) → ¬ LiftHolds u liftOrder[i] →
        exec (.supportCheckResult dt) s = .next { u with pe := { u.pe with wait := liftOrder[i], ownSway := none } }) ∧
      ((∀ i : Fin 9, LiftHolds u liftOrder[i]) → s.txq.frames.length < 8 →
        exec (.supportCheckResult dt) s = .next { u with pe := claim, txq := (s.txq.place lift).1 }))

/-- The claim timer (R108): a locked notice sets the timeout-passed mark, an unlocked one is removed and the claim given up.
The unload timer (R92): the event "unload stuck", the cancel, and, where the queue has room, the WITHDRAW notice. The load
timer (R102, R80, R84): STANCE with the change point and the turn record, WEAK_FOOTHOLD latched, active and recorded (R150),
the load-pending mark, and no notice. The slip timer (R104): the class-A fault SLIP_PERSIST. -/
def Obligations.DeadlinesExpire : Prop :=
  (∀ (dt : Nat) (s : State) (k : Nat), k ≤ dt →
     let e := elapse s dt
     (s.pe.claimT = some k → s.pe.leg = .claim → liftLocked s = true → exec (.claimTimerExpiry dt) s = .next
       { e with pe := { e.pe with claimT := none, timeoutPassed := true } }) ∧
     (s.pe.claimT = some k → s.pe.leg = .claim → liftLocked s = false → exec (.claimTimerExpiry dt) s = .next
       { e with pe := claimLostPe e, txq := withoutLift s.txq }) ∧
     (s.pe.unloadT = some k → s.pe.leg = .unload → ∃ t, exec (.unloadTimerExpiry dt) s = .next t ∧
       SameElsewhere e t ∧ t.pe = cancelledPe e ∧ t.tu = { e.tu with lowering := true } ∧
       t.flt.flags = s.flt.flags ∧ t.flt.conds = s.flt.conds ∧ Reported s t [{ bit := 2, code := 0x42, detail := 0#8 }] ∧
       (s.txq.frames.length ≤ 6 →
         { claim := claimByte .phaseNotice s.sbi.station
           payload :=
             [BitVec.ofNat 8 (s.legPos.code * 64 + 8 + s.pe.applied.gait.code * 2 + s.fsu.slipping.toNat), 2#8,
              s.pe.steps, 0xFF#8]
           locked := false } ∈ t.txq.frames))) ∧
  (∀ (dt : Nat) (s : State) (k : Nat), k ≤ dt →
     let e := elapse s dt
     (s.pe.loadT = some k → s.pe.leg = .load → ∃ t, exec (.loadTimerExpiry dt) s = .next t ∧
       t.pe = { stancePe e with loadPending := true } ∧
       t.flt.flags[FaultCode.weakFoothold.idx] = true ∧ t.flt.conds[FaultCode.weakFoothold.idx] = true ∧
       ReportedAmongReads e t [] (latchNote s .weakFoothold) ∧
       (∀ g ∈ t.txq.frames, g.isEvent = true ∨ g ∈ s.txq.frames) ∧
       (∀ n, t.record n = s.record n ∨ t.record n = (aged e).record n) ∧
       (∀ n, e.stationOf .mission = some n → t.record n = (aged e).record n) ∧
       t.time = e.time ∧ t.sbi = e.sbi ∧ t.setup = e.setup ∧ t.fsu = e.fsu ∧ t.scu = e.scu ∧ t.tu = e.tu) ∧
     (s.pe.slipT = some k → ∃ t, exec (.slipTimerExpiry dt) s = .next t ∧
       FaultTaken { e with pe := { e.pe with slipT := none, slipReported := true } } t .slipPersist
         (latchNote s .slipPersist ++ holdNote s) ∧
       t.flt.conds = s.flt.conds.set FaultCode.slipPersist.idx true))

/-- The foothold timer (R98, R99, R133): in SWING the deadline-passed mark; in a SEARCH descent a re-place while attempts
remain, its path fixed at p toward the neutral point, and otherwise NO_FOOTHOLD, an occurrence; during a rise it stops. -/
def Obligations.FootholdTimerExpires : Prop :=
  ∀ (dt : Nat) (s : State) (k : Nat), s.pe.footholdT = some k → k ≤ dt →
    let e := elapse s dt
    let u : State := { e with pe := { e.pe with footholdT := none } }
    (s.pe.leg = .swing → exec (.footholdTimerExpiry dt) s = .next
      { u with pe := { u.pe with deadlinePassed := true } }) ∧
    (s.pe.leg = .search → s.pe.replacing = true → exec (.footholdTimerExpiry dt) s = .next u) ∧
    (s.pe.leg = .search → s.pe.replacing = false → s.pe.attempts < s.replaceMax →
      ∃ t r, exec (.footholdTimerExpiry dt) s = .next t ∧ SameElsewhere e t ∧
      t.pe = { u.pe with attempts := s.pe.attempts + 1, replacing := true, watchArmed := false } ∧
      t.tu = { e.tu with rise := r } ∧ RiseFrom s s.tu.p r ∧
      t.flt.flags = s.flt.flags ∧
      Logs s t [{ bit := 2, code := 0x43, detail := BitVec.ofNat 8 (s.pe.attempts + 1) }]) ∧
    (s.pe.leg = .search → s.pe.replacing = false → s.replaceMax ≤ s.pe.attempts →
      ∃ t, exec (.footholdTimerExpiry dt) s = .next t ∧
      FaultTaken u t .noFoothold (latchNote s .noFoothold ++ holdNote s) ∧
      t.flt.conds = s.flt.conds.set FaultCode.noFoothold.idx false)

/-- An epoch tick (R145, R146): the epoch goes up by one and its timer runs on; with no entry due nothing else happens; a
due Leg Report, and a due Foot Detail, is built at the tick and stands in a queue that can take it. The bytes of both are
those of R26: among them the foot coordinates in mm, rounded half away from zero (R139), and the sway request halved toward
zero, 0 unless the wait reason is MARGIN (R118). -/
def Obligations.EpochTicks : Prop :=
  (∀ (dt : Nat) (s : State) (k : Nat), s.time.epochTimer = some k → k ≤ dt →
    let e : State := { elapse s dt with
      time := { (elapse s dt).time with epoch := s.time.epoch + 1#16, epochTimer := some 1000 } }
    let isDue (period : Nat) : Prop :=
      s.reportOffset ≤ e.time.epoch.toNat ∧ (e.time.epoch.toNat - s.reportOffset) % period = 0
    ∃ t, exec (.epochTick dt) s = .next t ∧
      t = { e with txq := t.txq, flt := { s.flt with retry := t.flt.retry } } ∧
      (¬ isDue s.reportPeriod → (s.detailPeriod = 0 ∨ ¬ isDue s.detailPeriod) → t = e) ∧
      (isDue s.reportPeriod → s.txq.frames.length < 8 →
        (∀ g ∈ s.txq.frames, g.kind = some .legReport → g.locked = false) →
        { claim := claimByte .legReport s.sbi.station, payload := legReportPayload e, locked := false } ∈
          t.txq.frames) ∧
      (s.detailPeriod ≠ 0 → isDue s.detailPeriod → s.txq.frames.length ≤ 6 →
        (∀ g ∈ s.txq.frames, g.kind = some .footDetail → g.locked = false) →
        { claim := claimByte .footDetail s.sbi.station, payload := footDetailPayload e, locked := false } ∈
          t.txq.frames)) ∧
  (∀ s : State,
    let b := byteAt (legReportPayload s)
    (legReportPayload s).length = 13 ∧
    (b 0).toNat = s.legPos.code * 64 + s.pe.leg.code * 8 + s.pe.applied.gait.code * 2 + s.fsu.slipping.toNat ∧
    (b 1).toNat = s.fsu.contact.code * 64 + s.pe.wait.code * 4 + (classALatched s).toNat * 2 + (classBLatched s).toNat ∧
    (b 2).toNat = s.pe.phi.toNat / 256 ∧ b 3 = s.pe.steps ∧
    (s.tu.measured.x.natAbs ≤ 3276800 → RoundsTo 1000 (ofBytes (b 4) (b 5)) s.tu.measured.x) ∧
    (s.tu.measured.y.natAbs ≤ 3276800 → RoundsTo 1000 (ofBytes (b 6) (b 7)) s.tu.measured.y) ∧
    (s.tu.measured.z.natAbs ≤ 3276800 → RoundsTo 1000 (ofBytes (b 8) (b 9)) s.tu.measured.z) ∧
    (s.pe.wait ≠ .margin → b 10 = 0#8 ∧ b 11 = 0#8) ∧
    (s.pe.wait = .margin → ∀ r, s.pe.ownSway = some r →
      (b 10).toInt = max (-127) (min 127 (r.x.tdiv 2)) ∧ (b 11).toInt = max (-127) (min 127 (r.y.tdiv 2))) ∧
    (b 12).toNat = s.tu.stanceLimit.toNat * 128 + s.fsu.degraded.toNat * 64 + s.tu.driveLimit.toNat * 32) ∧
  (∀ s : State,
    let b := byteAt (footDetailPayload s)
    (footDetailPayload s).length = 8 ∧
    ofBytes (b 0) (b 1) = BitVec.ofInt 16 s.fsu.ax.out ∧ ofBytes (b 2) (b 3) = BitVec.ofInt 16 s.fsu.ay.out ∧
    ofBytes (b 4) (b 5) = BitVec.ofInt 16 s.fsu.az.out ∧ (b 6).toNat = s.fsu.contact.code ∧
    (b 7).toNat = s.fsu.slipping.toNat * 128 + s.fsu.degraded.toNat * 64 + s.fsu.ax.limit.toNat * 32 +
      s.fsu.ay.limit.toNat * 16 + s.fsu.az.limit.toNat * 8)

/-! ## The support check -/

/-- The tests of a support check and what they report (R114 to R118). Three feet that are not in line, taken
counter-clockwise: the margin is the least of the three edge margins, the check passes when it is at least MARGIN_M, and a
fail asks for the sway G − P, each component clamped to SWAY_MAX. Two feet, in DIAGONAL and as the other diagonal pair: the
margin is CORRIDOR_W less the lateral distance, and the check passes when it is at least 0 and P lies between the feet.
Three feet in line, two feet in one place, and any other set fail with SUPPORT_COUNT. So a check passes only on safe ground:
where the margin of a triangle is not negative it is no more than the distance of P to any edge, and a passing corridor
holds P. -/
def Obligations.SupportTestsSafe : Prop :=
  ∀ (sn : Snapshot) (m w sway : Nat),
    let r := checkResult sn m w sway
    let failed : CheckResult :=
      { pass := false, reason := .supportCount, n := sn.feet.length, margin := -2048, sway := none }
    (∀ a b c, sn.feet = [a, b, c] → area2 a.at2 b.at2 c.at2 ≠ 0 →
      (0 < area2 a.at2 b.at2 c.at2 → TriangleMarginIs a.at2 b.at2 c.at2 sn.com r.margin) ∧
      (area2 a.at2 b.at2 c.at2 < 0 → TriangleMarginIs a.at2 c.at2 b.at2 sn.com r.margin) ∧
      (r.pass = true ↔ (m : Int) ≤ r.margin) ∧
      (r.pass = false → r.reason = .margin ∧ r.sway = some (swayAsked a.at2 b.at2 c.at2 sn.com sway)) ∧
      (0 ≤ r.margin → 0 < area2 a.at2 b.at2 c.at2 →
        Inside a.at2 b.at2 sn.com r.margin.toNat ∧ Inside b.at2 c.at2 sn.com r.margin.toNat ∧
        Inside c.at2 a.at2 sn.com r.margin.toNat) ∧
      (0 ≤ r.margin → area2 a.at2 b.at2 c.at2 < 0 →
        Inside a.at2 c.at2 sn.com r.margin.toNat ∧ Inside c.at2 b.at2 sn.com r.margin.toNat ∧
        Inside b.at2 a.at2 sn.com r.margin.toNat)) ∧
    (∀ a b c, sn.feet = [a, b, c] → area2 a.at2 b.at2 c.at2 = 0 → r = failed) ∧
    (∀ a b, sn.feet = [a, b] → sn.gait = .diagonal → relation a.pos b.pos = .diagonal → a.pos ≠ sn.own → b.pos ≠ sn.own →
      (a.at2 = b.at2 → r = failed) ∧
      (a.at2 ≠ b.at2 →
        CorridorMarginIs a.at2 b.at2 sn.com w r.margin ∧ (r.pass = true ↔ 0 ≤ r.margin ∧ Between a.at2 b.at2 sn.com) ∧
        (r.pass = false → r.reason = .margin) ∧ r.sway = none)) ∧
    (∀ a b, sn.feet = [a, b] → r.pass = true →
      sn.gait = .diagonal ∧ relation a.pos b.pos = .diagonal ∧ a.pos ≠ sn.own ∧ b.pos ≠ sn.own ∧
      InCorridor a.at2 b.at2 sn.com w) ∧
    (∀ a b, sn.feet = [a, b] →
      (sn.gait ≠ .diagonal ∨ relation a.pos b.pos ≠ .diagonal ∨ a.pos = sn.own ∨ b.pos = sn.own) → r = failed) ∧
    (sn.feet.length ≠ 2 → sn.feet.length ≠ 3 → r = failed) ∧
    (r.pass = false → r.reason = .supportCount ∨ r.reason = .margin) ∧
    (r.pass = true → r.reason = .none ∧ r.sway = none) ∧
    r.n = sn.feet.length ∧ (-2048 ≤ r.margin ∧ r.margin ≤ 2047) ∧
    (∀ v, r.sway = some v → v.x.natAbs ≤ sway ∧ v.y.natAbs ≤ sway)

end Statements
end

