-- ==== Sys2Proof/Laws/Arith.lean ====
section
/-! SUPPORT. The integer roots of R116, R117 and R133, the saturating count, and the clamp. -/

namespace Sys2Proof.Laws
open Sys2Proof Sys2Proof.Machine

/-- The bits below `k` bring the root within one of the true one. -/
theorem sqrtBits_spec (n k r : Nat) (h : r * r ≤ n) (hu : n < (r + 2 ^ k) * (r + 2 ^ k)) :
    sqrtBits n k r * sqrtBits n k r ≤ n ∧ n < (sqrtBits n k r + 1) * (sqrtBits n k r + 1) := by
  induction k generalizing r with
  | zero => simpa [sqrtBits] using ⟨h, hu⟩
  | succ k ih =>
    rw [sqrtBits]
    unfold sqrtStep
    split
    · rename_i hs
      exact ih _ hs (by rw [show r + 2 ^ k + 2 ^ k = r + 2 ^ (k + 1) by ring]; exact hu)
    · rename_i hs
      exact ih _ h (by omega)

/-- The floor of the square root: its square is at most `n`, and that of the next integer is not (R117). -/
theorem floorSqrt_spec (n : Nat) : floorSqrt n * floorSqrt n ≤ n ∧ n < (floorSqrt n + 1) * (floorSqrt n + 1) := by
  apply sqrtBits_spec
  · simp
  · have h1 : n < 2 ^ (n.log2 + 1) := Nat.lt_log2_self
    have h2 : n.log2 + 1 ≤ (n.log2 / 2 + 1) + (n.log2 / 2 + 1) := by omega
    calc n < 2 ^ (n.log2 + 1) := h1
      _ ≤ 2 ^ ((n.log2 / 2 + 1) + (n.log2 / 2 + 1)) := Nat.pow_le_pow_right (by omega) h2
      _ = _ := by rw [pow_add]; simp

/-- The ceiling of the square root: its square is at least `n`, and no smaller integer's is (R116, R133). -/
theorem ceilSqrt_spec (n : Nat) : n ≤ ceilSqrt n * ceilSqrt n ∧ ∀ m, n ≤ m * m → ceilSqrt n ≤ m := by
  obtain ⟨h1, h2⟩ := floorSqrt_spec n
  unfold ceilSqrt
  dsimp only
  split
  · rename_i h
    exact ⟨by omega, fun m hm => by by_contra hc; have : m * m < floorSqrt n * floorSqrt n := by nlinarith
                                    omega⟩
  · rename_i h
    refine ⟨by omega, fun m hm => ?_⟩
    by_contra hc
    have : m ≤ floorSqrt n := by omega
    have : m * m ≤ floorSqrt n * floorSqrt n := Nat.mul_le_mul this this
    omega

/-- A saturating count goes up by one, and stays at 255 (R25). -/
theorem satInc_toNat (c : Byte) : (satInc c).toNat = min (c.toNat + 1) 255 := by
  unfold satInc
  split
  · rename_i h; subst h; rfl
  · rename_i h
    have : c.toNat ≠ 255 := fun hc => h (by bv_omega)
    have := c.isLt
    rw [BitVec.toNat_add]; simp; omega

/-- A clamped value lies within its bounds, and a value within them is not changed. -/
theorem clampInt_spec (lo hi v : Int) (h : lo ≤ hi) :
    lo ≤ clampInt lo hi v ∧ clampInt lo hi v ≤ hi ∧ (lo ≤ v → v ≤ hi → clampInt lo hi v = v) := by
  unfold clampInt; split
  · omega
  · split <;> omega

end Sys2Proof.Laws
end

