-- ==== Sys2Proof/Laws/State.lean ====
section
/-! SUPPORT. The fields of the state after each update: lemmas true by `rfl` (or by the cases of the passing of time). -/

namespace Sys2Proof.Laws
open Sys2Proof Sys2Proof.Machine

/-! ## Time -/

@[simp] theorem elapse_frame (s : State) (dt : Nat) :
    (elapse s dt).setup = s.setup ∧ (elapse s dt).pt = s.pt ∧ (elapse s dt).scu = s.scu ∧ (elapse s dt).txq = s.txq
    ∧ (elapse s dt).flt = s.flt ∧ (elapse s dt).pending = s.pending :=
  ⟨rfl, rfl, rfl, rfl, rfl, rfl⟩

@[simp] theorem elapse_apply (s : State) (dt : Nat) :
    (elapse s dt).time.us = s.time.us + BitVec.ofNat 32 dt ∧ (elapse s dt).time.epoch = s.time.epoch ∧ (elapse s
    dt).time.epochTimer = s.time.epochTimer.after dt ∧ (elapse s dt).fsu =
    { s.fsu with watch := s.fsu.watch.after dt } ∧ (elapse s dt).pe = s.pe.after dt ∧ (elapse s dt).tu =
    { s.tu with sending := s.tu.sending.after dt, window := s.tu.window.after dt } ∧ (elapse s dt).sbi =
    s.sbi.after dt :=
  ⟨rfl, rfl, rfl, rfl, rfl, rfl, rfl⟩

@[simp] theorem after_apply (p : PhaseEngine) (dt : Nat) :
    (p.after dt).leg = p.leg ∧ (p.after dt).phi = p.phi ∧ (p.after dt).steps = p.steps ∧
    (p.after dt).applied = p.applied ∧ (p.after dt).turn = p.turn ∧ (p.after dt).lead = p.lead ∧
    (p.after dt).wait = p.wait ∧ (p.after dt).checkPending = p.checkPending ∧
    (p.after dt).timeoutPassed = p.timeoutPassed ∧ (p.after dt).origin = p.origin ∧
    (p.after dt).loadPending = p.loadPending ∧ (p.after dt).ownSway = p.ownSway ∧
    (p.after dt).replacing = p.replacing ∧ (p.after dt).attempts = p.attempts ∧
    (p.after dt).slipReported = p.slipReported :=
  ⟨rfl, rfl, rfl, rfl, rfl, rfl, rfl, rfl, rfl, rfl, rfl, rfl, rfl, rfl, rfl⟩

@[simp] theorem sbi_after_apply (b : Sbi) (dt : Nat) :
    (b.after dt).station = b.station ∧ (b.after dt).rateCode = b.rateCode ∧ (b.after dt).rx = b.rx ∧
    (b.after dt).recessive = b.recessive ∧ (b.after dt).rxAborted = b.rxAborted ∧ (b.after dt).dominant = b.dominant ∧
    (b.after dt).attempt = b.attempt ∧ (b.after dt).txLine = b.txLine ∧ (b.after dt).clashWatch = b.clashWatch ∧
    (b.after dt).counters = b.counters := by
  unfold Sbi.after; dsimp only; split <;> simp

@[simp] theorem sbi_after_finishing (b : Sbi) (dt : Nat) : (b.after dt).finishing = b.finishing - dt := by
  unfold Sbi.after; dsimp only; split <;> rfl

/-- While no frame is on the line time moves only what is left of an aborted bit (R21). -/
theorem sbi_after_quiet (b : Sbi) (dt : Nat) (h : b.tx ≠ .arbitrating) (h' : b.tx ≠ .sending) :
    b.after dt = { b with finishing := b.finishing - dt } := by
  unfold Sbi.after; dsimp only; split <;> simp_all

/-- Time does not change whether the node is transmitting. -/
@[simp] theorem transmitting_elapse (s : State) (dt : Nat) : transmitting (elapse s dt) = transmitting s := by
  unfold transmitting elapse Sbi.after; dsimp only; split <;> simp_all; omega

/-- While the node does not transmit, time moves of the Stride Bus Interface only what is left of an aborted bit (R21). -/
theorem elapse_sbi_quiet (s : State) (dt : Nat) (h : transmitting s = false) :
    (elapse s dt).sbi = { s.sbi with finishing := s.sbi.finishing - dt } := by
  simp [transmitting] at h
  exact sbi_after_quiet _ _ h.1 h.2

/-! ## Stride Bus Interface -/

@[simp] theorem countGood_frame (s : State) :
    (countGood s).time = s.time ∧ (countGood s).setup = s.setup ∧ (countGood s).pt = s.pt ∧ (countGood s).fsu =
    s.fsu ∧ (countGood s).pe = s.pe ∧ (countGood s).scu = s.scu ∧ (countGood s).tu = s.tu ∧ (countGood s).txq =
    s.txq ∧ (countGood s).flt = s.flt ∧ (countGood s).pending = s.pending :=
  ⟨rfl, rfl, rfl, rfl, rfl, rfl, rfl, rfl, rfl, rfl⟩

@[simp] theorem countGood_apply (s : State) :
    (countGood s).sbi.station = s.sbi.station ∧ (countGood s).sbi.rateCode = s.sbi.rateCode ∧ (countGood s).sbi.rx =
    s.sbi.rx ∧ (countGood s).sbi.recessive = s.sbi.recessive ∧ (countGood s).sbi.rxAborted = s.sbi.rxAborted ∧
    (countGood s).sbi.dominant = s.sbi.dominant ∧ (countGood s).sbi.tx = s.sbi.tx ∧ (countGood s).sbi.txElapsed =
    s.sbi.txElapsed ∧ (countGood s).sbi.attempt = s.sbi.attempt ∧ (countGood s).sbi.txLine = s.sbi.txLine ∧
    (countGood s).sbi.finishing = s.sbi.finishing ∧ (countGood s).sbi.clashWatch = s.sbi.clashWatch ∧ (countGood
    s).sbi.counters = { s.sbi.counters with rxGood := satInc s.sbi.counters.rxGood } :=
  ⟨rfl, rfl, rfl, rfl, rfl, rfl, rfl, rfl, rfl, rfl, rfl, rfl, rfl⟩

@[simp] theorem countFraming_frame (s : State) :
    (countFraming s).time = s.time ∧ (countFraming s).setup = s.setup ∧ (countFraming s).pt = s.pt ∧ (countFraming
    s).fsu = s.fsu ∧ (countFraming s).pe = s.pe ∧ (countFraming s).scu = s.scu ∧ (countFraming s).tu = s.tu ∧
    (countFraming s).txq = s.txq ∧ (countFraming s).flt = s.flt ∧ (countFraming s).pending = s.pending :=
  ⟨rfl, rfl, rfl, rfl, rfl, rfl, rfl, rfl, rfl, rfl⟩

@[simp] theorem countFraming_apply (s : State) :
    (countFraming s).sbi.station = s.sbi.station ∧ (countFraming s).sbi.rateCode = s.sbi.rateCode ∧ (countFraming
    s).sbi.rx = s.sbi.rx ∧ (countFraming s).sbi.recessive = s.sbi.recessive ∧ (countFraming s).sbi.rxAborted =
    s.sbi.rxAborted ∧ (countFraming s).sbi.dominant = s.sbi.dominant ∧ (countFraming s).sbi.tx = s.sbi.tx ∧
    (countFraming s).sbi.txElapsed = s.sbi.txElapsed ∧ (countFraming s).sbi.attempt = s.sbi.attempt ∧ (countFraming
    s).sbi.txLine = s.sbi.txLine ∧ (countFraming s).sbi.finishing = s.sbi.finishing ∧ (countFraming
    s).sbi.clashWatch = s.sbi.clashWatch ∧ (countFraming s).sbi.counters =
    { s.sbi.counters with framing := satInc s.sbi.counters.framing } :=
  ⟨rfl, rfl, rfl, rfl, rfl, rfl, rfl, rfl, rfl, rfl, rfl, rfl, rfl⟩

@[simp] theorem countCheck_frame (s : State) :
    (countCheck s).time = s.time ∧ (countCheck s).setup = s.setup ∧ (countCheck s).pt = s.pt ∧ (countCheck s).fsu =
    s.fsu ∧ (countCheck s).pe = s.pe ∧ (countCheck s).scu = s.scu ∧ (countCheck s).tu = s.tu ∧ (countCheck
    s).txq = s.txq ∧ (countCheck s).flt = s.flt ∧ (countCheck s).pending = s.pending :=
  ⟨rfl, rfl, rfl, rfl, rfl, rfl, rfl, rfl, rfl, rfl⟩

@[simp] theorem countCheck_apply (s : State) :
    (countCheck s).sbi.station = s.sbi.station ∧ (countCheck s).sbi.rateCode = s.sbi.rateCode ∧ (countCheck
    s).sbi.rx = s.sbi.rx ∧ (countCheck s).sbi.recessive = s.sbi.recessive ∧ (countCheck s).sbi.rxAborted =
    s.sbi.rxAborted ∧ (countCheck s).sbi.dominant = s.sbi.dominant ∧ (countCheck s).sbi.tx = s.sbi.tx ∧ (countCheck
    s).sbi.txElapsed = s.sbi.txElapsed ∧ (countCheck s).sbi.attempt = s.sbi.attempt ∧ (countCheck s).sbi.txLine =
    s.sbi.txLine ∧ (countCheck s).sbi.finishing = s.sbi.finishing ∧ (countCheck s).sbi.clashWatch = s.sbi.clashWatch
    ∧ (countCheck s).sbi.counters = { s.sbi.counters with check := satInc s.sbi.counters.check } :=
  ⟨rfl, rfl, rfl, rfl, rfl, rfl, rfl, rfl, rfl, rfl, rfl, rfl, rfl⟩

@[simp] theorem countTruncated_frame (s : State) :
    (countTruncated s).time = s.time ∧ (countTruncated s).setup = s.setup ∧ (countTruncated s).pt = s.pt ∧
    (countTruncated s).fsu = s.fsu ∧ (countTruncated s).pe = s.pe ∧ (countTruncated s).scu = s.scu ∧
    (countTruncated s).tu = s.tu ∧ (countTruncated s).txq = s.txq ∧ (countTruncated s).flt = s.flt ∧
    (countTruncated s).pending = s.pending :=
  ⟨rfl, rfl, rfl, rfl, rfl, rfl, rfl, rfl, rfl, rfl⟩

@[simp] theorem countTruncated_apply (s : State) :
    (countTruncated s).sbi.station = s.sbi.station ∧ (countTruncated s).sbi.rateCode = s.sbi.rateCode ∧
    (countTruncated s).sbi.rx = s.sbi.rx ∧ (countTruncated s).sbi.recessive = s.sbi.recessive ∧ (countTruncated
    s).sbi.rxAborted = s.sbi.rxAborted ∧ (countTruncated s).sbi.dominant = s.sbi.dominant ∧ (countTruncated
    s).sbi.tx = s.sbi.tx ∧ (countTruncated s).sbi.txElapsed = s.sbi.txElapsed ∧ (countTruncated s).sbi.attempt =
    s.sbi.attempt ∧ (countTruncated s).sbi.txLine = s.sbi.txLine ∧ (countTruncated s).sbi.finishing =
    s.sbi.finishing ∧ (countTruncated s).sbi.clashWatch = s.sbi.clashWatch ∧ (countTruncated s).sbi.counters = {
    s.sbi.counters with truncated := satInc s.sbi.counters.truncated } :=
  ⟨rfl, rfl, rfl, rfl, rfl, rfl, rfl, rfl, rfl, rfl, rfl, rfl, rfl⟩

@[simp] theorem countParity_frame (s : State) :
    (countParity s).time = s.time ∧ (countParity s).setup = s.setup ∧ (countParity s).pt = s.pt ∧ (countParity
    s).fsu = s.fsu ∧ (countParity s).pe = s.pe ∧ (countParity s).scu = s.scu ∧ (countParity s).tu = s.tu ∧
    (countParity s).txq = s.txq ∧ (countParity s).flt = s.flt ∧ (countParity s).pending = s.pending :=
  ⟨rfl, rfl, rfl, rfl, rfl, rfl, rfl, rfl, rfl, rfl⟩

@[simp] theorem countParity_apply (s : State) :
    (countParity s).sbi.station = s.sbi.station ∧ (countParity s).sbi.rateCode = s.sbi.rateCode ∧ (countParity
    s).sbi.rx = s.sbi.rx ∧ (countParity s).sbi.recessive = s.sbi.recessive ∧ (countParity s).sbi.rxAborted =
    s.sbi.rxAborted ∧ (countParity s).sbi.dominant = s.sbi.dominant ∧ (countParity s).sbi.tx = s.sbi.tx ∧
    (countParity s).sbi.txElapsed = s.sbi.txElapsed ∧ (countParity s).sbi.attempt = s.sbi.attempt ∧ (countParity
    s).sbi.txLine = s.sbi.txLine ∧ (countParity s).sbi.finishing = s.sbi.finishing ∧ (countParity s).sbi.clashWatch
    = s.sbi.clashWatch ∧ (countParity s).sbi.counters = { s.sbi.counters with parity := satInc s.sbi.counters.parity
    } :=
  ⟨rfl, rfl, rfl, rfl, rfl, rfl, rfl, rfl, rfl, rfl, rfl, rfl, rfl⟩

@[simp] theorem countUnknown_frame (s : State) :
    (countUnknown s).time = s.time ∧ (countUnknown s).setup = s.setup ∧ (countUnknown s).pt = s.pt ∧ (countUnknown
    s).fsu = s.fsu ∧ (countUnknown s).pe = s.pe ∧ (countUnknown s).scu = s.scu ∧ (countUnknown s).tu = s.tu ∧
    (countUnknown s).txq = s.txq ∧ (countUnknown s).flt = s.flt ∧ (countUnknown s).pending = s.pending :=
  ⟨rfl, rfl, rfl, rfl, rfl, rfl, rfl, rfl, rfl, rfl⟩

@[simp] theorem countUnknown_apply (s : State) :
    (countUnknown s).sbi.station = s.sbi.station ∧ (countUnknown s).sbi.rateCode = s.sbi.rateCode ∧ (countUnknown
    s).sbi.rx = s.sbi.rx ∧ (countUnknown s).sbi.recessive = s.sbi.recessive ∧ (countUnknown s).sbi.rxAborted =
    s.sbi.rxAborted ∧ (countUnknown s).sbi.dominant = s.sbi.dominant ∧ (countUnknown s).sbi.tx = s.sbi.tx ∧
    (countUnknown s).sbi.txElapsed = s.sbi.txElapsed ∧ (countUnknown s).sbi.attempt = s.sbi.attempt ∧ (countUnknown
    s).sbi.txLine = s.sbi.txLine ∧ (countUnknown s).sbi.finishing = s.sbi.finishing ∧ (countUnknown
    s).sbi.clashWatch = s.sbi.clashWatch ∧ (countUnknown s).sbi.counters =
    { s.sbi.counters with unknown := satInc s.sbi.counters.unknown } :=
  ⟨rfl, rfl, rfl, rfl, rfl, rfl, rfl, rfl, rfl, rfl, rfl, rfl, rfl⟩

@[simp] theorem countStranger_frame (s : State) :
    (countStranger s).time = s.time ∧ (countStranger s).setup = s.setup ∧ (countStranger s).pt = s.pt ∧
    (countStranger s).fsu = s.fsu ∧ (countStranger s).pe = s.pe ∧ (countStranger s).scu = s.scu ∧ (countStranger
    s).tu = s.tu ∧ (countStranger s).txq = s.txq ∧ (countStranger s).flt = s.flt ∧ (countStranger s).pending =
    s.pending :=
  ⟨rfl, rfl, rfl, rfl, rfl, rfl, rfl, rfl, rfl, rfl⟩

@[simp] theorem countStranger_apply (s : State) :
    (countStranger s).sbi.station = s.sbi.station ∧ (countStranger s).sbi.rateCode = s.sbi.rateCode ∧ (countStranger
    s).sbi.rx = s.sbi.rx ∧ (countStranger s).sbi.recessive = s.sbi.recessive ∧ (countStranger s).sbi.rxAborted =
    s.sbi.rxAborted ∧ (countStranger s).sbi.dominant = s.sbi.dominant ∧ (countStranger s).sbi.tx = s.sbi.tx ∧
    (countStranger s).sbi.txElapsed = s.sbi.txElapsed ∧ (countStranger s).sbi.attempt = s.sbi.attempt ∧
    (countStranger s).sbi.txLine = s.sbi.txLine ∧ (countStranger s).sbi.finishing = s.sbi.finishing ∧ (countStranger
    s).sbi.clashWatch = s.sbi.clashWatch ∧ (countStranger s).sbi.counters =
    { s.sbi.counters with stranger := satInc s.sbi.counters.stranger } :=
  ⟨rfl, rfl, rfl, rfl, rfl, rfl, rfl, rfl, rfl, rfl, rfl, rfl, rfl⟩

@[simp] theorem countArbLost_frame (s : State) :
    (countArbLost s).time = s.time ∧ (countArbLost s).setup = s.setup ∧ (countArbLost s).pt = s.pt ∧ (countArbLost
    s).fsu = s.fsu ∧ (countArbLost s).pe = s.pe ∧ (countArbLost s).scu = s.scu ∧ (countArbLost s).tu = s.tu ∧
    (countArbLost s).txq = s.txq ∧ (countArbLost s).flt = s.flt ∧ (countArbLost s).pending = s.pending :=
  ⟨rfl, rfl, rfl, rfl, rfl, rfl, rfl, rfl, rfl, rfl⟩

@[simp] theorem countArbLost_apply (s : State) :
    (countArbLost s).sbi.station = s.sbi.station ∧ (countArbLost s).sbi.rateCode = s.sbi.rateCode ∧ (countArbLost
    s).sbi.rx = s.sbi.rx ∧ (countArbLost s).sbi.recessive = s.sbi.recessive ∧ (countArbLost s).sbi.rxAborted =
    s.sbi.rxAborted ∧ (countArbLost s).sbi.dominant = s.sbi.dominant ∧ (countArbLost s).sbi.tx = s.sbi.tx ∧
    (countArbLost s).sbi.txElapsed = s.sbi.txElapsed ∧ (countArbLost s).sbi.attempt = s.sbi.attempt ∧ (countArbLost
    s).sbi.txLine = s.sbi.txLine ∧ (countArbLost s).sbi.finishing = s.sbi.finishing ∧ (countArbLost
    s).sbi.clashWatch = s.sbi.clashWatch ∧ (countArbLost s).sbi.counters =
    { s.sbi.counters with arbLost := satInc s.sbi.counters.arbLost } :=
  ⟨rfl, rfl, rfl, rfl, rfl, rfl, rfl, rfl, rfl, rfl, rfl, rfl, rfl⟩

@[simp] theorem countTxError_frame (s : State) :
    (countTxError s).time = s.time ∧ (countTxError s).setup = s.setup ∧ (countTxError s).pt = s.pt ∧ (countTxError
    s).fsu = s.fsu ∧ (countTxError s).pe = s.pe ∧ (countTxError s).scu = s.scu ∧ (countTxError s).tu = s.tu ∧
    (countTxError s).txq = s.txq ∧ (countTxError s).flt = s.flt ∧ (countTxError s).pending = s.pending :=
  ⟨rfl, rfl, rfl, rfl, rfl, rfl, rfl, rfl, rfl, rfl⟩

@[simp] theorem countTxError_apply (s : State) :
    (countTxError s).sbi.station = s.sbi.station ∧ (countTxError s).sbi.rateCode = s.sbi.rateCode ∧ (countTxError
    s).sbi.rx = s.sbi.rx ∧ (countTxError s).sbi.recessive = s.sbi.recessive ∧ (countTxError s).sbi.rxAborted =
    s.sbi.rxAborted ∧ (countTxError s).sbi.dominant = s.sbi.dominant ∧ (countTxError s).sbi.tx = s.sbi.tx ∧
    (countTxError s).sbi.txElapsed = s.sbi.txElapsed ∧ (countTxError s).sbi.attempt = s.sbi.attempt ∧ (countTxError
    s).sbi.txLine = s.sbi.txLine ∧ (countTxError s).sbi.finishing = s.sbi.finishing ∧ (countTxError
    s).sbi.clashWatch = s.sbi.clashWatch ∧ (countTxError s).sbi.counters =
    { s.sbi.counters with txError := satInc s.sbi.counters.txError } :=
  ⟨rfl, rfl, rfl, rfl, rfl, rfl, rfl, rfl, rfl, rfl, rfl, rfl, rfl⟩

@[simp] theorem countSent_frame (s : State) :
    (countSent s).time = s.time ∧ (countSent s).setup = s.setup ∧ (countSent s).pt = s.pt ∧ (countSent s).fsu =
    s.fsu ∧ (countSent s).pe = s.pe ∧ (countSent s).scu = s.scu ∧ (countSent s).tu = s.tu ∧ (countSent s).txq =
    s.txq ∧ (countSent s).flt = s.flt ∧ (countSent s).pending = s.pending :=
  ⟨rfl, rfl, rfl, rfl, rfl, rfl, rfl, rfl, rfl, rfl⟩

@[simp] theorem countSent_apply (s : State) :
    (countSent s).sbi.station = s.sbi.station ∧ (countSent s).sbi.rateCode = s.sbi.rateCode ∧ (countSent s).sbi.rx =
    s.sbi.rx ∧ (countSent s).sbi.recessive = s.sbi.recessive ∧ (countSent s).sbi.rxAborted = s.sbi.rxAborted ∧
    (countSent s).sbi.dominant = s.sbi.dominant ∧ (countSent s).sbi.tx = s.sbi.tx ∧ (countSent s).sbi.txElapsed =
    s.sbi.txElapsed ∧ (countSent s).sbi.attempt = s.sbi.attempt ∧ (countSent s).sbi.txLine = s.sbi.txLine ∧
    (countSent s).sbi.finishing = s.sbi.finishing ∧ (countSent s).sbi.clashWatch = s.sbi.clashWatch ∧ (countSent
    s).sbi.counters = { s.sbi.counters with sent := satInc s.sbi.counters.sent } :=
  ⟨rfl, rfl, rfl, rfl, rfl, rfl, rfl, rfl, rfl, rfl, rfl, rfl, rfl⟩

@[simp] theorem endReception_frame (s : State) (n : Nat) :
    (endReception s n).time = s.time ∧ (endReception s n).setup = s.setup ∧ (endReception s n).pt = s.pt ∧
    (endReception s n).fsu = s.fsu ∧ (endReception s n).pe = s.pe ∧ (endReception s n).scu = s.scu ∧
    (endReception s n).tu = s.tu ∧ (endReception s n).txq = s.txq ∧ (endReception s n).flt = s.flt ∧
    (endReception s n).pending = s.pending :=
  ⟨rfl, rfl, rfl, rfl, rfl, rfl, rfl, rfl, rfl, rfl⟩

@[simp] theorem endReception_apply (s : State) (n : Nat) :
    (endReception s n).sbi.station = s.sbi.station ∧ (endReception s n).sbi.rateCode = s.sbi.rateCode ∧
    (endReception s n).sbi.rx = .waitIdle ∧ (endReception s n).sbi.recessive = n ∧ (endReception s n).sbi.rxAborted
    = false ∧ (endReception s n).sbi.dominant = 0 ∧ (endReception s n).sbi.tx = s.sbi.tx ∧ (endReception s
    n).sbi.txElapsed = s.sbi.txElapsed ∧ (endReception s n).sbi.attempt = s.sbi.attempt ∧ (endReception s
    n).sbi.txLine = s.sbi.txLine ∧ (endReception s n).sbi.finishing = s.sbi.finishing ∧ (endReception s
    n).sbi.clashWatch = s.sbi.clashWatch ∧ (endReception s n).sbi.counters = s.sbi.counters :=
  ⟨rfl, rfl, rfl, rfl, rfl, rfl, rfl, rfl, rfl, rfl, rfl, rfl, rfl⟩

@[simp] theorem notHeard_frame (s : State) (n : Nat) :
    (notHeard s n).time = s.time ∧ (notHeard s n).setup = s.setup ∧ (notHeard s n).pt = s.pt ∧ (notHeard s n).fsu =
    s.fsu ∧ (notHeard s n).pe = s.pe ∧ (notHeard s n).scu = s.scu ∧ (notHeard s n).tu = s.tu ∧ (notHeard s
    n).txq = s.txq ∧ (notHeard s n).flt = s.flt ∧ (notHeard s n).pending = s.pending :=
  ⟨rfl, rfl, rfl, rfl, rfl, rfl, rfl, rfl, rfl, rfl⟩

@[simp] theorem notHeard_apply (s : State) (n : Nat) :
    (notHeard s n).sbi.station = s.sbi.station ∧ (notHeard s n).sbi.rateCode = s.sbi.rateCode ∧ (notHeard s
    n).sbi.rx = s.sbi.rx ∧ (notHeard s n).sbi.recessive = n ∧ (notHeard s n).sbi.rxAborted = s.sbi.rxAborted ∧
    (notHeard s n).sbi.dominant = 0 ∧ (notHeard s n).sbi.tx = s.sbi.tx ∧ (notHeard s n).sbi.txElapsed =
    s.sbi.txElapsed ∧ (notHeard s n).sbi.attempt = s.sbi.attempt ∧ (notHeard s n).sbi.txLine = s.sbi.txLine ∧
    (notHeard s n).sbi.finishing = s.sbi.finishing ∧ (notHeard s n).sbi.clashWatch = s.sbi.clashWatch ∧ (notHeard s
    n).sbi.counters = s.sbi.counters :=
  ⟨rfl, rfl, rfl, rfl, rfl, rfl, rfl, rfl, rfl, rfl, rfl, rfl, rfl⟩

@[simp] theorem lineFree_frame (s : State) :
    (lineFree s).time = s.time ∧ (lineFree s).setup = s.setup ∧ (lineFree s).pt = s.pt ∧ (lineFree s).fsu = s.fsu ∧
    (lineFree s).pe = s.pe ∧ (lineFree s).scu = s.scu ∧ (lineFree s).tu = s.tu ∧ (lineFree s).txq = s.txq ∧
    (lineFree s).flt = s.flt ∧ (lineFree s).pending = s.pending :=
  ⟨rfl, rfl, rfl, rfl, rfl, rfl, rfl, rfl, rfl, rfl⟩

@[simp] theorem lineFree_apply (s : State) :
    (lineFree s).sbi.station = s.sbi.station ∧ (lineFree s).sbi.rateCode = s.sbi.rateCode ∧
    (lineFree s).sbi.rx = .idle ∧ (lineFree s).sbi.recessive = 11 ∧ (lineFree s).sbi.rxAborted = false ∧
    (lineFree s).sbi.dominant = 0 ∧ (lineFree s).sbi.tx = s.sbi.tx ∧ (lineFree s).sbi.txElapsed = s.sbi.txElapsed ∧
    (lineFree s).sbi.attempt = s.sbi.attempt ∧ (lineFree s).sbi.txLine = s.sbi.txLine ∧
    (lineFree s).sbi.finishing = s.sbi.finishing ∧ (lineFree s).sbi.clashWatch = s.sbi.clashWatch ∧
    (lineFree s).sbi.counters = s.sbi.counters :=
  ⟨rfl, rfl, rfl, rfl, rfl, rfl, rfl, rfl, rfl, rfl, rfl, rfl, rfl⟩

@[simp] theorem listen_frame (s : State) :
    (listen s).time = s.time ∧ (listen s).setup = s.setup ∧ (listen s).pt = s.pt ∧ (listen s).fsu = s.fsu ∧ (listen
    s).pe = s.pe ∧ (listen s).scu = s.scu ∧ (listen s).tu = s.tu ∧ (listen s).txq = s.txq ∧ (listen s).flt =
    s.flt ∧ (listen s).pending = s.pending :=
  ⟨rfl, rfl, rfl, rfl, rfl, rfl, rfl, rfl, rfl, rfl⟩

@[simp] theorem listen_apply (s : State) :
    (listen s).sbi.station = s.sbi.station ∧ (listen s).sbi.rateCode = s.sbi.rateCode ∧ (listen s).sbi.rx = .inFrame
    ∧ (listen s).sbi.recessive = 0 ∧ (listen s).sbi.rxAborted = false ∧ (listen s).sbi.dominant = 0 ∧ (listen
    s).sbi.tx = s.sbi.tx ∧ (listen s).sbi.txElapsed = s.sbi.txElapsed ∧ (listen s).sbi.attempt = s.sbi.attempt ∧
    (listen s).sbi.txLine = s.sbi.txLine ∧ (listen s).sbi.finishing = s.sbi.finishing ∧ (listen s).sbi.clashWatch =
    s.sbi.clashWatch ∧ (listen s).sbi.counters = s.sbi.counters :=
  ⟨rfl, rfl, rfl, rfl, rfl, rfl, rfl, rfl, rfl, rfl, rfl, rfl, rfl⟩

@[simp] theorem endAttempt_frame (s : State) :
    (endAttempt s).time = s.time ∧ (endAttempt s).setup = s.setup ∧ (endAttempt s).pt = s.pt ∧ (endAttempt s).fsu =
    s.fsu ∧ (endAttempt s).pe = s.pe ∧ (endAttempt s).scu = s.scu ∧ (endAttempt s).tu = s.tu ∧ (endAttempt
    s).txq = s.txq ∧ (endAttempt s).flt = s.flt ∧ (endAttempt s).pending = s.pending :=
  ⟨rfl, rfl, rfl, rfl, rfl, rfl, rfl, rfl, rfl, rfl⟩

@[simp] theorem endAttempt_apply (s : State) :
    (endAttempt s).sbi.station = s.sbi.station ∧ (endAttempt s).sbi.rateCode = s.sbi.rateCode ∧ (endAttempt
    s).sbi.rx = s.sbi.rx ∧ (endAttempt s).sbi.recessive = s.sbi.recessive ∧ (endAttempt s).sbi.rxAborted =
    s.sbi.rxAborted ∧ (endAttempt s).sbi.dominant = s.sbi.dominant ∧ (endAttempt s).sbi.tx = .idle ∧ (endAttempt
    s).sbi.txElapsed = s.sbi.txElapsed ∧ (endAttempt s).sbi.attempt = none ∧ (endAttempt s).sbi.txLine =
    s.sbi.txLine ∧ (endAttempt s).sbi.finishing = s.sbi.finishing ∧ (endAttempt s).sbi.clashWatch = s.sbi.clashWatch
    ∧ (endAttempt s).sbi.counters = s.sbi.counters :=
  ⟨rfl, rfl, rfl, rfl, rfl, rfl, rfl, rfl, rfl, rfl, rfl, rfl, rfl⟩

@[simp] theorem beginFrame_frame (s : State) (f : TxFrame) :
    (beginFrame s f).time = s.time ∧ (beginFrame s f).setup = s.setup ∧ (beginFrame s f).pt = s.pt ∧ (beginFrame s
    f).fsu = s.fsu ∧ (beginFrame s f).pe = s.pe ∧ (beginFrame s f).scu = s.scu ∧ (beginFrame s f).tu = s.tu ∧
    (beginFrame s f).flt = s.flt ∧ (beginFrame s f).pending = s.pending :=
  ⟨rfl, rfl, rfl, rfl, rfl, rfl, rfl, rfl, rfl⟩

@[simp] theorem beginFrame_apply (s : State) (f : TxFrame) :
    (beginFrame s f).sbi.station = s.sbi.station ∧ (beginFrame s f).sbi.rateCode = s.sbi.rateCode ∧ (beginFrame s
    f).sbi.rx = .inFrame ∧ (beginFrame s f).sbi.recessive = 0 ∧ (beginFrame s f).sbi.rxAborted = false ∧ (beginFrame
    s f).sbi.dominant = 0 ∧ (beginFrame s f).sbi.tx = .arbitrating ∧ (beginFrame s f).sbi.txElapsed = 0 ∧
    (beginFrame s f).sbi.attempt = some { f with locked := true } ∧ (beginFrame s f).sbi.txLine = f.line ∧
    (beginFrame s f).sbi.finishing = 0 ∧ (beginFrame s f).sbi.clashWatch = s.sbi.clashWatch ∧ (beginFrame s
    f).sbi.counters = s.sbi.counters :=
  ⟨rfl, rfl, rfl, rfl, rfl, rfl, rfl, rfl, rfl, rfl, rfl, rfl, rfl⟩

@[simp] theorem beginFrame_txq (s : State) (f : TxFrame) :
    (beginFrame s f).txq = { s.txq with frames := lockHead s.txq.frames } :=
  rfl

@[simp] theorem withFrames_frame (s : State) (l : List TxFrame) :
    (withFrames s l).time = s.time ∧ (withFrames s l).sbi = s.sbi ∧ (withFrames s l).setup = s.setup ∧ (withFrames s
    l).pt = s.pt ∧ (withFrames s l).fsu = s.fsu ∧ (withFrames s l).pe = s.pe ∧ (withFrames s l).scu = s.scu ∧
    (withFrames s l).tu = s.tu ∧ (withFrames s l).flt = s.flt ∧ (withFrames s l).pending = s.pending :=
  ⟨rfl, rfl, rfl, rfl, rfl, rfl, rfl, rfl, rfl, rfl⟩

@[simp] theorem withFrames_apply (s : State) (l : List TxFrame) :
    (withFrames s l).txq = { s.txq with frames := l } :=
  rfl

/-! ## Links -/

@[simp] theorem endFootFrame_frame (s : State) :
    (endFootFrame s).time = s.time ∧ (endFootFrame s).sbi = s.sbi ∧ (endFootFrame s).setup = s.setup ∧ (endFootFrame
    s).pt = s.pt ∧ (endFootFrame s).pe = s.pe ∧ (endFootFrame s).scu = s.scu ∧ (endFootFrame s).tu = s.tu ∧
    (endFootFrame s).txq = s.txq ∧ (endFootFrame s).flt = s.flt ∧ (endFootFrame s).pending = s.pending :=
  ⟨rfl, rfl, rfl, rfl, rfl, rfl, rfl, rfl, rfl, rfl⟩

@[simp] theorem endFootFrame_apply (s : State) :
    (endFootFrame s).fsu = { s.fsu with link := .waitIdle } :=
  rfl

@[simp] theorem endDriveFrame_frame (s : State) :
    (endDriveFrame s).time = s.time ∧ (endDriveFrame s).sbi = s.sbi ∧ (endDriveFrame s).setup = s.setup ∧
    (endDriveFrame s).pt = s.pt ∧ (endDriveFrame s).fsu = s.fsu ∧ (endDriveFrame s).pe = s.pe ∧ (endDriveFrame
    s).scu = s.scu ∧ (endDriveFrame s).txq = s.txq ∧ (endDriveFrame s).flt = s.flt ∧ (endDriveFrame s).pending =
    s.pending :=
  ⟨rfl, rfl, rfl, rfl, rfl, rfl, rfl, rfl, rfl, rfl⟩

@[simp] theorem endDriveFrame_apply (s : State) :
    (endDriveFrame s).tu = { s.tu with link := .waitIdle } :=
  rfl

@[simp] theorem setDriveLimit_frame (s : State) (b : Bool) :
    (setDriveLimit s b).time = s.time ∧ (setDriveLimit s b).sbi = s.sbi ∧ (setDriveLimit s b).setup = s.setup ∧
    (setDriveLimit s b).pt = s.pt ∧ (setDriveLimit s b).fsu = s.fsu ∧ (setDriveLimit s b).pe = s.pe ∧
    (setDriveLimit s b).scu = s.scu ∧ (setDriveLimit s b).txq = s.txq ∧ (setDriveLimit s b).flt = s.flt ∧
    (setDriveLimit s b).pending = s.pending :=
  ⟨rfl, rfl, rfl, rfl, rfl, rfl, rfl, rfl, rfl, rfl⟩

@[simp] theorem setDriveLimit_apply (s : State) (b : Bool) :
    (setDriveLimit s b).tu = { s.tu with driveLimit := b } :=
  rfl

@[simp] theorem setStarted_frame (s : State) :
    (setStarted s).time = s.time ∧ (setStarted s).sbi = s.sbi ∧ (setStarted s).setup = s.setup ∧ (setStarted s).pt =
    s.pt ∧ (setStarted s).fsu = s.fsu ∧ (setStarted s).pe = s.pe ∧ (setStarted s).scu = s.scu ∧ (setStarted
    s).txq = s.txq ∧ (setStarted s).flt = s.flt ∧ (setStarted s).pending = s.pending :=
  ⟨rfl, rfl, rfl, rfl, rfl, rfl, rfl, rfl, rfl, rfl⟩

@[simp] theorem setStarted_apply (s : State) :
    (setStarted s).tu = { s.tu with started := true } :=
  rfl

@[simp] theorem countBadSample_frame (s : State) :
    (countBadSample s).time = s.time ∧ (countBadSample s).sbi = s.sbi ∧ (countBadSample s).setup = s.setup ∧
    (countBadSample s).pt = s.pt ∧ (countBadSample s).pe = s.pe ∧ (countBadSample s).scu = s.scu ∧
    (countBadSample s).tu = s.tu ∧ (countBadSample s).txq = s.txq ∧ (countBadSample s).flt = s.flt ∧
    (countBadSample s).pending = s.pending :=
  ⟨rfl, rfl, rfl, rfl, rfl, rfl, rfl, rfl, rfl, rfl⟩

@[simp] theorem countBadSample_apply (s : State) :
    (countBadSample s).fsu = { s.fsu with bad := satInc s.fsu.bad, recovery := 0 } :=
  rfl

/-! ## Phase Engine and faults -/

@[simp] theorem enter_apply (p : PhaseEngine) (l : LegState) :
    (p.enter l).leg = l ∧ (p.enter l).checkPending = false ∧ (p.enter l).phi = p.phi ∧ (p.enter l).steps = p.steps ∧
    (p.enter l).applied = p.applied ∧ (p.enter l).turn = p.turn ∧ (p.enter l).lead = p.lead ∧
    (p.enter l).wait = p.wait :=
  ⟨rfl, rfl, rfl, rfl, rfl, rfl, rfl, rfl⟩

@[simp] theorem withWait_apply (p : PhaseEngine) (w : WaitReason) :
    (p.withWait w).wait = w ∧ (p.withWait w).leg = p.leg ∧ (p.withWait w).phi = p.phi ∧
    (p.withWait w).steps = p.steps ∧ (p.withWait w).applied = p.applied ∧ (p.withWait w).turn = p.turn ∧
    (p.withWait w).lead = p.lead ∧ (p.withWait w).checkPending = p.checkPending ∧
    (p.withWait w).origin = p.origin :=
  ⟨rfl, rfl, rfl, rfl, rfl, rfl, rfl, rfl, rfl⟩

@[simp] theorem claimReturn_apply (s : State) :
    (claimReturn s).pe.leg = .stance ∧ (claimReturn s).pe.wait = .claimLost ∧ (claimReturn s).pe.phi = s.beta ∧
    (claimReturn s).pe.claimT = none ∧ (claimReturn s).pe.timeoutPassed = false ∧ (claimReturn s).pe.steps =
    s.pe.steps ∧ (claimReturn s).pe.checkPending = false :=
  ⟨rfl, rfl, rfl, rfl, rfl, rfl, rfl⟩

@[simp] theorem enterHold_apply (s : State) :
    (enterHold s).pe.leg = .hold ∧ (enterHold s).pe.origin = some s.pe.leg ∧ (enterHold s).pe.wait = .none ∧
    (enterHold s).pe.phi = s.pe.phi ∧ (enterHold s).pe.steps = s.pe.steps :=
  ⟨rfl, rfl, rfl, rfl, rfl⟩

@[simp] theorem enterUnload_apply (s : State) :
    (enterUnload s).pe.leg = .unload ∧ (enterUnload s).pe.wait = .none ∧ (enterUnload s).pe.claimT = none ∧
    (enterUnload s).pe.unloadT = msTimer s.unloadMs ∧ (enterUnload s).tu.stanceZ = s.tu.p.z :=
  ⟨rfl, rfl, rfl, rfl, rfl⟩

@[simp] theorem endFault_apply (s : State) (c : FaultCode) :
    (endFault s c).flt.flags = s.flt.flags ∧ (endFault s c).flt.conds = s.flt.conds.set c.idx false ∧ (endFault s
    c).flt.ring = s.flt.ring ∧ (endFault s c).flt.lost = s.flt.lost ∧ (endFault s c).flt.first = s.flt.first ∧
    (endFault s c).flt.retry = s.flt.retry :=
  ⟨rfl, rfl, rfl, rfl, rfl, rfl⟩

@[simp] theorem raiseCondition_apply (s : State) (r : Report) :
    (raiseCondition s r).flt.flags = s.flt.flags ∧ (raiseCondition s r).flt.conds = s.flt.conds.set r.fault.idx true
    ∧ (raiseCondition s r).flt.ring = s.flt.ring ∧ (raiseCondition s r).flt.lost = s.flt.lost ∧ (raiseCondition
    s r).flt.first = s.flt.first :=
  ⟨rfl, rfl, rfl, rfl, rfl⟩

@[simp] theorem setRecord_apply (s : State) (n : Fin 8) (r : Option Record) :
    (setRecord s n r).pt.records = s.pt.records.set n r :=
  rfl

@[simp] theorem sendSetpoint_apply (s : State) :
    (sendSetpoint s).tu.tag = s.tu.tag + 1#8 ∧ (sendSetpoint s).tu.p = s.tu.p ∧ (sendSetpoint s).tu.sending = some
    setpointUs ∧ (sendSetpoint s).tu.priorZ = s.tu.lastZ :=
  ⟨rfl, rfl, rfl, rfl⟩

end Sys2Proof.Laws
end

