-- ==== Sys2Proof/Laws/Frames.lean ====
section
/-! SUPPORT. Frames of the shared operations: for each, in one lemma, the blocks of the state that it leaves as they are. No
block but the named operation's own, the Fault Unit, the Transmit Queue and the Phase Engine moves with an event. -/

namespace Sys2Proof.Laws
open Sys2Proof Sys2Proof.Machine

/-! ## Transmit Queue -/

@[simp] theorem claimReturn_frame (s : State) : (claimReturn s).time = s.time ∧ (claimReturn s).sbi = s.sbi ∧
    (claimReturn s).setup = s.setup ∧ (claimReturn s).pt = s.pt ∧ (claimReturn s).fsu = s.fsu ∧ (claimReturn s).scu =
    s.scu ∧ (claimReturn s).tu = s.tu ∧ (claimReturn s).txq = s.txq ∧ (claimReturn s).flt = s.flt ∧ (claimReturn
    s).pending = s.pending :=
  ⟨rfl, rfl, rfl, rfl, rfl, rfl, rfl, rfl, rfl, rfl⟩

@[simp] theorem claimFailed_frame (s : State) : (claimFailed s).time = s.time ∧ (claimFailed s).sbi = s.sbi ∧
    (claimFailed s).setup = s.setup ∧ (claimFailed s).pt = s.pt ∧ (claimFailed s).fsu = s.fsu ∧ (claimFailed s).scu =
    s.scu ∧ (claimFailed s).tu = s.tu ∧ (claimFailed s).txq = s.txq ∧ (claimFailed s).flt = s.flt ∧ (claimFailed
    s).pending = s.pending :=
  by unfold claimFailed; split <;> simp

@[simp] theorem removeLift_frame (s : State) : (removeLift s).time = s.time ∧ (removeLift s).sbi = s.sbi ∧ (removeLift
    s).setup = s.setup ∧ (removeLift s).pt = s.pt ∧ (removeLift s).fsu = s.fsu ∧ (removeLift s).pe = s.pe ∧
    (removeLift s).scu = s.scu ∧ (removeLift s).tu = s.tu ∧ (removeLift s).flt = s.flt ∧ (removeLift s).pending =
    s.pending :=
  ⟨rfl, rfl, rfl, rfl, rfl, rfl, rfl, rfl, rfl, rfl⟩

@[simp] theorem tellLost_frame (s : State) (f : TxFrame) : (tellLost s f).time = s.time ∧ (tellLost s f).sbi = s.sbi ∧
    (tellLost s f).setup = s.setup ∧ (tellLost s f).pt = s.pt ∧ (tellLost s f).fsu = s.fsu ∧ (tellLost s f).scu =
    s.scu ∧ (tellLost s f).tu = s.tu ∧ (tellLost s f).txq = s.txq ∧ (tellLost s f).pending = s.pending :=
  by unfold tellLost; (repeat' split) <;> simp

@[simp] theorem placeFrame_frame (s : State) (f : TxFrame) : (placeFrame s f).time = s.time ∧ (placeFrame s f).sbi =
    s.sbi ∧ (placeFrame s f).setup = s.setup ∧ (placeFrame s f).pt = s.pt ∧ (placeFrame s f).fsu = s.fsu ∧ (placeFrame
    s f).scu = s.scu ∧ (placeFrame s f).tu = s.tu ∧ (placeFrame s f).pending = s.pending :=
  by unfold placeFrame; split <;> simp

@[simp] theorem handNotice_frame (s : State) (n : Notice) : (handNotice s n).time = s.time ∧ (handNotice s n).sbi =
    s.sbi ∧ (handNotice s n).setup = s.setup ∧ (handNotice s n).pt = s.pt ∧ (handNotice s n).fsu = s.fsu ∧ (handNotice
    s n).scu = s.scu ∧ (handNotice s n).tu = s.tu ∧ (handNotice s n).pending = s.pending :=
  by simp [handNotice]

/-! ## Fault Unit -/

@[simp] theorem offerEvent_frame (s : State) : (offerEvent s).time = s.time ∧ (offerEvent s).sbi = s.sbi ∧ (offerEvent
    s).setup = s.setup ∧ (offerEvent s).pt = s.pt ∧ (offerEvent s).fsu = s.fsu ∧ (offerEvent s).scu = s.scu ∧
    (offerEvent s).tu = s.tu ∧ (offerEvent s).pending = s.pending :=
  by unfold offerEvent; (repeat' split) <;> simp

@[simp] theorem addRecord_frame (s : State) (e : EventKind) (d : Byte) : (addRecord s e d).time = s.time ∧ (addRecord
    s e d).sbi = s.sbi ∧ (addRecord s e d).setup = s.setup ∧ (addRecord s e d).pt = s.pt ∧ (addRecord s e d).fsu =
    s.fsu ∧ (addRecord s e d).pe = s.pe ∧ (addRecord s e d).scu = s.scu ∧ (addRecord s e d).tu = s.tu ∧ (addRecord s e
    d).txq = s.txq ∧ (addRecord s e d).pending = s.pending :=
  by unfold addRecord; split <;> simp

@[simp] theorem recordEvent_frame (s : State) (e : EventKind) (d : Byte) : (recordEvent s e d).time = s.time ∧
    (recordEvent s e d).sbi = s.sbi ∧ (recordEvent s e d).setup = s.setup ∧ (recordEvent s e d).pt = s.pt ∧
    (recordEvent s e d).fsu = s.fsu ∧ (recordEvent s e d).scu = s.scu ∧ (recordEvent s e d).tu = s.tu ∧ (recordEvent s
    e d).pending = s.pending :=
  by unfold recordEvent; split <;> simp

@[simp] theorem raiseCondition_frame (s : State) (r : Report) : (raiseCondition s r).time = s.time ∧ (raiseCondition s
    r).sbi = s.sbi ∧ (raiseCondition s r).setup = s.setup ∧ (raiseCondition s r).pt = s.pt ∧ (raiseCondition s r).fsu
    = s.fsu ∧ (raiseCondition s r).pe = s.pe ∧ (raiseCondition s r).scu = s.scu ∧ (raiseCondition s r).tu = s.tu ∧
    (raiseCondition s r).txq = s.txq ∧ (raiseCondition s r).pending = s.pending :=
  ⟨rfl, rfl, rfl, rfl, rfl, rfl, rfl, rfl, rfl, rfl⟩

@[simp] theorem latchFlag_frame (s : State) (c : FaultCode) : (latchFlag s c).time = s.time ∧ (latchFlag s c).sbi =
    s.sbi ∧ (latchFlag s c).setup = s.setup ∧ (latchFlag s c).pt = s.pt ∧ (latchFlag s c).fsu = s.fsu ∧ (latchFlag s
    c).pe = s.pe ∧ (latchFlag s c).scu = s.scu ∧ (latchFlag s c).tu = s.tu ∧ (latchFlag s c).txq = s.txq ∧ (latchFlag
    s c).pending = s.pending :=
  by unfold latchFlag; split <;> simp

@[simp] theorem reportEvents_frame (s : State) (b : State) (r : Report) : (reportEvents b s r).time = s.time ∧
    (reportEvents b s r).sbi = s.sbi ∧ (reportEvents b s r).setup = s.setup ∧ (reportEvents b s r).pt = s.pt ∧
    (reportEvents b s r).fsu = s.fsu ∧ (reportEvents b s r).scu = s.scu ∧ (reportEvents b s r).tu = s.tu ∧
    (reportEvents b s r).pending = s.pending :=
  by unfold reportEvents; (repeat' split) <;> simp

@[simp] theorem placeAlarm_frame (s : State) (c d : Byte) : (placeAlarm s c d).time = s.time ∧ (placeAlarm s c d).sbi
    = s.sbi ∧ (placeAlarm s c d).setup = s.setup ∧ (placeAlarm s c d).pt = s.pt ∧ (placeAlarm s c d).fsu = s.fsu ∧
    (placeAlarm s c d).scu = s.scu ∧ (placeAlarm s c d).tu = s.tu ∧ (placeAlarm s c d).pending = s.pending :=
  by simp [placeAlarm]

@[simp] theorem enterHold_frame (s : State) : (enterHold s).time = s.time ∧ (enterHold s).sbi = s.sbi ∧ (enterHold
    s).setup = s.setup ∧ (enterHold s).pt = s.pt ∧ (enterHold s).fsu = s.fsu ∧ (enterHold s).scu = s.scu ∧ (enterHold
    s).txq = s.txq ∧ (enterHold s).flt = s.flt ∧ (enterHold s).pending = s.pending :=
  ⟨rfl, rfl, rfl, rfl, rfl, rfl, rfl, rfl, rfl⟩

@[simp] theorem directHold_frame (s : State) : (directHold s).time = s.time ∧ (directHold s).sbi = s.sbi ∧ (directHold
    s).setup = s.setup ∧ (directHold s).pt = s.pt ∧ (directHold s).fsu = s.fsu ∧ (directHold s).scu = s.scu ∧
    (directHold s).flt = s.flt ∧ (directHold s).pending = s.pending :=
  by unfold directHold; (repeat' split) <;> simp

@[simp] theorem classAConsequence_frame (s : State) (c : FaultCode) : (classAConsequence s c).time = s.time ∧
    (classAConsequence s c).sbi = s.sbi ∧ (classAConsequence s c).setup = s.setup ∧ (classAConsequence s c).pt = s.pt
    ∧ (classAConsequence s c).fsu = s.fsu ∧ (classAConsequence s c).scu = s.scu ∧ (classAConsequence s c).pending =
    s.pending :=
  by unfold classAConsequence; split <;> simp

@[simp] theorem reportFault_frame (s : State) (r : Report) : (reportFault s r).time = s.time ∧ (reportFault s r).sbi =
    s.sbi ∧ (reportFault s r).setup = s.setup ∧ (reportFault s r).pt = s.pt ∧ (reportFault s r).fsu = s.fsu ∧
    (reportFault s r).scu = s.scu ∧ (reportFault s r).pending = s.pending :=
  by unfold reportFault; split <;> simp

@[simp] theorem endFault_frame (s : State) (c : FaultCode) : (endFault s c).time = s.time ∧ (endFault s c).sbi = s.sbi
    ∧ (endFault s c).setup = s.setup ∧ (endFault s c).pt = s.pt ∧ (endFault s c).fsu = s.fsu ∧ (endFault s c).pe =
    s.pe ∧ (endFault s c).scu = s.scu ∧ (endFault s c).tu = s.tu ∧ (endFault s c).txq = s.txq ∧ (endFault s c).pending
    = s.pending :=
  ⟨rfl, rfl, rfl, rfl, rfl, rfl, rfl, rfl, rfl, rfl⟩

@[simp] theorem endStationClash_frame (s : State) : (endStationClash s).time = s.time ∧ (endStationClash s).sbi =
    s.sbi ∧ (endStationClash s).setup = s.setup ∧ (endStationClash s).pt = s.pt ∧ (endStationClash s).fsu = s.fsu ∧
    (endStationClash s).pe = s.pe ∧ (endStationClash s).scu = s.scu ∧ (endStationClash s).tu = s.tu ∧ (endStationClash
    s).txq = s.txq ∧ (endStationClash s).pending = s.pending :=
  ⟨rfl, rfl, rfl, rfl, rfl, rfl, rfl, rfl, rfl, rfl⟩

@[simp] theorem endPositionClash_frame (s : State) : (endPositionClash s).time = s.time ∧ (endPositionClash s).sbi =
    s.sbi ∧ (endPositionClash s).setup = s.setup ∧ (endPositionClash s).pt = s.pt ∧ (endPositionClash s).fsu = s.fsu ∧
    (endPositionClash s).pe = s.pe ∧ (endPositionClash s).scu = s.scu ∧ (endPositionClash s).tu = s.tu ∧
    (endPositionClash s).txq = s.txq ∧ (endPositionClash s).pending = s.pending :=
  ⟨rfl, rfl, rfl, rfl, rfl, rfl, rfl, rfl, rfl, rfl⟩

@[simp] theorem reportOccurrence_frame (s : State) (c : Report) : (reportOccurrence s c).time = s.time ∧
    (reportOccurrence s c).sbi = s.sbi ∧ (reportOccurrence s c).setup = s.setup ∧ (reportOccurrence s c).pt = s.pt ∧
    (reportOccurrence s c).fsu = s.fsu ∧ (reportOccurrence s c).scu = s.scu ∧ (reportOccurrence s c).pending =
    s.pending :=
  by simp [reportOccurrence]

/-! ## Peer Table -/

@[simp] theorem setRecord_frame (s : State) (n : Fin 8) (r : Option Record) : (setRecord s n r).time = s.time ∧
    (setRecord s n r).sbi = s.sbi ∧ (setRecord s n r).setup = s.setup ∧ (setRecord s n r).fsu = s.fsu ∧ (setRecord s n
    r).pe = s.pe ∧ (setRecord s n r).scu = s.scu ∧ (setRecord s n r).tu = s.tu ∧ (setRecord s n r).txq = s.txq ∧
    (setRecord s n r).flt = s.flt ∧ (setRecord s n r).pending = s.pending :=
  ⟨rfl, rfl, rfl, rfl, rfl, rfl, rfl, rfl, rfl, rfl⟩

theorem reportFault_tu (s : State) (r : Report) (h : r.fault.classA = false) : (reportFault s r).tu = s.tu := by
  simp [reportFault, h]
@[simp] theorem raiseSilence_frame (s : State) (n : Fin 8) (p : Part) : (raiseSilence s n p).time = s.time ∧
    (raiseSilence s n p).sbi = s.sbi ∧ (raiseSilence s n p).setup = s.setup ∧ (raiseSilence s n p).fsu = s.fsu ∧
    (raiseSilence s n p).scu = s.scu ∧ (raiseSilence s n p).tu = s.tu ∧ (raiseSilence s n p).pending = s.pending :=
  by
  unfold raiseSilence; split <;> simp [reportFault_tu, Report.fault, FaultCode.classA, FaultCode.idx]

@[simp] theorem judge_frame (s : State) (n : Fin 8) : (judge s n).time = s.time ∧ (judge s n).sbi = s.sbi ∧ (judge s
    n).setup = s.setup ∧ (judge s n).fsu = s.fsu ∧ (judge s n).scu = s.scu ∧ (judge s n).tu = s.tu ∧ (judge s
    n).pending = s.pending :=
  by unfold judge; (repeat' split) <;> simp

@[simp] theorem judgeAt_frame (s : State) (p : LegPos) : (judgeAt s p).time = s.time ∧ (judgeAt s p).sbi = s.sbi ∧
    (judgeAt s p).setup = s.setup ∧ (judgeAt s p).fsu = s.fsu ∧ (judgeAt s p).scu = s.scu ∧ (judgeAt s p).tu = s.tu ∧
    (judgeAt s p).pending = s.pending :=
  by unfold judgeAt; split <;> simp

@[simp] theorem judgeLegs_frame (s : State) : (judgeLegs s).time = s.time ∧ (judgeLegs s).sbi = s.sbi ∧ (judgeLegs
    s).setup = s.setup ∧ (judgeLegs s).fsu = s.fsu ∧ (judgeLegs s).scu = s.scu ∧ (judgeLegs s).tu = s.tu ∧ (judgeLegs
    s).pending = s.pending :=
  by
  unfold judgeLegs
  generalize s.peers = l
  induction l generalizing s with
  | nil => simp
  | cons n l ih => simp only [List.foldl_cons, ih]; split <;> simp

@[simp] theorem judgeRole_frame (s : State) (r : Role) : (judgeRole s r).time = s.time ∧ (judgeRole s r).sbi = s.sbi ∧
    (judgeRole s r).setup = s.setup ∧ (judgeRole s r).fsu = s.fsu ∧ (judgeRole s r).scu = s.scu ∧ (judgeRole s r).tu =
    s.tu ∧ (judgeRole s r).pending = s.pending :=
  by unfold judgeRole; split <;> simp

@[simp] theorem positionClash_frame (s : State) (src : Fin 8) (p : LegPos) : (positionClash s src p).time = s.time ∧ (positionClash s
    src p).sbi = s.sbi ∧ (positionClash s src p).setup = s.setup ∧ (positionClash s src p).fsu = s.fsu ∧ (positionClash s
    src p).scu = s.scu ∧ (positionClash s src p).pending = s.pending :=
  by unfold positionClash; split <;> simp

@[simp] theorem silenceEnd_frame (s : State) (r : Role) : (silenceEnd s r).time = s.time ∧ (silenceEnd s r).sbi =
    s.sbi ∧ (silenceEnd s r).setup = s.setup ∧ (silenceEnd s r).fsu = s.fsu ∧ (silenceEnd s r).pe = s.pe ∧ (silenceEnd
    s r).scu = s.scu ∧ (silenceEnd s r).tu = s.tu ∧ (silenceEnd s r).txq = s.txq ∧ (silenceEnd s r).pending =
    s.pending :=
  by unfold silenceEnd; (repeat' split) <;> simp

@[simp] theorem storePart_frame (s : State) (src : Fin 8) (g : Bool) (p : Part) (r : Role) : (storePart s src g p
    r).time = s.time ∧ (storePart s src g p r).sbi = s.sbi ∧ (storePart s src g p r).setup = s.setup ∧ (storePart s
    src g p r).fsu = s.fsu ∧ (storePart s src g p r).pe = s.pe ∧ (storePart s src g p r).scu = s.scu ∧ (storePart s
    src g p r).tu = s.tu ∧ (storePart s src g p r).txq = s.txq ∧ (storePart s src g p r).pending = s.pending :=
  by simp [storePart]

@[simp] theorem storeLegReport_frame (s : State) (src : Fin 8) (f : RxFrame) : (storeLegReport s src f).time = s.time
    ∧ (storeLegReport s src f).sbi = s.sbi ∧ (storeLegReport s src f).setup = s.setup ∧ (storeLegReport s src f).fsu =
    s.fsu ∧ (storeLegReport s src f).pe = s.pe ∧ (storeLegReport s src f).scu = s.scu ∧ (storeLegReport s src f).tu =
    s.tu ∧ (storeLegReport s src f).txq = s.txq ∧ (storeLegReport s src f).pending = s.pending :=
  by simp [storeLegReport]

@[simp] theorem storeNotice_frame (s : State) (src : Fin 8) (f : RxFrame) : (storeNotice s src f).time = s.time ∧
    (storeNotice s src f).sbi = s.sbi ∧ (storeNotice s src f).setup = s.setup ∧ (storeNotice s src f).fsu = s.fsu ∧
    (storeNotice s src f).pe = s.pe ∧ (storeNotice s src f).scu = s.scu ∧ (storeNotice s src f).tu = s.tu ∧
    (storeNotice s src f).txq = s.txq ∧ (storeNotice s src f).pending = s.pending :=
  by simp [storeNotice]

@[simp] theorem tiltTest_frame (s : State) (b : BodyPart) : (tiltTest s b).time = s.time ∧ (tiltTest s b).sbi = s.sbi
    ∧ (tiltTest s b).setup = s.setup ∧ (tiltTest s b).fsu = s.fsu ∧ (tiltTest s b).scu = s.scu ∧ (tiltTest s
    b).pending = s.pending :=
  by unfold tiltTest; (repeat' split) <;> simp

@[simp] theorem storeBody_frame (s : State) (src : Fin 8) (f : RxFrame) : (storeBody s src f).time = s.time ∧
    (storeBody s src f).sbi = s.sbi ∧ (storeBody s src f).setup = s.setup ∧ (storeBody s src f).fsu = s.fsu ∧
    (storeBody s src f).scu = s.scu ∧ (storeBody s src f).pending = s.pending :=
  by simp [storeBody]

@[simp] theorem storeIntent_frame (s : State) (src : Fin 8) (f : RxFrame) : (storeIntent s src f).time = s.time ∧
    (storeIntent s src f).sbi = s.sbi ∧ (storeIntent s src f).setup = s.setup ∧ (storeIntent s src f).fsu = s.fsu ∧
    (storeIntent s src f).scu = s.scu ∧ (storeIntent s src f).tu = s.tu ∧ (storeIntent s src f).pending = s.pending :=
  by simp only [storeIntent]; (repeat' split) <;> simp

/-! ## Phase Engine -/

@[simp] theorem changePoint_frame (s : State) : (changePoint s).time = s.time ∧ (changePoint s).sbi = s.sbi ∧
    (changePoint s).setup = s.setup ∧ (changePoint s).fsu = s.fsu ∧ (changePoint s).scu = s.scu ∧ (changePoint s).tu =
    s.tu ∧ (changePoint s).pending = s.pending :=
  by simp [changePoint]

@[simp] theorem recordTurn_frame (s : State) : (recordTurn s).time = s.time ∧ (recordTurn s).sbi = s.sbi ∧ (recordTurn
    s).setup = s.setup ∧ (recordTurn s).fsu = s.fsu ∧ (recordTurn s).scu = s.scu ∧ (recordTurn s).tu = s.tu ∧
    (recordTurn s).pending = s.pending :=
  by unfold recordTurn; split <;> simp

@[simp] theorem fillTurn_frame (s : State) : (fillTurn s).time = s.time ∧ (fillTurn s).sbi = s.sbi ∧ (fillTurn
    s).setup = s.setup ∧ (fillTurn s).fsu = s.fsu ∧ (fillTurn s).scu = s.scu ∧ (fillTurn s).tu = s.tu ∧ (fillTurn
    s).pending = s.pending :=
  by unfold fillTurn; split <;> simp

@[simp] theorem enterClaim_frame (s : State) : (enterClaim s).time = s.time ∧ (enterClaim s).sbi = s.sbi ∧ (enterClaim
    s).setup = s.setup ∧ (enterClaim s).pt = s.pt ∧ (enterClaim s).fsu = s.fsu ∧ (enterClaim s).scu = s.scu ∧
    (enterClaim s).tu = s.tu ∧ (enterClaim s).pending = s.pending :=
  by simp [enterClaim]

@[simp] theorem enterUnload_frame (s : State) : (enterUnload s).time = s.time ∧ (enterUnload s).sbi = s.sbi ∧
    (enterUnload s).setup = s.setup ∧ (enterUnload s).pt = s.pt ∧ (enterUnload s).fsu = s.fsu ∧ (enterUnload s).scu =
    s.scu ∧ (enterUnload s).txq = s.txq ∧ (enterUnload s).flt = s.flt ∧ (enterUnload s).pending = s.pending :=
  ⟨rfl, rfl, rfl, rfl, rfl, rfl, rfl, rfl, rfl⟩

@[simp] theorem claimCompleted_frame (s : State) : (claimCompleted s).time = s.time ∧ (claimCompleted s).sbi = s.sbi ∧
    (claimCompleted s).setup = s.setup ∧ (claimCompleted s).pt = s.pt ∧ (claimCompleted s).fsu = s.fsu ∧
    (claimCompleted s).scu = s.scu ∧ (claimCompleted s).txq = s.txq ∧ (claimCompleted s).flt = s.flt ∧ (claimCompleted
    s).pending = s.pending :=
  by unfold claimCompleted; split <;> simp

@[simp] theorem giveUpClaim_frame (s : State) : (giveUpClaim s).time = s.time ∧ (giveUpClaim s).sbi = s.sbi ∧
    (giveUpClaim s).setup = s.setup ∧ (giveUpClaim s).pt = s.pt ∧ (giveUpClaim s).fsu = s.fsu ∧ (giveUpClaim s).scu =
    s.scu ∧ (giveUpClaim s).tu = s.tu ∧ (giveUpClaim s).flt = s.flt ∧ (giveUpClaim s).pending = s.pending :=
  ⟨rfl, rfl, rfl, rfl, rfl, rfl, rfl, rfl, rfl⟩

@[simp] theorem cancelUnload_frame (s : State) : (cancelUnload s).time = s.time ∧ (cancelUnload s).sbi = s.sbi ∧
    (cancelUnload s).setup = s.setup ∧ (cancelUnload s).pt = s.pt ∧ (cancelUnload s).fsu = s.fsu ∧ (cancelUnload
    s).scu = s.scu ∧ (cancelUnload s).pending = s.pending :=
  by simp [cancelUnload]

@[simp] theorem enterSwing_frame (s : State) : (enterSwing s).time = s.time ∧ (enterSwing s).sbi = s.sbi ∧ (enterSwing
    s).setup = s.setup ∧ (enterSwing s).fsu = s.fsu ∧ (enterSwing s).scu = s.scu ∧ (enterSwing s).pending = s.pending
    :=
  by simp [enterSwing]

@[simp] theorem enterLoad_frame (s : State) : (enterLoad s).time = s.time ∧ (enterLoad s).sbi = s.sbi ∧ (enterLoad
    s).setup = s.setup ∧ (enterLoad s).pt = s.pt ∧ (enterLoad s).fsu = s.fsu ∧ (enterLoad s).scu = s.scu ∧ (enterLoad
    s).pending = s.pending :=
  by simp [enterLoad]

@[simp] theorem enterStance_frame (s : State) (b : Bool) : (enterStance s b).time = s.time ∧ (enterStance s b).sbi =
    s.sbi ∧ (enterStance s b).setup = s.setup ∧ (enterStance s b).fsu = s.fsu ∧ (enterStance s b).scu = s.scu ∧
    (enterStance s b).tu = s.tu ∧ (enterStance s b).pending = s.pending :=
  by unfold enterStance; split <;> simp

@[simp] theorem lateLoaded_frame (s : State) : (lateLoaded s).time = s.time ∧ (lateLoaded s).sbi = s.sbi ∧ (lateLoaded
    s).setup = s.setup ∧ (lateLoaded s).pt = s.pt ∧ (lateLoaded s).fsu = s.fsu ∧ (lateLoaded s).scu = s.scu ∧
    (lateLoaded s).tu = s.tu ∧ (lateLoaded s).pending = s.pending :=
  by unfold lateLoaded; split <;> simp

@[simp] theorem beginStub_frame (s : State) : (beginStub s).time = s.time ∧ (beginStub s).sbi = s.sbi ∧ (beginStub
    s).setup = s.setup ∧ (beginStub s).pt = s.pt ∧ (beginStub s).fsu = s.fsu ∧ (beginStub s).scu = s.scu ∧ (beginStub
    s).txq = s.txq ∧ (beginStub s).flt = s.flt ∧ (beginStub s).pending = s.pending :=
  ⟨rfl, rfl, rfl, rfl, rfl, rfl, rfl, rfl, rfl⟩

@[simp] theorem exhaustSearch_frame (s : State) : (exhaustSearch s).time = s.time ∧ (exhaustSearch s).sbi = s.sbi ∧
    (exhaustSearch s).setup = s.setup ∧ (exhaustSearch s).pt = s.pt ∧ (exhaustSearch s).fsu = s.fsu ∧ (exhaustSearch
    s).scu = s.scu ∧ (exhaustSearch s).pending = s.pending :=
  by unfold exhaustSearch; split <;> simp

@[simp] theorem enterSearch_frame (s : State) : (enterSearch s).time = s.time ∧ (enterSearch s).sbi = s.sbi ∧
    (enterSearch s).setup = s.setup ∧ (enterSearch s).pt = s.pt ∧ (enterSearch s).fsu = s.fsu ∧ (enterSearch s).scu =
    s.scu ∧ (enterSearch s).pending = s.pending :=
  by unfold enterSearch; (repeat' split) <;> simp

@[simp] theorem swingContact_frame (s : State) : (swingContact s).time = s.time ∧ (swingContact s).sbi = s.sbi ∧
    (swingContact s).setup = s.setup ∧ (swingContact s).pt = s.pt ∧ (swingContact s).fsu = s.fsu ∧ (swingContact
    s).scu = s.scu ∧ (swingContact s).pending = s.pending :=
  by unfold swingContact; split <;> simp

@[simp] theorem holdContact_frame (s : State) (c : Contact) : (holdContact s c).time = s.time ∧ (holdContact s c).sbi
    = s.sbi ∧ (holdContact s c).setup = s.setup ∧ (holdContact s c).pt = s.pt ∧ (holdContact s c).fsu = s.fsu ∧
    (holdContact s c).pe = s.pe ∧ (holdContact s c).scu = s.scu ∧ (holdContact s c).txq = s.txq ∧ (holdContact s
    c).flt = s.flt ∧ (holdContact s c).pending = s.pending :=
  by unfold holdContact; (repeat' split) <;> simp

@[simp] theorem classChange_frame (s : State) (c d : Contact) : (classChange s c d).time = s.time ∧ (classChange s c
    d).sbi = s.sbi ∧ (classChange s c d).setup = s.setup ∧ (classChange s c d).fsu = s.fsu ∧ (classChange s c d).scu =
    s.scu ∧ (classChange s c d).pending = s.pending :=
  by unfold classChange; (repeat' split) <;> simp

@[simp] theorem slipStart_frame (s : State) : (slipStart s).time = s.time ∧ (slipStart s).sbi = s.sbi ∧ (slipStart
    s).setup = s.setup ∧ (slipStart s).pt = s.pt ∧ (slipStart s).fsu = s.fsu ∧ (slipStart s).scu = s.scu ∧ (slipStart
    s).pending = s.pending :=
  by unfold slipStart; split <;> simp

@[simp] theorem endSlipPersist_frame (s : State) : (endSlipPersist s).time = s.time ∧ (endSlipPersist s).sbi = s.sbi ∧
    (endSlipPersist s).setup = s.setup ∧ (endSlipPersist s).pt = s.pt ∧ (endSlipPersist s).fsu = s.fsu ∧
    (endSlipPersist s).scu = s.scu ∧ (endSlipPersist s).tu = s.tu ∧ (endSlipPersist s).txq = s.txq ∧ (endSlipPersist
    s).pending = s.pending :=
  by unfold endSlipPersist; split <;> simp

@[simp] theorem slipEnd_frame (s : State) : (slipEnd s).time = s.time ∧ (slipEnd s).sbi = s.sbi ∧ (slipEnd s).setup =
    s.setup ∧ (slipEnd s).pt = s.pt ∧ (slipEnd s).fsu = s.fsu ∧ (slipEnd s).scu = s.scu ∧ (slipEnd s).pending =
    s.pending :=
  by unfold slipEnd; (repeat' split) <;> simp

/-! ## Foot Sense Unit -/

@[simp] theorem judgeLimit_frame (s : State) (b : Axes) : (judgeLimit s b).time = s.time ∧ (judgeLimit s b).sbi =
    s.sbi ∧ (judgeLimit s b).setup = s.setup ∧ (judgeLimit s b).pt = s.pt ∧ (judgeLimit s b).scu = s.scu ∧ (judgeLimit
    s b).tu = s.tu ∧ (judgeLimit s b).pending = s.pending :=
  by
  unfold judgeLimit; (repeat' split) <;> simp [reportFault_tu, Report.fault, FaultCode.classA, FaultCode.idx]

@[simp] theorem enterSample_frame (s : State) (x y z : Half) : (enterSample s x y z).time = s.time ∧ (enterSample s x
    y z).sbi = s.sbi ∧ (enterSample s x y z).setup = s.setup ∧ (enterSample s x y z).pt = s.pt ∧ (enterSample s x y
    z).scu = s.scu ∧ (enterSample s x y z).tu = s.tu ∧ (enterSample s x y z).pending = s.pending :=
  by simp [enterSample]

@[simp] theorem setContact_frame (s : State) (c : Contact) : (setContact s c).time = s.time ∧ (setContact s c).sbi =
    s.sbi ∧ (setContact s c).setup = s.setup ∧ (setContact s c).scu = s.scu ∧ (setContact s c).pending = s.pending :=
  by unfold setContact; split <;> simp

@[simp] theorem leaveSlip_frame (s : State) : (leaveSlip s).time = s.time ∧ (leaveSlip s).sbi = s.sbi ∧ (leaveSlip
    s).setup = s.setup ∧ (leaveSlip s).pt = s.pt ∧ (leaveSlip s).scu = s.scu ∧ (leaveSlip s).pending = s.pending :=
  by simp [leaveSlip]

@[simp] theorem judgeSlip_frame (s : State) : (judgeSlip s).time = s.time ∧ (judgeSlip s).sbi = s.sbi ∧ (judgeSlip
    s).setup = s.setup ∧ (judgeSlip s).pt = s.pt ∧ (judgeSlip s).scu = s.scu ∧ (judgeSlip s).pending = s.pending :=
  by unfold judgeSlip; (repeat' split) <;> simp

@[simp] theorem degrade_frame (s : State) (c : Cause) : (degrade s c).time = s.time ∧ (degrade s c).sbi = s.sbi ∧
    (degrade s c).setup = s.setup ∧ (degrade s c).pt = s.pt ∧ (degrade s c).scu = s.scu ∧ (degrade s c).pending =
    s.pending :=
  by simp only [degrade]; (repeat' split) <;> simp

@[simp] theorem restartWatch_frame (s : State) : (restartWatch s).time = s.time ∧ (restartWatch s).sbi = s.sbi ∧
    (restartWatch s).setup = s.setup ∧ (restartWatch s).pt = s.pt ∧ (restartWatch s).pe = s.pe ∧ (restartWatch s).scu
    = s.scu ∧ (restartWatch s).tu = s.tu ∧ (restartWatch s).txq = s.txq ∧ (restartWatch s).pending = s.pending :=
  by unfold restartWatch; split <;> simp

@[simp] theorem stuckStep_frame (s : State) (z : Half) : (stuckStep s z).time = s.time ∧ (stuckStep s z).sbi = s.sbi ∧
    (stuckStep s z).setup = s.setup ∧ (stuckStep s z).pt = s.pt ∧ (stuckStep s z).pe = s.pe ∧ (stuckStep s z).scu =
    s.scu ∧ (stuckStep s z).tu = s.tu ∧ (stuckStep s z).txq = s.txq ∧ (stuckStep s z).pending = s.pending :=
  by unfold stuckStep; (repeat' split) <;> simp

@[simp] theorem judgeStuck_frame (s : State) : (judgeStuck s).time = s.time ∧ (judgeStuck s).sbi = s.sbi ∧ (judgeStuck
    s).setup = s.setup ∧ (judgeStuck s).pt = s.pt ∧ (judgeStuck s).scu = s.scu ∧ (judgeStuck s).pending = s.pending :=
  by unfold judgeStuck; split <;> simp

@[simp] theorem restoreContact_frame (s : State) (x y z : Half) : (restoreContact s x y z).time = s.time ∧
    (restoreContact s x y z).sbi = s.sbi ∧ (restoreContact s x y z).setup = s.setup ∧ (restoreContact s x y z).pt =
    s.pt ∧ (restoreContact s x y z).scu = s.scu ∧ (restoreContact s x y z).tu = s.tu ∧ (restoreContact s x y
    z).pending = s.pending :=
  by simp [restoreContact]

@[simp] theorem recoveryStep_frame (s : State) (x y z : Half) : (recoveryStep s x y z).time = s.time ∧ (recoveryStep s
    x y z).sbi = s.sbi ∧ (recoveryStep s x y z).setup = s.setup ∧ (recoveryStep s x y z).pt = s.pt ∧ (recoveryStep s x
    y z).scu = s.scu ∧ (recoveryStep s x y z).tu = s.tu ∧ (recoveryStep s x y z).pending = s.pending :=
  by simp only [recoveryStep]; (repeat' split) <;> simp

@[simp] theorem judgeSample_frame (s : State) : (judgeSample s).time = s.time ∧ (judgeSample s).sbi = s.sbi ∧
    (judgeSample s).setup = s.setup ∧ (judgeSample s).scu = s.scu ∧ (judgeSample s).pending = s.pending :=
  by unfold judgeSample; split <;> simp

@[simp] theorem takeSample_frame (s : State) (x y z : Half) : (takeSample s x y z).time = s.time ∧ (takeSample s x y
    z).sbi = s.sbi ∧ (takeSample s x y z).setup = s.setup ∧ (takeSample s x y z).scu = s.scu ∧ (takeSample s x y
    z).pending = s.pending :=
  by simp [takeSample]

@[simp] theorem loseLink_frame (s : State) : (loseLink s).time = s.time ∧ (loseLink s).sbi = s.sbi ∧ (loseLink
    s).setup = s.setup ∧ (loseLink s).pt = s.pt ∧ (loseLink s).scu = s.scu ∧ (loseLink s).pending = s.pending :=
  by unfold loseLink; split <;> simp

@[simp] theorem degradedJudge_frame (s : State) (z w : Int) (b : Bool) : (degradedJudge s z w b).time = s.time ∧
    (degradedJudge s z w b).sbi = s.sbi ∧ (degradedJudge s z w b).setup = s.setup ∧ (degradedJudge s z w b).scu =
    s.scu ∧ (degradedJudge s z w b).pending = s.pending :=
  by unfold degradedJudge; (repeat' split) <;> simp

/-! ## Support Check Unit -/

@[simp] theorem requestCheck_frame (s : State) : (requestCheck s).time = s.time ∧ (requestCheck s).sbi = s.sbi ∧
    (requestCheck s).setup = s.setup ∧ (requestCheck s).fsu = s.fsu ∧ (requestCheck s).tu = s.tu ∧ (requestCheck
    s).pending = s.pending :=
  by simp [requestCheck]

/-! ## Trajectory Unit -/

@[simp] theorem moveStanding_frame (s : State) (b : LegState) :
    (moveStanding s b).time = s.time ∧ (moveStanding s b).sbi = s.sbi ∧ (moveStanding s b).setup = s.setup ∧
    (moveStanding s b).fsu = s.fsu ∧ (moveStanding s b).scu = s.scu ∧ (moveStanding s b).pending = s.pending :=
  by simp [moveStanding]

@[simp] theorem moveSwing_frame (s : State) (b : LegState) : ((moveSwing s b).1).time = s.time ∧ ((moveSwing s b).1).sbi =
    s.sbi ∧ ((moveSwing s b).1).setup = s.setup ∧ ((moveSwing s b).1).pt = s.pt ∧ ((moveSwing s b).1).fsu = s.fsu ∧
    ((moveSwing s b).1).pe = s.pe ∧ ((moveSwing s b).1).scu = s.scu ∧ ((moveSwing s b).1).txq = s.txq ∧ ((moveSwing s
    b).1).flt = s.flt ∧ ((moveSwing s b).1).pending = s.pending :=
  by unfold moveSwing; (repeat' split) <;> simp

@[simp] theorem moveSearch_frame (s : State) : ((moveSearch s).1).time = s.time ∧ ((moveSearch s).1).sbi = s.sbi ∧
    ((moveSearch s).1).setup = s.setup ∧ ((moveSearch s).1).pt = s.pt ∧ ((moveSearch s).1).fsu = s.fsu ∧ ((moveSearch
    s).1).pe = s.pe ∧ ((moveSearch s).1).scu = s.scu ∧ ((moveSearch s).1).txq = s.txq ∧ ((moveSearch s).1).flt = s.flt
    ∧ ((moveSearch s).1).pending = s.pending :=
  by unfold moveSearch; split <;> simp

@[simp] theorem movePress_frame (s : State) : (movePress s).time = s.time ∧ (movePress s).sbi = s.sbi ∧ (movePress
    s).setup = s.setup ∧ (movePress s).pt = s.pt ∧ (movePress s).fsu = s.fsu ∧ (movePress s).pe = s.pe ∧ (movePress
    s).scu = s.scu ∧ (movePress s).txq = s.txq ∧ (movePress s).flt = s.flt ∧ (movePress s).pending = s.pending :=
  ⟨rfl, rfl, rfl, rfl, rfl, rfl, rfl, rfl, rfl, rfl⟩

@[simp] theorem moveHold_frame (s : State) : (moveHold s).time = s.time ∧ (moveHold s).sbi = s.sbi ∧ (moveHold
    s).setup = s.setup ∧ (moveHold s).pt = s.pt ∧ (moveHold s).fsu = s.fsu ∧ (moveHold s).pe = s.pe ∧ (moveHold s).scu
    = s.scu ∧ (moveHold s).txq = s.txq ∧ (moveHold s).flt = s.flt ∧ (moveHold s).pending = s.pending :=
  by unfold moveHold; split <;> simp

@[simp] theorem motion_frame (s : State) (b : LegState) : ((motion s b).1).time = s.time ∧ ((motion s b).1).sbi = s.sbi ∧
    ((motion s b).1).setup = s.setup ∧ ((motion s b).1).fsu = s.fsu ∧ ((motion s b).1).scu = s.scu ∧ ((motion s
    b).1).pending = s.pending :=
  by unfold motion; split <;> simp

@[simp] theorem watchClamp_frame (s : State) (b : Axes) : (watchClamp s b).time = s.time ∧ (watchClamp s b).sbi =
    s.sbi ∧ (watchClamp s b).setup = s.setup ∧ (watchClamp s b).pt = s.pt ∧ (watchClamp s b).fsu = s.fsu ∧ (watchClamp
    s b).scu = s.scu ∧ (watchClamp s b).pending = s.pending :=
  by unfold watchClamp; (repeat' split) <;> simp

@[simp] theorem clampFoot_frame (s : State) : (clampFoot s).time = s.time ∧ (clampFoot s).sbi = s.sbi ∧ (clampFoot
    s).setup = s.setup ∧ (clampFoot s).pt = s.pt ∧ (clampFoot s).fsu = s.fsu ∧ (clampFoot s).scu = s.scu ∧ (clampFoot
    s).pending = s.pending :=
  by unfold clampFoot; (repeat' split) <;> simp

@[simp] theorem sendSetpoint_frame (s : State) : (sendSetpoint s).time = s.time ∧ (sendSetpoint s).sbi = s.sbi ∧
    (sendSetpoint s).setup = s.setup ∧ (sendSetpoint s).pt = s.pt ∧ (sendSetpoint s).fsu = s.fsu ∧ (sendSetpoint s).pe
    = s.pe ∧ (sendSetpoint s).scu = s.scu ∧ (sendSetpoint s).txq = s.txq ∧ (sendSetpoint s).flt = s.flt ∧
    (sendSetpoint s).pending = s.pending :=
  ⟨rfl, rfl, rfl, rfl, rfl, rfl, rfl, rfl, rfl, rfl⟩

/-! ## The control period -/

@[simp] theorem advancePhase_frame (s : State) : (advancePhase s).time = s.time ∧ (advancePhase s).sbi = s.sbi ∧
    (advancePhase s).setup = s.setup ∧ (advancePhase s).pt = s.pt ∧ (advancePhase s).fsu = s.fsu ∧ (advancePhase
    s).scu = s.scu ∧ (advancePhase s).tu = s.tu ∧ (advancePhase s).txq = s.txq ∧ (advancePhase s).flt = s.flt ∧
    (advancePhase s).pending = s.pending :=
  ⟨rfl, rfl, rfl, rfl, rfl, rfl, rfl, rfl, rfl, rfl⟩

@[simp] theorem condTurn_frame (s : State) : ((condTurn s).1).time = s.time ∧ ((condTurn s).1).sbi = s.sbi ∧
    ((condTurn s).1).setup = s.setup ∧ ((condTurn s).1).fsu = s.fsu ∧ ((condTurn s).1).scu = s.scu ∧ ((condTurn
    s).1).tu = s.tu ∧ ((condTurn s).1).pending = s.pending :=
  by unfold condTurn; (repeat' split) <;> simp

@[simp] theorem judgeExclusive_frame (s : State) : (judgeExclusive s).time = s.time ∧ (judgeExclusive s).sbi = s.sbi ∧
    (judgeExclusive s).setup = s.setup ∧ (judgeExclusive s).fsu = s.fsu ∧ (judgeExclusive s).scu = s.scu ∧
    (judgeExclusive s).tu = s.tu ∧ (judgeExclusive s).pending = s.pending :=
  by
  unfold judgeExclusive
  generalize s.exclusivePositions = l
  induction l generalizing s with
  | nil => simp
  | cons n l ih => simp only [List.foldl_cons, ih, judgeAt_frame, and_self]

@[simp] theorem condFresh_frame (s : State) : ((condFresh s).1).time = s.time ∧ ((condFresh s).1).sbi = s.sbi ∧
    ((condFresh s).1).setup = s.setup ∧ ((condFresh s).1).fsu = s.fsu ∧ ((condFresh s).1).scu = s.scu ∧ ((condFresh
    s).1).tu = s.tu ∧ ((condFresh s).1).pending = s.pending :=
  by simp [condFresh]

@[simp] theorem condNeighbour_frame (s : State) : ((condNeighbour s).1).time = s.time ∧ ((condNeighbour s).1).sbi =
    s.sbi ∧ ((condNeighbour s).1).setup = s.setup ∧ ((condNeighbour s).1).fsu = s.fsu ∧ ((condNeighbour s).1).scu =
    s.scu ∧ ((condNeighbour s).1).tu = s.tu ∧ ((condNeighbour s).1).pending = s.pending :=
  by simp [condNeighbour]

@[simp] theorem condSlip_frame (s : State) : ((condSlip s).1).time = s.time ∧ ((condSlip s).1).sbi = s.sbi ∧
    ((condSlip s).1).setup = s.setup ∧ ((condSlip s).1).fsu = s.fsu ∧ ((condSlip s).1).scu = s.scu ∧ ((condSlip
    s).1).tu = s.tu ∧ ((condSlip s).1).pending = s.pending :=
  by simp [condSlip]

@[simp] theorem condBody_frame (s : State) : ((condBody s).1).time = s.time ∧ ((condBody s).1).sbi = s.sbi ∧
    ((condBody s).1).setup = s.setup ∧ ((condBody s).1).fsu = s.fsu ∧ ((condBody s).1).scu = s.scu ∧ ((condBody
    s).1).tu = s.tu ∧ ((condBody s).1).pending = s.pending :=
  by simp [condBody]

theorem andThen_fst (c : State × Bool) (w : WaitReason) (rest : State → State × Option WaitReason) :
    (andThen c w rest).1 = if c.2 then (rest c.1).1 else c.1 := by
  unfold andThen; split <;> rfl
@[simp] theorem liftConditions_frame (s : State) : ((liftConditions s).1).time = s.time ∧ ((liftConditions s).1).sbi =
    s.sbi ∧ ((liftConditions s).1).setup = s.setup ∧ ((liftConditions s).1).fsu = s.fsu ∧ ((liftConditions s).1).scu =
    s.scu ∧ ((liftConditions s).1).tu = s.tu ∧ ((liftConditions s).1).pending = s.pending :=
  by
  simp only [liftConditions, andThen_fst]; (repeat' split) <;> simp

@[simp] theorem nearbyTests_frame (s : State) : ((nearbyTests s).1).time = s.time ∧ ((nearbyTests s).1).sbi = s.sbi ∧
    ((nearbyTests s).1).setup = s.setup ∧ ((nearbyTests s).1).fsu = s.fsu ∧ ((nearbyTests s).1).scu = s.scu ∧
    ((nearbyTests s).1).tu = s.tu ∧ ((nearbyTests s).1).pending = s.pending :=
  by simp only [nearbyTests]; (repeat' split) <;> simp

@[simp] theorem decideStance_frame (s : State) : (decideStance s).time = s.time ∧ (decideStance s).sbi = s.sbi ∧
    (decideStance s).setup = s.setup ∧ (decideStance s).fsu = s.fsu ∧ (decideStance s).tu = s.tu ∧ (decideStance
    s).pending = s.pending :=
  by
  have h := liftConditions_frame (fillTurn (if s.pe.applied.gait = .stand then changePoint s else s))
  simp only [decideStance]; (repeat' split) <;> simp_all

@[simp] theorem decideUnload_frame (s : State) : (decideUnload s).time = s.time ∧ (decideUnload s).sbi = s.sbi ∧
    (decideUnload s).setup = s.setup ∧ (decideUnload s).fsu = s.fsu ∧ (decideUnload s).pending = s.pending :=
  by simp only [decideUnload]; (repeat' split) <;> simp

@[simp] theorem decideHold_frame (s : State) : (decideHold s).time = s.time ∧ (decideHold s).sbi = s.sbi ∧ (decideHold
    s).setup = s.setup ∧ (decideHold s).pt = s.pt ∧ (decideHold s).fsu = s.fsu ∧ (decideHold s).pe = s.pe ∧
    (decideHold s).scu = s.scu ∧ (decideHold s).txq = s.txq ∧ (decideHold s).flt = s.flt ∧ (decideHold s).pending =
    s.pending :=
  by unfold decideHold; split <;> simp

@[simp] theorem decide2_frame (s : State) : (decide2 s).time = s.time ∧ (decide2 s).sbi = s.sbi ∧ (decide2 s).setup =
    s.setup ∧ (decide2 s).fsu = s.fsu ∧ (decide2 s).pending = s.pending :=
  by unfold decide2; (repeat' split) <;> simp

@[simp] theorem endStubRise_frame (s : State) : (endStubRise s).time = s.time ∧ (endStubRise s).sbi = s.sbi ∧
    (endStubRise s).setup = s.setup ∧ (endStubRise s).pt = s.pt ∧ (endStubRise s).fsu = s.fsu ∧ (endStubRise s).scu =
    s.scu ∧ (endStubRise s).pending = s.pending :=
  by unfold endStubRise; split <;> simp

@[simp] theorem endReplace_frame (s : State) : (endReplace s).time = s.time ∧ (endReplace s).sbi = s.sbi ∧ (endReplace
    s).setup = s.setup ∧ (endReplace s).pt = s.pt ∧ (endReplace s).fsu = s.fsu ∧ (endReplace s).scu = s.scu ∧
    (endReplace s).pending = s.pending :=
  by unfold endReplace; split <;> simp

@[simp] theorem actOnEnd_frame (s : State) (m : Option MotionEnd) : (actOnEnd s m).time = s.time ∧ (actOnEnd s m).sbi
    = s.sbi ∧ (actOnEnd s m).setup = s.setup ∧ (actOnEnd s m).pt = s.pt ∧ (actOnEnd s m).fsu = s.fsu ∧ (actOnEnd s
    m).scu = s.scu ∧ (actOnEnd s m).pending = s.pending :=
  by unfold actOnEnd; split <;> simp

@[simp] theorem controlPeriod_frame (s : State) : (controlPeriod s).time = s.time ∧ (controlPeriod s).sbi = s.sbi ∧
    (controlPeriod s).setup = s.setup ∧ (controlPeriod s).fsu = s.fsu ∧ (controlPeriod s).pending = s.pending :=
  by simp [controlPeriod]

@[simp] theorem denyLift_frame (s : State) (r : CheckResult) : (denyLift s r).time = s.time ∧ (denyLift s r).sbi =
    s.sbi ∧ (denyLift s r).setup = s.setup ∧ (denyLift s r).pt = s.pt ∧ (denyLift s r).fsu = s.fsu ∧ (denyLift s
    r).scu = s.scu ∧ (denyLift s r).tu = s.tu ∧ (denyLift s r).txq = s.txq ∧ (denyLift s r).flt = s.flt ∧ (denyLift s
    r).pending = s.pending :=
  ⟨rfl, rfl, rfl, rfl, rfl, rfl, rfl, rfl, rfl, rfl⟩

@[simp] theorem passLift_frame (s : State) : (passLift s).time = s.time ∧ (passLift s).sbi = s.sbi ∧ (passLift
    s).setup = s.setup ∧ (passLift s).fsu = s.fsu ∧ (passLift s).scu = s.scu ∧ (passLift s).tu = s.tu ∧ (passLift
    s).pending = s.pending :=
  by
  have h := liftConditions_frame s
  simp only [passLift]; split <;> simp_all

@[simp] theorem actOnResult_frame (s : State) (r : CheckResult) : (actOnResult s r).time = s.time ∧ (actOnResult s
    r).sbi = s.sbi ∧ (actOnResult s r).setup = s.setup ∧ (actOnResult s r).fsu = s.fsu ∧ (actOnResult s r).scu = s.scu
    ∧ (actOnResult s r).pending = s.pending :=
  by unfold actOnResult; (repeat' split) <;> simp

@[simp] theorem completeCheck_frame (s : State) (sn : Snapshot) : (completeCheck s sn).time = s.time ∧ (completeCheck
    s sn).sbi = s.sbi ∧ (completeCheck s sn).setup = s.setup ∧ (completeCheck s sn).fsu = s.fsu ∧ (completeCheck s
    sn).pending = s.pending :=
  by simp [completeCheck]

/-! ## Reports -/

@[simp] theorem placeDiagnostic_frame (s : State) (n : Nat) : (placeDiagnostic s n).time = s.time ∧ (placeDiagnostic s
    n).sbi = s.sbi ∧ (placeDiagnostic s n).setup = s.setup ∧ (placeDiagnostic s n).fsu = s.fsu ∧ (placeDiagnostic s
    n).scu = s.scu ∧ (placeDiagnostic s n).tu = s.tu ∧ (placeDiagnostic s n).pending = s.pending :=
  by unfold placeDiagnostic; split <;> simp

@[simp] theorem placeLegReport_frame (s : State) : (placeLegReport s).time = s.time ∧ (placeLegReport s).sbi = s.sbi ∧
    (placeLegReport s).setup = s.setup ∧ (placeLegReport s).pt = s.pt ∧ (placeLegReport s).fsu = s.fsu ∧
    (placeLegReport s).scu = s.scu ∧ (placeLegReport s).tu = s.tu ∧ (placeLegReport s).pending = s.pending :=
  by simp [placeLegReport]

@[simp] theorem placeFootDetail_frame (s : State) : (placeFootDetail s).time = s.time ∧ (placeFootDetail s).sbi =
    s.sbi ∧ (placeFootDetail s).setup = s.setup ∧ (placeFootDetail s).pt = s.pt ∧ (placeFootDetail s).fsu = s.fsu ∧
    (placeFootDetail s).scu = s.scu ∧ (placeFootDetail s).tu = s.tu ∧ (placeFootDetail s).pending = s.pending :=
  by simp [placeFootDetail]

@[simp] theorem examineSchedule_frame (s : State) : (examineSchedule s).time = s.time ∧ (examineSchedule s).sbi =
    s.sbi ∧ (examineSchedule s).setup = s.setup ∧ (examineSchedule s).pt = s.pt ∧ (examineSchedule s).fsu = s.fsu ∧
    (examineSchedule s).scu = s.scu ∧ (examineSchedule s).tu = s.tu ∧ (examineSchedule s).pending = s.pending :=
  by simp only [examineSchedule]; (repeat' split) <;> simp

end Sys2Proof.Laws
end

