-- ==== Sys2Proof/Laws/Queue.lean ====
section
/-! SUPPORT. The Transmit Queue: the kind of a frame the node builds, what placing a frame can do (R140 to R142), and the
bound of eight frames. -/

namespace Sys2Proof.Laws
open Sys2Proof Sys2Proof.Machine

/-- A claim byte names its kind and its station (R9). -/
theorem claimKind_claimByte (k : FrameKind) (n : Fin 8) : claimKind (claimByte k n) = some k := by
  revert n; cases k <;> decide

theorem kindOfCode_claimByte (k : FrameKind) (n : Fin 8) : kindOfCode (claimCode (claimByte k n)) = some k := by
  revert n; cases k <;> decide

theorem claimSource_claimByte (k : FrameKind) (n : Fin 8) : claimSource (claimByte k n) = n := by
  revert n; cases k <;> decide

/-- A frame the node builds has the kind it was built for. -/
@[simp] theorem newFrame_kind (s : State) (k : FrameKind) (p : List Byte) : (s.newFrame k p).kind = some k :=
  kindOfCode_claimByte k s.sbi.station

@[simp] theorem newFrame_apply (s : State) (k : FrameKind) (p : List Byte) :
    (s.newFrame k p).payload = p ∧ (s.newFrame k p).locked = false ∧
    (s.newFrame k p).claim = claimByte k s.sbi.station :=
  ⟨rfl, rfl, rfl⟩

/-- An Event frame is no Lift Notice. -/
theorem not_isLift_of_isEvent {f : TxFrame} (h : f.isEvent = true) : f.isLift = false := by
  simp only [TxFrame.isEvent, beq_iff_eq] at h
  simp [TxFrame.isLift, h]

/-! ## The list (R140) -/

/-- A new frame enters behind the frames that come before it in claim order. -/
theorem insertFrame_split (f : TxFrame) (l : List TxFrame) :
    ∃ a b, l = a ++ b ∧ insertFrame f l = a ++ f :: b ∧ (∀ g ∈ a, ¬ f.claim < g.claim) ∧
      (∀ g, b.head? = some g → f.claim < g.claim) := by
  induction l with
  | nil => exact ⟨[], [], by simp [insertFrame]⟩
  | cons g l ih =>
    unfold insertFrame
    by_cases h : f.claim < g.claim
    · exact ⟨[], g :: l, by simp [h]⟩
    · obtain ⟨a, b, rfl, hb, ha, hh⟩ := ih
      refine ⟨g :: a, b, by simp, by simp [h, hb], ?_, hh⟩
      intro x hx
      rcases List.mem_cons.1 hx with rfl | hx
      · exact h
      · exact ha x hx

@[simp] theorem insertFrame_length (f : TxFrame) (l : List TxFrame) : (insertFrame f l).length = l.length + 1 := by
  obtain ⟨a, b, rfl, h, -⟩ := insertFrame_split f l
  simp [h]; omega

@[simp] theorem mem_insertFrame {f g : TxFrame} {l : List TxFrame} : g ∈ insertFrame f l ↔ g = f ∨ g ∈ l := by
  obtain ⟨a, b, rfl, h, -⟩ := insertFrame_split f l
  simp [h]; tauto

/-- The victim stands in the list, unlocked, at the place given. -/
theorem victim_spec {l : List TxFrame} {i : Nat} {v : TxFrame} (h : victim l = some (i, v)) :
    l[i]? = some v ∧ v.locked = false := by
  induction l generalizing i v with
  | nil => simp [victim] at h
  | cons g l ih =>
    unfold victim at h
    cases hv : victim l with
    | none => simp [hv] at h; obtain ⟨hl, rfl, rfl⟩ := h; simpa using hl
    | some p =>
      obtain ⟨j, w⟩ := p
      simp only [hv] at h
      split at h
      · rename_i hc; simp at h hc; obtain ⟨rfl, rfl⟩ := h; simpa using hc.1
      · simp at h; obtain ⟨rfl, rfl⟩ := h; simpa using ih hv

theorem victim_lt {l : List TxFrame} {i : Nat} {v : TxFrame} (h : victim l = some (i, v)) : i < l.length := by
  have := (victim_spec h).1
  exact (List.getElem?_eq_some_iff.1 this).1

/-- No unlocked frame has a higher claim value than the victim (R142). -/
theorem victim_max {l : List TxFrame} {i : Nat} {v : TxFrame} (h : victim l = some (i, v)) :
    ∀ g ∈ l, g.locked = false → ¬ v.claim < g.claim := by
  induction l generalizing i v with
  | nil => simp
  | cons g l ih =>
    unfold victim at h
    cases hv : victim l with
    | none =>
      simp [hv] at h; obtain ⟨hl, rfl, rfl⟩ := h
      have none_locked : ∀ l : List TxFrame, victim l = none → ∀ g ∈ l, g.locked = true := by
        intro l
        induction l with
        | nil => simp
        | cons a l ih =>
          intro h
          unfold victim at h
          cases hw : victim l with
          | none => simp [hw] at h; simpa [h] using ih hw
          | some p => obtain ⟨j, w⟩ := p; simp only [hw] at h; split at h <;> simp at h
      intro x hx hxl
      rcases List.mem_cons.1 hx with rfl | hx
      · simp
      · simp [none_locked l hv x hx] at hxl
    | some p =>
      obtain ⟨j, w⟩ := p
      have hw := ih hv
      simp only [hv] at h
      intro x hx hxl
      split at h
      · rename_i hc; simp at h hc; obtain ⟨rfl, rfl⟩ := h
        rcases List.mem_cons.1 hx with rfl | hx
        · simp
        · have := hw x hx hxl; have := hc.2; bv_omega
      · rename_i hc; simp at h hc; obtain ⟨rfl, rfl⟩ := h
        rcases List.mem_cons.1 hx with rfl | hx
        · simpa using hc hxl
        · exact hw x hx hxl

/-! ## Placing a frame (R140 to R142) -/

/-- What placing a frame outside R141 can do: it enters a queue that has room; or, in a full queue, an unlocked frame of
higher claim value leaves for it, or it is dropped, and the count of drops goes up. -/
theorem admit_cases (q : TxQueue) (f : TxFrame) :
    (q.frames.length < queueMax ∧ q.takeIn f = ({ q with frames := insertFrame f q.frames }, none)) ∨
    (queueMax ≤ q.frames.length ∧ (∃ i v, victim q.frames = some (i, v) ∧ f.claim < v.claim ∧
      q.takeIn f = ({ frames := insertFrame f (q.frames.eraseIdx i), dropped := satInc q.dropped }, some v))) ∨
    (queueMax ≤ q.frames.length ∧ q.takeIn f = ({ q with dropped := satInc q.dropped }, some f)) := by
  unfold TxQueue.takeIn
  by_cases h : q.frames.length < queueMax
  · exact .inl ⟨h, by simp [h]⟩
  · rw [if_neg h]
    rcases hv : victim q.frames with _ | ⟨i, v⟩
    · exact .inr (.inr ⟨by omega, rfl⟩)
    · by_cases hc : f.claim < v.claim
      · exact .inr (.inl ⟨by omega, i, v, rfl, hc, by simp [hc]⟩)
      · exact .inr (.inr ⟨by omega, by simp [hc]⟩)

/-- Placing a frame is settled by R141 (the queue keeps its length and nothing leaves) or by R140 and R142. -/
theorem place_cases (q : TxQueue) (f : TxFrame) :
    q.place f = (q, none) ∨
    (∃ held, q.frames.find? (sameSlot f) = some held ∧ held.locked = false ∧
      q.place f = ({ q with frames := q.frames.map fun g => if sameSlot f g then f else g }, none)) ∨
    q.place f = q.takeIn f := by
  unfold TxQueue.place
  split
  · split <;> simp
  all_goals first
    | exact .inr (.inr rfl)
    | (cases hf : q.frames.find? (sameSlot f) with
       | none => simp
       | some held => cases hl : held.locked <;> simp [hl])

/-- The queue never holds more than eight frames (R140). -/
theorem place_length (q : TxQueue) (f : TxFrame) (h : q.frames.length ≤ queueMax) :
    (q.place f).1.frames.length ≤ queueMax := by
  rcases place_cases q f with hp | ⟨_, -, -, hp⟩ | hp
  · simpa [hp] using h
  · simpa [hp] using h
  · rw [hp]
    rcases admit_cases q f with ⟨hl, ha⟩ | ⟨hl, i, v, hv, -, ha⟩ | ⟨hl, ha⟩
    · simp [ha]; omega
    · have := victim_lt hv
      simp [ha, List.length_eraseIdx, this]; omega
    · simpa [ha] using h

/-- A frame that leaves or is dropped is the new one, or an unlocked one of higher claim value (R142). -/
theorem place_lost {q : TxQueue} {f v : TxFrame} (h : (q.place f).2 = some v) :
    v = f ∨ (v ∈ q.frames ∧ v.locked = false ∧ f.claim < v.claim) := by
  rcases place_cases q f with hp | ⟨_, -, -, hp⟩ | hp
  · simp [hp] at h
  · simp [hp] at h
  · rw [hp] at h
    rcases admit_cases q f with ⟨-, ha⟩ | ⟨-, i, w, hv, hc, ha⟩ | ⟨-, ha⟩
    · simp [ha] at h
    · simp [ha] at h; subst h
      exact .inr ⟨List.mem_of_getElem? (victim_spec hv).1, (victim_spec hv).2, hc⟩
    · simp [ha] at h; exact .inl h.symm

/-- Every frame held after placing is the new one or was held before. -/
theorem mem_place {q : TxQueue} {f g : TxFrame} (h : g ∈ (q.place f).1.frames) : g = f ∨ g ∈ q.frames := by
  rcases place_cases q f with hp | ⟨_, -, -, hp⟩ | hp
  · rw [hp] at h; exact .inr h
  · rw [hp] at h
    simp only [List.mem_map] at h
    obtain ⟨x, hx, rfl⟩ := h
    split
    · exact .inl rfl
    · exact .inr hx
  · rw [hp] at h
    rcases admit_cases q f with ⟨-, ha⟩ | ⟨-, i, v, -, -, ha⟩ | ⟨-, ha⟩ <;> rw [ha] at h
    · simpa using h
    · rcases mem_insertFrame.1 h with h | h
      · exact .inl h
      · exact .inr (List.mem_of_mem_eraseIdx h)
    · exact .inr h

/-! ## The queue in the state -/

@[simp] theorem tellLost_txq (s : State) (f : TxFrame) : (tellLost s f).txq = s.txq := by
  unfold tellLost; (repeat' split) <;> simp

@[simp] theorem placeFrame_txq (s : State) (f : TxFrame) : (placeFrame s f).txq = (s.txq.place f).1 := by
  unfold placeFrame; split <;> simp_all

/-- A told loss changes of the Fault Unit only the retry mark. -/
theorem tellLost_flt (s : State) (f : TxFrame) :
    (tellLost s f).flt = { s.flt with retry := (tellLost s f).flt.retry } := by
  unfold tellLost; (repeat' split) <;> simp [claimFailed_frame]

/-- Placing a frame changes of the Fault Unit only the retry mark. -/
theorem placeFrame_flt (s : State) (f : TxFrame) :
    (placeFrame s f).flt = { s.flt with retry := (placeFrame s f).flt.retry } := by
  unfold placeFrame
  split
  · rfl
  · exact tellLost_flt _ _

@[simp] theorem placeFrame_flt_apply (s : State) (f : TxFrame) :
    (placeFrame s f).flt.flags = s.flt.flags ∧ (placeFrame s f).flt.conds = s.flt.conds ∧
    (placeFrame s f).flt.clashStation = s.flt.clashStation ∧ (placeFrame s f).flt.clashPosition = s.flt.clashPosition ∧
    (placeFrame s f).flt.first = s.flt.first ∧ (placeFrame s f).flt.alarmsInHold = s.flt.alarmsInHold ∧
    (placeFrame s f).flt.ring = s.flt.ring ∧ (placeFrame s f).flt.lost = s.flt.lost := by
  rw [placeFrame_flt]; exact ⟨rfl, rfl, rfl, rfl, rfl, rfl, rfl, rfl⟩

/-- Placing a frame leaves the Phase Engine as it is, unless a Lift Notice is lost in CLAIM, which makes the claim fail
(R107, R142). -/
theorem placeFrame_pe (s : State) (f : TxFrame) :
    (placeFrame s f).pe = s.pe ∨
    (s.pe.leg = .claim ∧ (∃ v, (s.txq.place f).2 = some v ∧ v.isLift = true) ∧
      (placeFrame s f).pe = (claimReturn s).pe) := by
  unfold placeFrame
  split
  · exact .inl rfl
  · rename_i q v hq
    by_cases hl : v.isLift = true
    · by_cases hc : s.pe.leg = .claim
      · exact .inr ⟨hc, ⟨v, by rw [hq], hl⟩, by simp [tellLost, hl, claimFailed, hc]; rfl⟩
      · exact .inl (by simp [tellLost, hl, claimFailed, hc])
    · exact .inl (by simp only [tellLost, hl, Bool.false_eq_true, if_false]; split <;> rfl)

/-- The state of the leg after a frame is placed: it changes only where a claim fails. -/
theorem placeFrame_leg (s : State) (f : TxFrame) :
    (placeFrame s f).pe.leg = s.pe.leg ∨ (s.pe.leg = .claim ∧ (placeFrame s f).pe.leg = .stance) := by
  rcases placeFrame_pe s f with h | ⟨h, -, h'⟩
  · exact .inl (by rw [h])
  · exact .inr ⟨h, by rw [h']; rfl⟩

theorem placeFrame_pe_of_ne (s : State) (f : TxFrame) (h : s.pe.leg ≠ .claim) : (placeFrame s f).pe = s.pe := by
  rcases placeFrame_pe s f with h' | ⟨hc, -⟩
  · exact h'
  · exact absurd hc h

end Sys2Proof.Laws
end

