-- ==== Sys2Proof/Laws/Faults.lean ====
section
/-! SUPPORT. The Fault Unit: what recording an event can do (R158, R159), and what reporting a fault can do (R150, R152). -/

namespace Sys2Proof.Laws
open Sys2Proof Sys2Proof.Machine

/-! ## Offering an Event frame (R159) -/

/-- The claim value of an Event frame is above that of every Lift Notice. -/
theorem lift_claim_lt {v : TxFrame} (h : v.isLift = true) (n : Fin 8) : ¬ claimByte .event n < v.claim := by
  have hk : kindOfCode (claimCode v.claim) = some .phaseNotice := by
    simp only [TxFrame.isLift, TxFrame.kind, Bool.and_eq_true, beq_iff_eq] at h; exact h.1
  have hc : claimCode v.claim = 2 := by
    revert hk; generalize claimCode v.claim = c; intro hk
    unfold kindOfCode at hk; split at hk <;> simp_all
  have hn : 160 ≤ (claimByte .event n).toNat := by revert n; decide
  rw [BitVec.lt_def]; simp only [claimCode] at hc; omega

/-- Offering an Event frame never touches the Phase Engine: an Event frame displaces no Lift Notice. -/
@[simp] theorem placeEvent_pe (s : State) (p : List Byte) : (placeFrame s (s.newFrame .event p)).pe = s.pe := by
  rcases placeFrame_pe s (s.newFrame .event p) with h | ⟨-, ⟨v, hv, hl⟩, -⟩
  · exact h
  · exfalso
    rcases place_lost hv with rfl | ⟨-, -, hc⟩
    · simp [TxFrame.isLift] at hl
    · exact lift_claim_lt hl _ hc

@[simp] theorem offerEvent_pe (s : State) : (offerEvent s).pe = s.pe := by
  unfold offerEvent
  split
  · rfl
  · split
    · rfl
    · exact placeEvent_pe s _

@[simp] theorem offerEvent_flt (s : State) :
    (offerEvent s).flt.flags = s.flt.flags ∧ (offerEvent s).flt.conds = s.flt.conds ∧
    (offerEvent s).flt.clashStation = s.flt.clashStation ∧ (offerEvent s).flt.clashPosition = s.flt.clashPosition ∧
    (offerEvent s).flt.first = s.flt.first ∧ (offerEvent s).flt.alarmsInHold = s.flt.alarmsInHold ∧
    (offerEvent s).flt.ring = s.flt.ring ∧ (offerEvent s).flt.lost = s.flt.lost := by
  unfold offerEvent; (repeat' split) <;> simp

/-! ## Recording an event (R158) -/

@[simp] theorem addRecord_flt (s : State) (e : EventKind) (d : Byte) :
    (addRecord s e d).flt.flags = s.flt.flags ∧ (addRecord s e d).flt.conds = s.flt.conds ∧
    (addRecord s e d).flt.clashStation = s.flt.clashStation ∧
    (addRecord s e d).flt.clashPosition = s.flt.clashPosition ∧ (addRecord s e d).flt.first = s.flt.first ∧
    (addRecord s e d).flt.alarmsInHold = s.flt.alarmsInHold ∧ (addRecord s e d).flt.retry = s.flt.retry := by
  unfold addRecord; split <;> simp

/-- Recording an event leaves the Phase Engine, every flag, condition and the first-fault record as they are. -/
@[simp] theorem recordEvent_keeps (s : State) (e : EventKind) (d : Byte) :
    (recordEvent s e d).pe = s.pe ∧ (recordEvent s e d).flt.flags = s.flt.flags ∧
    (recordEvent s e d).flt.conds = s.flt.conds ∧ (recordEvent s e d).flt.clashStation = s.flt.clashStation ∧
    (recordEvent s e d).flt.clashPosition = s.flt.clashPosition ∧ (recordEvent s e d).flt.first = s.flt.first ∧
    (recordEvent s e d).flt.alarmsInHold = s.flt.alarmsInHold := by
  unfold recordEvent; split <;> simp

/-- The record that an event enters in the ring. -/
def recordOf (s : State) (e : EventKind) (d : Byte) : EventRecord :=
  { code := BitVec.ofNat 8 e.code, detail := d, epoch := s.time.epoch }

/-- The ring and the events-lost count after an event: let in or not, with room or full (R158). -/
theorem recordEvent_ring (s : State) (e : EventKind) (d : Byte) :
    (recordEvent s e d).flt.ring =
      (if eventAllowed s e = true ∧ s.flt.ring.length < ringMax then s.flt.ring ++ [recordOf s e d] else s.flt.ring) ∧
    (recordEvent s e d).flt.lost =
      (if eventAllowed s e = true ∧ ¬ s.flt.ring.length < ringMax then satInc s.flt.lost else s.flt.lost) := by
  unfold recordEvent addRecord recordOf
  by_cases h : eventAllowed s e = true <;> by_cases h' : s.flt.ring.length < ringMax <;> simp [h, h']

/-- The ring never holds more than sixteen records (R158). -/
theorem recordEvent_ring_le (s : State) (e : EventKind) (d : Byte) (h : s.flt.ring.length ≤ ringMax) :
    (recordEvent s e d).flt.ring.length ≤ ringMax := by
  rw [(recordEvent_ring s e d).1]; split
  · simp; omega
  · exact h

/-! ## Reporting a fault (R150, R152) -/

@[simp] theorem latchFlag_apply (s : State) (c : FaultCode) :
    (latchFlag s c).flt.flags = s.flt.flags.set c.idx true ∧ (latchFlag s c).flt.conds = s.flt.conds ∧
    (latchFlag s c).flt.alarmsInHold = s.flt.alarmsInHold ∧ (latchFlag s c).flt.ring = s.flt.ring ∧
    (latchFlag s c).flt.lost = s.flt.lost ∧ (latchFlag s c).flt.clashStation = s.flt.clashStation ∧
    (latchFlag s c).flt.clashPosition = s.flt.clashPosition := by
  unfold latchFlag latched
  split
  · rename_i h
    refine ⟨?_, rfl, rfl, rfl, rfl, rfl, rfl⟩
    ext i hi
    rw [Vector.getElem_set]
    split
    · subst_vars; exact h
    · rfl
  · exact ⟨rfl, rfl, rfl, rfl, rfl, rfl, rfl⟩

@[simp] theorem reportEvents_keeps (b s : State) (r : Report) :
    (reportEvents b s r).pe = s.pe ∧ (reportEvents b s r).flt.flags = s.flt.flags ∧
    (reportEvents b s r).flt.conds = s.flt.conds ∧ (reportEvents b s r).flt.clashStation = s.flt.clashStation ∧
    (reportEvents b s r).flt.clashPosition = s.flt.clashPosition ∧ (reportEvents b s r).flt.first = s.flt.first ∧
    (reportEvents b s r).flt.alarmsInHold = s.flt.alarmsInHold := by
  unfold reportEvents; (repeat' split) <;> simp

@[simp] theorem directHold_flt (s : State) : (directHold s).flt = s.flt := directHold_frame s |>.2.2.2.2.2.2.1

/-- A direction to HOLD: a walking leg is in HOLD, another leg as it was. -/
theorem directHold_leg (s : State) : (directHold s).pe.leg = if s.pe.leg.walking then .hold else s.pe.leg := by
  unfold directHold
  cases h : s.pe.leg <;> simp [LegState.walking, h]

@[simp] theorem classAConsequence_flt (s : State) (c : FaultCode) :
    (classAConsequence s c).flt.flags = s.flt.flags ∧ (classAConsequence s c).flt.conds = s.flt.conds ∧
    (classAConsequence s c).flt.clashStation = s.flt.clashStation ∧
    (classAConsequence s c).flt.clashPosition = s.flt.clashPosition ∧
    (classAConsequence s c).flt.first = s.flt.first ∧
    (classAConsequence s c).flt.alarmsInHold = s.flt.alarmsInHold := by
  unfold classAConsequence; split <;> simp [placeAlarm]

/-- The leg after the consequences of a class-A fault (R152). -/
theorem classAConsequence_leg (s : State) (c : FaultCode) :
    (classAConsequence s c).pe.leg = if s.pe.leg.walking then .hold else s.pe.leg := by
  unfold classAConsequence
  by_cases h : (s.pe.leg.walking && s.pe.leg != .hold) = true
  · simp only [h, if_true, recordEvent_keeps, directHold_leg]
    simp only [Bool.and_eq_true, bne_iff_ne] at h
    simp only [h.1, if_true]
    rcases placeFrame_leg s (s.newFrame .alarm [c.code, BitVec.ofNat 8 s.pe.leg.code]) with hl | ⟨-, hl⟩
    · simp [placeAlarm, hl, h.1]
    · simp [placeAlarm, hl, LegState.walking]
  · simp only [h]
    cases hl : s.pe.leg <;> simp_all [LegState.walking]

/-- A report of a class-B fault leaves the Phase Engine as it is. -/
theorem reportFault_pe (s : State) (r : Report) (h : r.fault.classA = false) : (reportFault s r).pe = s.pe := by
  simp [reportFault, h]

/-- The leg after a report: a class-A fault puts a walking leg in HOLD, no other report moves the leg (R152). -/
theorem reportFault_leg (s : State) (r : Report) :
    (reportFault s r).pe.leg = if r.fault.classA && s.pe.leg.walking then .hold else s.pe.leg := by
  unfold reportFault
  cases h : r.fault.classA <;> simp [classAConsequence_leg]

/-- The flags, the conditions and the CLASH sources after a report (R150, steps 1 and 2). -/
theorem reportFault_flt (s : State) (r : Report) :
    (reportFault s r).flt.flags = s.flt.flags.set r.fault.idx true ∧
    (reportFault s r).flt.conds = s.flt.conds.set r.fault.idx true ∧
    (reportFault s r).flt.clashStation = (raiseCondition s r).flt.clashStation ∧
    (reportFault s r).flt.clashPosition = (raiseCondition s r).flt.clashPosition ∧
    (reportFault s r).flt.alarmsInHold = s.flt.alarmsInHold := by
  have hc := classAConsequence_flt (reportEvents s (latchFlag (raiseCondition s r) r.fault) r) r.fault
  unfold reportFault
  dsimp only
  split <;> simp_all <;> rfl

/-- The first-fault record after a report (R150, step 2). -/
theorem reportFault_first (s : State) (r : Report) :
    (reportFault s r).flt.first =
      if latched s r.fault then s.flt.first
      else some (s.flt.first.getD { code := r.fault, epoch := s.time.epoch }) := by
  have hc := classAConsequence_flt (reportEvents s (latchFlag (raiseCondition s r) r.fault) r) r.fault
  have hl : (latchFlag (raiseCondition s r) r.fault).flt.first =
      if latched s r.fault then s.flt.first
      else some (s.flt.first.getD { code := r.fault, epoch := s.time.epoch }) := by
    have : latched (raiseCondition s r) r.fault = latched s r.fault := rfl
    unfold latchFlag
    rw [this]
    split
    · rfl
    · show (match s.flt.first with | none => _ | some f => some f) = _
      cases s.flt.first <;> rfl
  unfold reportFault
  dsimp only
  split <;> simp_all

/-- The origin that a class-A report records, in a leg that is walking and claims nothing (R105). -/
theorem reportFault_origin (s : State) (r : Report) (h : r.fault.classA = true) (hw : s.pe.leg.walking = true)
    (hh : s.pe.leg ≠ .hold) (hc : s.pe.leg ≠ .claim) : (reportFault s r).pe.origin = some s.pe.leg := by
  have hp : ∀ (t : State) (f : TxFrame), t.pe.leg = s.pe.leg → (placeFrame t f).pe = t.pe :=
    fun t f ht => placeFrame_pe_of_ne t f (by rw [ht]; exact hc)
  simp only [reportFault, h, if_true, classAConsequence]
  simp [hw, hh, placeAlarm, hp, directHold, hc]

end Sys2Proof.Laws
end

