-- ==== Sys2Proof/Laws/Line.lean ====
section
/-! SUPPORT. The bits of byte fields sent back to back (R4), the levels the node drives (R2, R135), a glitch (R5), and the
terms of the statements beside the operations that compute them. -/

namespace Sys2Proof.Laws
open Sys2Proof Sys2Proof.Machine

/-! ## Bits on a line (R4) -/

@[simp] theorem byteField_length (b : Byte) : (byteField b).length = 10 := by simp [byteField]

@[simp] theorem lineBits_length (l : List Byte) : (lineBits l).length = 10 * l.length := by
  unfold lineBits; induction l with
  | nil => rfl
  | cons b l ih => simp only [List.flatMap_cons, List.length_append, ih, byteField_length, List.length_cons]; omega

/-- Bit k of a byte field: start bit, data most significant first, stop bit. -/
theorem byteField_getElem? (b : Byte) (k : Nat) (h : k < 10) :
    (byteField b)[k]? = some (if k = 0 then false else if k = 9 then true else b.getLsbD (8 - k)) := by
  interval_cases k <;> rfl

/-- Bit k of byte i stands at place 10 i + k. -/
theorem lineBits_getElem? (l : List Byte) (i k : Nat) (hk : k < 10) (hi : i < l.length) :
    (lineBits l)[10 * i + k]? = (byteField l[i])[k]? := by
  unfold lineBits
  induction l generalizing i with
  | nil => simp at hi
  | cons b l ih =>
    rw [List.flatMap_cons]
    cases i with
    | zero => rw [List.getElem?_append_left (by simp; omega)]; simp
    | succ i =>
      rw [List.getElem?_append_right (by simp; omega), byteField_length,
        show 10 * (i + 1) + k - 10 = 10 * i + k by omega, ih i (by simpa using hi)]
      simp

/-! ## The stride bus and the drive link (R2, R5, R135) -/

/-- Outside a frame of its own the node sends no bit, but for the rest of an aborted one (R21). -/
theorem sentBit_of_quiet (s : State) (h : transmitting s = false) :
    s.sentBit = if 0 < s.sbi.finishing then some false else none := by simp [State.sentBit, h]

/-- Outside a frame of its own the node drives the bus only to the end of an aborted dominant bit (R2, R21). -/
theorem drivesLine_of_quiet (s : State) (h : transmitting s = false) :
    s.drivesLine = decide (0 < s.sbi.finishing) := by
  by_cases e : 0 < s.sbi.finishing <;> simp [State.drivesLine, sentBit_of_quiet s h, e]

/-- What is left of the bit being sent is at least one microsecond, and at most a bit time (R4). -/
theorem bitRest_pos (s : State) : 0 < bitRest s ∧ bitRest s ≤ bitTimeUs s.sbi.rateCode := by
  have : 0 < bitTimeUs s.sbi.rateCode := by unfold bitTimeUs; split <;> [skip; split] <;> omega
  have := Nat.mod_lt s.sbi.txElapsed this
  unfold bitRest; omega

/-- The drive link is released while no Setpoint is on it. -/
theorem driveLevel_of_quiet (s : State) (q : Fin 4) (h : s.tu.sending = none) : s.driveLevel q = true := by
  simp [State.driveLevel, h]

@[simp] theorem setpoint_bytes_length (p : Setpoint) : p.bytes.length = 10 := rfl

@[simp] theorem sendSetpoint_line (s : State) : (sendSetpoint s).tu.setpoint.map Setpoint.bytes = some (sendSetpoint s).tu.line :=
  rfl

/-- A glitch changes no more than the engine's state and its measured times (R5). -/
theorem passGlitch_cases (s : State) (got : List Byte) :
    passGlitch s got = s ∨ (s.sbi.rx = .inFrame ∧ got = [] ∧ passGlitch s got = lineFree s) ∨
    passGlitch s got = notHeard s 0 := by
  unfold passGlitch; split <;> [simp; (split <;> simp_all)]

@[simp] theorem passGlitch_frame (s : State) (got : List Byte) :
    (passGlitch s got).time = s.time ∧ (passGlitch s got).setup = s.setup ∧ (passGlitch s got).pt = s.pt ∧
    (passGlitch s got).fsu = s.fsu ∧ (passGlitch s got).pe = s.pe ∧ (passGlitch s got).scu = s.scu ∧
    (passGlitch s got).tu = s.tu ∧ (passGlitch s got).txq = s.txq ∧ (passGlitch s got).flt = s.flt ∧
    (passGlitch s got).pending = s.pending ∧ (passGlitch s got).sbi.tx = s.sbi.tx ∧
    (passGlitch s got).sbi.counters = s.sbi.counters := by
  obtain h | ⟨-, -, h⟩ | h := passGlitch_cases s got <;> simp [h]

/-- At an abort only the receive engine's state and its measured times move, beside the abort itself (R5, R21). -/
@[simp] theorem followAborted_frame (s : State) :
    (followAborted s).time = s.time ∧ (followAborted s).setup = s.setup ∧ (followAborted s).pt = s.pt ∧
    (followAborted s).fsu = s.fsu ∧ (followAborted s).pe = s.pe ∧ (followAborted s).scu = s.scu ∧
    (followAborted s).tu = s.tu ∧ (followAborted s).txq = s.txq ∧ (followAborted s).flt = s.flt ∧
    (followAborted s).pending = s.pending ∧ (followAborted s).sbi.tx = s.sbi.tx ∧
    (followAborted s).sbi.finishing = s.sbi.finishing ∧ (followAborted s).sbi.counters = s.sbi.counters := by
  unfold followAborted; split <;> simp

/-! ## The terms of the statements -/

theorem clampInt_eq (lo hi v : Int) (h : lo ≤ hi) : clampInt lo hi v = max lo (min hi v) := by
  unfold clampInt; split
  · omega
  · split <;> omega

/-- A sane box clamps as `inBox` says (R128). -/
theorem clampBox_eq_inBox (s : State) (q : P3) (h : BoxSane s) : clampBox s q = inBox s q := by
  obtain ⟨hx, hy, hz⟩ := h
  simp only [clampBox, inBox, P3.mk.injEq]
  exact ⟨clampInt_eq _ _ _ (by omega), clampInt_eq _ _ _ (by omega), clampInt_eq _ _ _ (by omega)⟩

/-- The thresholds judge as `classByForce` says (R67). -/
theorem nextClass_eq (s : State) (c : Contact) (fz : Int) : nextClass s c fz = classByForce s c fz := by cases c <;> rfl

/-- The output before limiting (R64). -/
theorem filterRaw_eq (s : State) (l : Vector Half 16) : filterRaw s l = outputBefore s l := rfl

/-- The limited output (R65). -/
theorem limitOut_filterRaw (s : State) (l : Vector Half 16) : limitOut (filterRaw s l) = outputOf s l :=
  clampInt_eq _ _ _ (by omega)

/-- An output is limited when it lies outside 16 bits (R65). -/
theorem isLimited_eq (s : State) (l : Vector Half 16) : isLimited s l = outputLimited s l := by
  have e : (clampInt (-32768) 32767 (outputBefore s l) ≠ outputBefore s l) ↔
      (outputBefore s l < -32768 ∨ 32767 < outputBefore s l) := by
    unfold clampInt; split <;> [skip; split] <;> omega
  by_cases h : outputBefore s l < -32768 ∨ 32767 < outputBefore s l
  · simpa [isLimited, limitOut, outputLimited, filterRaw_eq, h] using e.mpr h
  · simpa [isLimited, limitOut, outputLimited, filterRaw_eq, h] using e

/-- A value divided by a positive unit and rounded half away from zero, where it fits 16 bits (R136, R139). -/
theorem roundHalfAway_roundsTo (u : Nat) (v : Int) (hu : 0 < u) (h : v.natAbs ≤ 32767 * u) :
    RoundsTo u (BitVec.ofInt 16 (roundHalfAway v u)) v := by
  obtain ⟨m, hm⟩ : ∃ m, m = (2 * v.natAbs + u) / (2 * u) := ⟨_, rfl⟩
  have low : 2 * (u * m) ≤ 2 * v.natAbs + u := by
    rw [← Nat.mul_assoc, hm]; exact Nat.mul_div_le _ _
  have high : 2 * v.natAbs + u < 2 * (u * m) + 2 * u := by
    have := Nat.lt_mul_div_succ (2 * v.natAbs + u) (show 0 < 2 * u by omega)
    rw [← hm, Nat.mul_add, Nat.mul_assoc] at this; omega
  have fits : m ≤ 32767 := by
    by_contra hc
    have : u * 32768 ≤ u * m := Nat.mul_le_mul_left u (by omega)
    omega
  have e : (BitVec.ofInt 16 (roundHalfAway v u)).toInt = if v < 0 then -(m : Int) else m := by
    rw [BitVec.toInt_ofInt]; unfold roundHalfAway Int.bmod; rw [← hm]; dsimp only; split <;> split <;> omega
  have e' : (u : Int) * m = ((u * m : Nat) : Int) := by push_cast; rfl
  unfold RoundsTo; rw [e]
  split
  · rw [Int.mul_neg, e']; omega
  · rw [e']; omega

/-- A coordinate rounded to 0.1 mm, where it fits 16 bits (R136). -/
theorem tenths_tenthsOf (v : Int) (h : v.natAbs ≤ 3276700) : TenthsOf (BitVec.ofInt 16 (tenths v)) v :=
  roundHalfAway_roundsTo 100 v (by omega) (by omega)

/-- A measured coordinate in whole millimetres (R139). -/
theorem footMm_roundsTo (v : Int) (h : v.natAbs ≤ 3276800) : RoundsTo 1000 (BitVec.ofInt 16 (footMm v)) v :=
  roundHalfAway_roundsTo 1000 v (by omega) (by omega)

end Sys2Proof.Laws
end

