-- ==== Sys2Proof/Laws/Peer.lean ====
section
/-! SUPPORT. What the report of a class-B fault records (R150). Reads of the Peer Table: a read marks at most the record it
reads, and changes of the rest of the node only the Fault Unit and the Transmit Queue (R53 to R55). -/

namespace Sys2Proof.Laws
open Sys2Proof Sys2Proof.Machine

/-! ## The event and the first-fault record of a report (R150, R158) -/

/-- Recording an event is one step of the log (R158). -/
theorem recordEvent_logs (s : State) (e : EventKind) (d : Byte) :
    Logs s (recordEvent s e d) [{ bit := e.categoryBit, code := e.code, detail := d }] := by
  have hr := recordEvent_ring s e d
  simp only [Logs, List.foldl_cons, List.foldl_nil, noteIn, hr.1, hr.2, recordOf]
  show _ = if eventAllowed s e = true then _ else _
  by_cases h : eventAllowed s e = true <;> by_cases h' : s.flt.ring.length < 16 <;> simp [h, h', ringMax]

/-- The code of a fault names it. -/
theorem fault_of_code (c : FaultCode) : (Note.fault { bit := 4, code := 0x01, detail := c.code }) = some c := by
  cases c <;> decide

/-- Of the event of one report, an empty first-fault record takes the fault if its flag was clear. -/
theorem firstAfter_latchNote (s : State) (c : FaultCode) :
    firstAfter s (latchNote s c) =
      if latched s c then s.flt.first else some (s.flt.first.getD { code := c, epoch := s.time.epoch }) := by
  unfold firstAfter latchNote latched
  cases h : s.flt.flags[c.idx] <;> cases hf : s.flt.first <;> simp [fault_of_code]
  exact h

/-- A report of a class-B fault other than PEER_SILENT records "fault latched" if the flag was clear, and its first-fault
record is that of this event (R150). -/
theorem reportFault_reported (s : State) (r : Report) (h : r.fault.classA = false) (hp : r.fault ≠ .peerSilent) :
    Reported s (reportFault s r) (latchNote s r.fault) := by
  refine ⟨?_, by rw [reportFault_first, firstAfter_latchNote]⟩
  have key (c : FaultCode) (t : State) (ht : t.flt.ring = s.flt.ring ∧ t.flt.lost = s.flt.lost ∧ t.pe = s.pe ∧
      t.setup = s.setup ∧ t.time = s.time) :
      Logs s (if latched s c then t else recordEvent t .faultLatched c.code) (latchNote s c) := by
    obtain ⟨h1, h2, h3, h4, h5⟩ := ht
    cases hl : s.flt.flags[c.idx]
    · have := recordEvent_logs t .faultLatched c.code
      simp only [Logs, List.foldl_cons, List.foldl_nil, noteIn, letIn, State.eventMask, h1, h2, h3, h4, h5] at this
      have hn : latchNote s c = [{ bit := 4, code := 0x01, detail := c.code }] := by simp [latchNote, hl]
      rw [hn, if_neg (by simp [latched, hl])]
      exact this
    · simp [latched, hl, latchNote, Logs, h1, h2]
  have hk (c : FaultCode) : _ := key c (latchFlag (raiseCondition s r) c)
    ⟨(latchFlag_apply _ _).2.2.2.1, (latchFlag_apply _ _).2.2.2.2.1, by unfold latchFlag; split <;> rfl,
      by unfold latchFlag; split <;> rfl, by unfold latchFlag; split <;> rfl⟩
  cases r with
  | plain c =>
    simp only [reportFault, h, reportEvents]
    exact hk c
  | filterLimit a => exact hk .filterLimit
  | workspaceClamp a => exact hk .workspaceClamp
  | peerSilent n => exact absurd rfl hp
  | _ => exact absurd h (by simp [Report.fault, FaultCode.classA, FaultCode.idx])

/-! ## A read -/

/-- Whether a read of a station's record sets its stale mark (R53). -/
def marks (s : State) (n : Fin 8) : Bool :=
  match s.record n with
  | some r => !r.stale && decide (staleLimit s r < ageOf s r.tag)
  | none => false

/-- A record with its stale mark set. -/
def marked (r : Option Record) : Option Record := r.map fun r => { r with stale := true }

@[simp] theorem reportFault_pt (s : State) (r : Report) : (reportFault s r).pt = s.pt := (reportFault_frame s r).2.2.2.1

@[simp] theorem raiseSilence_pe (s : State) (n : Fin 8) (p : Part) : (raiseSilence s n p).pe = s.pe := by
  unfold raiseSilence
  split <;> simp [reportFault_pe, Report.fault, FaultCode.classA, FaultCode.idx]

@[simp] theorem raiseSilence_records (s : State) (n : Fin 8) (p : Part) :
    (raiseSilence s n p).pt.records = s.pt.records := by
  unfold raiseSilence; split <;> simp

/-- The records after a read: the record read is marked, or nothing changes (R53). -/
theorem judge_records (s : State) (n : Fin 8) :
    (judge s n).pt.records =
      if marks s n then s.pt.records.set n (marked (s.record n)) else s.pt.records := by
  unfold judge marks
  rcases h : s.record n with _ | r
  · simp
  · cases hs : r.stale
    · by_cases ha : staleLimit s r < ageOf s r.tag <;> simp [hs, ha, setRecord, marked]
    · simp [hs]

@[simp] theorem judge_pe (s : State) (n : Fin 8) : (judge s n).pe = s.pe := by
  unfold judge
  (repeat' split) <;> simp

@[simp] theorem judgeAt_pe (s : State) (p : LegPos) : (judgeAt s p).pe = s.pe := by
  unfold judgeAt; split <;> simp

@[simp] theorem judgeRole_pe (s : State) (r : Role) : (judgeRole s r).pe = s.pe := by
  unfold judgeRole; split <;> simp

/-- Reading records one after another keeps what each read keeps. -/
theorem foldl_keeps {α β : Type} (f : State → α → State) (g : State → β) (h : ∀ s a, g (f s a) = g s) (l : List α)
    (s : State) : g (l.foldl f s) = g s := by
  induction l generalizing s with
  | nil => rfl
  | cons a l ih => rw [List.foldl_cons, ih, h]

@[simp] theorem judgeLegs_pe (s : State) : (judgeLegs s).pe = s.pe := by
  unfold judgeLegs
  apply foldl_keeps (g := State.pe)
  intro t n; split <;> simp

@[simp] theorem judgeExclusive_pe (s : State) : (judgeExclusive s).pe = s.pe := by
  unfold judgeExclusive
  exact foldl_keeps _ State.pe (fun t p => judgeAt_pe t p) _ _

@[simp] theorem conditions_pe (s : State) :
    (condTurn s).1.pe = s.pe ∧ (condFresh s).1.pe = s.pe ∧ (condNeighbour s).1.pe = s.pe ∧
    (condSlip s).1.pe = s.pe ∧ (condBody s).1.pe = s.pe := by
  refine ⟨?_, by simp [condFresh], by simp [condNeighbour], by simp [condSlip], by simp [condBody]⟩
  unfold condTurn; (repeat' split) <;> simp

/-- The tests of R86 leave the Phase Engine as it is: the caller writes the wait reason. -/
@[simp] theorem liftConditions_pe (s : State) : (liftConditions s).1.pe = s.pe := by
  simp only [liftConditions, andThen_fst]; (repeat' split) <;> simp

@[simp] theorem nearbyTests_pe (s : State) : (nearbyTests s).1.pe = s.pe := by
  unfold nearbyTests; dsimp only; split <;> simp

/-! ## What a read never changes in a record -/

/-- The role part of a station's record, if it is present. -/
def partOf (s : State) (n : Fin 8) : Option Part := (s.record n).map Record.part

/-- A read changes no part: the ageing read only looks (R55). -/
@[simp] theorem judge_part (s : State) (n m : Fin 8) : partOf (judge s n) m = partOf s m := by
  simp only [partOf, State.record, judge_records]
  split
  · simp only [Fin.getElem_fin, Vector.getElem_set]
    split
    · rename_i h
      have : n = m := Fin.ext h
      subst this
      simp only [marked, Option.map_map]
      rfl
    · rfl
  · rfl

/-- The leg part of a record depends on its part only. -/
theorem legOf_eq (s : State) (n : Fin 8) :
    s.legOf n = (partOf s n).bind fun p => match p with | .leg l => some l | _ => none := by
  simp only [State.legOf, partOf]
  cases s.record n <;> rfl

@[simp] theorem judge_legOf (s : State) (n m : Fin 8) : (judge s n).legOf m = s.legOf m := by
  rw [legOf_eq, legOf_eq, judge_part]

/-! ## Judged records -/

/-- Judging a state moves its records alone. -/
@[simp] theorem aged_apply (s : State) :
    (aged s).time = s.time ∧ (aged s).sbi = s.sbi ∧ (aged s).setup = s.setup ∧ (aged s).fsu = s.fsu ∧ (aged s).pe = s.pe ∧
      (aged s).scu = s.scu ∧ (aged s).tu = s.tu ∧ (aged s).txq = s.txq ∧ (aged s).flt = s.flt ∧
      (aged s).pending = s.pending := by simp [aged]

/-- A judged record is the one held, with its mark set when it is older than its limit (R53). -/
@[simp] theorem aged_record (s : State) (n : Fin 8) :
    (aged s).record n = (s.record n).map fun r =>
      { r with stale := r.stale || decide (staleLimit s r < (s.time.us - r.tag).toNat) } := by
  simp [aged, State.record]

/-- Where no read would mark a record, judging changes nothing. -/
theorem aged_of_unmarked {s : State} (h : ∀ n, ¬ ReadMarks s n) : aged s = s := by
  have key (n : Fin 8) (r : Record) (hr : s.record n = some r) :
      { r with stale := r.stale || decide (staleLimit s r < (s.time.us - r.tag).toNat) } = r := by
    have hs : (r.stale || decide (staleLimit s r < (s.time.us - r.tag).toNat)) = r.stale := by
      cases hr' : r.stale with
      | true => rfl
      | false =>
        have hn : ¬ staleLimit s r < (s.time.us - r.tag).toNat := fun ha => h n ⟨r, hr, hr', ha⟩
        simp only [hn, decide_false, Bool.or_false]
    rw [hs]
  have hr : (aged s).pt.records = s.pt.records := by
    refine Vector.ext fun i hi => ?_
    show (s.pt.records.map _)[i] = _
    rw [Vector.getElem_map]
    cases ho : s.pt.records[i] with
    | none => rfl
    | some r => exact congrArg some (key ⟨i, hi⟩ r ho)
  show { s with pt := { s.pt with records := (aged s).pt.records } } = s
  rw [hr]

end Sys2Proof.Laws
end

