-- ==== Sys2Proof/WellFormed.lean ====
section
/-! DEFINITION. Which commands are well formed: the operands are what the row's own event can carry, as far as the operands
alone can tell (what depends on the state is judged by the meaning). -/

namespace Sys2Proof

/-- The well-formedness check of a command. -/
def WellFormed : Instr → Bool
  | .framingError _ got field => framingEnd got field || glitchField got field
  | .truncation _ got => partialFrame got
  | .claimParityError _ c => badParity c
  | .unknownKind _ c => unknownClaim c
  | .checkError _ f => f.complete && !f.checkAgrees
  | .stationClash _ f => f.good
  | .setupFrame _ f => goodOfKind .setup f
  | .alarmReceived _ f => goodOfKind .alarm f
  | .phaseNoticeReceived _ f => goodOfKind .phaseNotice f
  | .legReportReceived _ f => goodOfKind .legReport f
  | .bodyReportReceived _ f => goodOfKind .bodyReport f
  | .intentReceived _ f => goodOfKind .intent f
  | .infoFrameReceived _ f => infoFrame f
  | .start _ f => controlOf 1 f
  | .restart _ f => controlOf 2 f
  | .resume _ f => controlOf 3 f
  | .clearFaults _ f => controlOf 4 f
  | .query _ f => controlOf 5 f
  | .eventTest _ f => controlOf 6 f
  | .forceSampleGood _ l => forceFrame false l
  | .forceSampleUnfit _ l => forceFrame true l
  | .forceSampleBad _ e => badForce e
  | .statusReply _ l => statusFrame l
  | .badReply _ e =>
    linkFailed statusFields e || (match e with | .whole l => l.length == statusFields | _ => false)
  | .fullReset _ _ | .interframeSpace _ | .txBegin _ _ | .arbitrationLoss _ _ | .txAbort _ _ | .txCompletion _
  | .sbiClashWatchExpiry _ | .busStuck _ | .ageingRead _ | .ptClashWatchExpiry _ | .footLinkLost _ | .setpointEnd _
  | .answerWindowClose _ | .controlPeriodExpiry _ | .supportCheckResult _ | .claimTimerExpiry _ | .unloadTimerExpiry _
  | .footholdTimerExpiry _ | .loadTimerExpiry _ | .slipTimerExpiry _ | .epochTick _ | .footLinkIdle _
  | .driveLinkIdle _ => true

end Sys2Proof
end

