-- ==== Sys2Proof/Tests/Slice0.lean ====
section
/-! SUPPORT. The model's own tests: the smoke test of WellFormed, the worked cases of the spec, steps
of its worked sequences, and a witness for the hypotheses of each statement. Expected values come from the spec's worked cases and tables, or
are computed from its rules by hand. -/

namespace Sys2Proof.Tests
open Sys2Proof Sys2Proof.Machine

-- One theorem after another: side by side, each waits in a thread of its own for the kernel.
set_option Elab.async false

/-! ## Helpers -/

/-- The next state of an outcome; `State.reset` where there is none, which no command answers. -/
def after (o : Host.Outcome State Fault Refusal) : State :=
  match o with
  | .next s => s
  | .fault _ => State.reset
  | .refused _ => State.reset

/-- The frame that a station sends: claim byte, payload and check by R9 and R11. -/
def frameOf (k : FrameKind) (src : Fin 8) (payload : List Byte) : RxFrame :=
  let c := claimByte k src
  { claim := c, payload := payload, check2 := checkC2 (c :: payload), check1 := checkC1 (c :: payload) }

/-- The bytes of a local link's frame: the data and their check (R61, R135). -/
def linkBytes (data : List Byte) : List Byte := data ++ [checkC2 data, checkC1 data]

/-- The 54 parameter words of station 2 at LF; the roster 0x9D50 is that of section 2.3 of the spec: LEG at 2, 3, 4 and 6,
MISSION at 5, BODY at 7. -/
def wordList : List Int :=
  [0, 0x9D50, 300, 180, -520, 150, 450, 60, 300, -650, -300, 40, 30, 60, 100, 100, 400, 60, 40, 64, 3, 100, 3] ++
  [8192, 8192, 8192, 8192, 0, 0, 0, 0, 0, 0, 0, 0, 0, 0, 0, 0] ++
  [100, 20, 10, 50, 12, 40, 100, 30, 1, 40, 100, 200, 300, 63, 500]

/-- Those words as the Setup Block holds them. -/
def wordsOf (l : List Int) : Vector Half 54 := Vector.ofFn fun i => BitVec.ofInt 16 (l.getD i.val 0)

/-- Station 2 in READY with an idle line and idle links, started, nothing latched, 2 s after full reset. -/
def ready : State :=
  { State.resetWith 2 2 with
    time := { us := 2000000#32, epoch := 1000#16, epochTimer := some 500 }
    sbi := { Sbi.reset 2 2 with rx := .idle, recessive := 11 }
    setup := { SetupBlock.reset with words := wordsOf wordList, ptr := 54 }
    fsu := { FootSense.reset with link := .idle, watch := some 1000, refill := 17, contact := .loaded }
    pe := { PhaseEngine.reset with leg := .ready, period := some 2000 }
    tu := { Trajectory.reset with
      p := { x := 300000, y := 180000, z := -520000 }, measured := { x := 300000, y := 180000, z := -520000 }
      tag := 7#8, lastZ := some (-520000), priorZ := some (-520000), started := true, link := .idle } }

/-- The same node with its leg in another state, under CRAWL. -/
def walking (l : LegState) : State :=
  { ready with pe := { ready.pe with leg := l, applied := { gait := .crawl, cycle := 2000, step := 80 } } }

/-- A LEG part in STANCE and LOADED. -/
def standingLeg (p : LegPos) (x y : Int) : LegPart :=
  { LegPart.empty p with
    state := .stance, contact := .loaded, steps := 10#8, footX := BitVec.ofInt 16 x, footY := BitVec.ofInt 16 y }

/-- A fresh record. -/
def freshRecord (p : Part) : Option Record := some { tag := 1990000#32, stale := false, guard := false, part := p }

/-- The effective intent CRAWL at 100 mm/s, as stored. -/
def crawlIntent : MissionPart :=
  { gait := .crawl, vx := 100, vy := 0, omega := 0, cycle := 2000, step := 80, offset := 0, seq := 17#8, clampSet := 0#8 }

/-- The records of section 6.4's worked case: RF, LH and RH standing, the body at (-20, -10), and a CRAWL intent. -/
def table : Vector (Option Record) 8 :=
  Vector.ofFn fun i : Fin 8 =>
    match i.val with
    | 3 => freshRecord (.leg (standingLeg .rf 320 (-180)))
    | 4 => freshRecord (.leg (standingLeg .lh (-300) 180))
    | 5 => freshRecord (.mission crawlIntent)
    | 6 => freshRecord (.leg (standingLeg .rh (-300) (-180)))
    | 7 => freshRecord (.body { comX := BitVec.ofInt 16 (-20), comY := BitVec.ofInt 16 (-10), pitch := 0#16, roll := 0#16 })
    | _ => none

/-- A state with that table. -/
def withTable (s : State) : State := { s with pt := { s.pt with records := table } }

/-! ## WellFormed refuses an ill-formed term at each check -/

/-- A Force Sample frame with sensor-fault bit 0. -/
def sampleBytes : List Byte := linkBytes [0#8, 0#8, 0#8, 0#8, 0x01#8, 0x90#8, 0#8]
/-- A Force Sample frame with sensor-fault bit 1. -/
def unfitBytes : List Byte := linkBytes [0#8, 0#8, 0#8, 0#8, 0x01#8, 0x90#8, 0x80#8]
/-- A Status frame: tag 7, OK, measured (3000, 1800, −5200) in 0.1 mm. -/
def statusBytes : List Byte := linkBytes [7#8, 0#8, 0x0B#8, 0xB8#8, 0x07#8, 0x08#8, 0xEB#8, 0xB0#8]
/-- An Alarm of station 3 with cause 0x04 and detail 0, the first worked case of section 1.4. -/
def alarmFrame : RxFrame := frameOf .alarm 3 [4#8, 0#8]
/-- Thirty samples of a byte field of zeros whose stop bit reads dominant. -/
def dominantField : Samples := 0#30

theorem test_wf_framing : WellFormed (.framingError 0 [] dominantField) = false := by decide
/-- A byte field whose start bit reads recessive is a glitch, which the row carries; an accepted one is not (R5). -/
theorem test_wf_glitch :
    WellFormed (.framingError 0 [] 7#30) && !WellFormed (.framingError 0 [] (BitVec.ofNat 30 0b111111111111000111000000000000)) := by
  decide
theorem test_wf_truncation : WellFormed (.truncation 0 []) = false := by decide
theorem test_wf_parity : WellFormed (.claimParityError 0 0x17#8) = false := by decide
theorem test_wf_unknown : WellFormed (.unknownKind 0 0x17#8) = false := by decide
theorem test_wf_check : WellFormed (.checkError 0 alarmFrame) = false := by decide
theorem test_wf_good : WellFormed (.stationClash 0 { alarmFrame with check1 := 0#8 }) = false := by decide
theorem test_wf_kind : WellFormed (.legReportReceived 0 alarmFrame) = false := by decide
theorem test_wf_info : WellFormed (.infoFrameReceived 0 alarmFrame) = false := by decide
theorem test_wf_control : WellFormed (.start 0 (frameOf .control 5 [2#8, 2#8, 0#8])) = false := by decide
theorem test_wf_force : WellFormed (.forceSampleGood 0 unfitBytes) = false := by decide
theorem test_wf_unfit : WellFormed (.forceSampleUnfit 0 sampleBytes) = false := by decide
theorem test_wf_bad : WellFormed (.forceSampleBad 0 (.whole sampleBytes)) = false := by decide
theorem test_wf_status : WellFormed (.statusReply 0 sampleBytes) = false := by decide
theorem test_wf_reply : WellFormed (.badReply 0 (.whole sampleBytes)) = false := by decide
theorem test_wf_accepts : WellFormed (.alarmReceived 0 alarmFrame) && WellFormed (.statusReply 0 statusBytes) := by decide

/-! ## Worked cases of chapter 1 -/

/-- Section 1.4, first case: the frame on the line is 17 04 00 4D 1B. -/
theorem test_check_alarm :
    TxFrame.line { claim := claimByte .alarm 3, payload := [4#8, 0#8], locked := false } =
      [0x17#8, 0x04#8, 0x00#8, 0x4D#8, 0x1B#8] := by decide

/-- Section 1.4, second case: the Lift Notice of station 2 is 24 12 01 05 FF 0A 3C. -/
theorem test_check_lift :
    TxFrame.line { (walking .claim).noticeFrame .lift 0xFF#8 with
      payload := [0x12#8, 0x01#8, 0x05#8, 0xFF#8] } =
      [0x24#8, 0x12#8, 0x01#8, 0x05#8, 0xFF#8, 0x0A#8, 0x3C#8] := by decide

/-- The claim byte of a Leg Report of station 1 (section 1.6) and of a Lift Notice of station 3 (section 6.1). -/
theorem test_claim_bytes : claimByte .legReport 1 = 0x33#8 ∧ claimByte .phaseNotice 3 = 0x27#8 := by decide

/-- R5: a byte field of 0x17 is accepted; with its stop bit dominant it is a framing error. -/
theorem test_read_field :
    readField (BitVec.ofNat 30 0b111111111111000111000000000000) = .accepted 0x17#8 ∧
      readField (BitVec.ofNat 30 0b000111111111000111000000000000) = .framing 0x17#8 := by decide

/-- R4 and section 1.4: the byte field of 0x17 is a 0, the bits 0001 0111, and a 1, each for one bit time of 1 µs. -/
theorem test_line_level :
    let s := { ready with txq := { ready.txq with frames := [{ claim := 0x17#8, payload := [4#8, 0#8], locked := false }] } }
    (List.range 10).map (fun d => (elapse (after (exec (.txBegin 0 false) s)) d).sentBit) =
      [false, false, false, false, true, false, true, true, true, true].map some := by decide +kernel

/-- R5: a glitch between two byte fields starts the recessive time again. -/
theorem test_glitch :
    (after (exec (.framingError 1 [] 7#30) { ready with sbi := { ready.sbi with rx := .waitIdle, recessive := 3 } })).sbi.recessive =
      0 := by decide +kernel

/-- A node that listens after a deferral: another station's start edge came first (R19). -/
def deferring : State := after (exec (.txBegin 0 true) { ready with txq := { ready.txq with frames := [
  { claim := 0x17#8, payload := [4#8, 0#8], locked := false }] } })

/-- R5: where that edge was a glitch the engine is in IDLE again and its own frame begins; after a byte it stays in the
frame. -/
theorem test_glitch_idle :
    deferring.sbi.rx = .inFrame ∧ (after (exec (.framingError 1 [] 7#30) deferring)).sbi.rx = .idle ∧
      (after (exec (.txBegin 0 false) (after (exec (.framingError 1 [] 7#30) deferring)))).sbi.tx = .arbitrating ∧
      (after (exec (.framingError 1 [0x17#8] 7#30) deferring)).sbi.rx = .inFrame := by decide +kernel

/-- R21: with bits of 4 µs, an abort 6 µs into the frame leaves 2 µs of its dominant bit to be driven. -/
theorem test_abort_finishes_bit :
    let s := { ready with sbi := { ready.sbi with rateCode := 0 }, txq := { ready.txq with frames := [
      { claim := 0x17#8, payload := [4#8, 0#8], locked := false }] } }
    let t := after (exec (.txAbort 6 false) (after (exec (.txBegin 0 false) s)))
    t.sbi.tx = .idle ∧ t.sbi.rxAborted = true ∧ t.drivesLine = true ∧ (elapse t 1).drivesLine = true ∧
      (elapse t 2).drivesLine = false := by decide +kernel

/-- R5 and R21: the own start bit read recessive aborts the frame and was a glitch: the engine is in IDLE. -/
theorem test_abort_start_bit :
    let s := { ready with txq := { ready.txq with frames := [
      { claim := 0x17#8, payload := [4#8, 0#8], locked := false }] } }
    let t := after (exec (.txAbort 0 false) (after (exec (.txBegin 0 false) s)))
    t.sbi.rx = .idle ∧ t.sbi.rxAborted = false ∧ t.sbi.counters.txError = 1#8 ∧ t.drivesLine = true := by decide +kernel

/-! ## Worked cases of chapters 2 and 3 -/

/-- Section 2.4: adjustments 22, 42, 16 and 41; count 4, first index 22. -/
theorem test_setup_clamps :
    let b := settleWords { SetupBlock.reset with
      words := wordsOf ((((((wordList.set 15 400).set 16 300).set 22 20).set 40 20).set 41 30).set 42 5), ptr := 54 } 2
    b.clampCount = 4#8 ∧ b.firstClamped = some 22 ∧ b.words[16] = 400#16 ∧ b.words[22] = 15#16 ∧
      b.words[41] = 10#16 ∧ b.words[42] = 10#16 := by decide +kernel

/-- Section 2.2: index 4 with the pointer at 3 is refused. -/
theorem test_setup_order :
    let s := { State.resetWith 2 2 with
      setup := { SetupBlock.reset with ptr := 3 }, sbi := { Sbi.reset 2 2 with rx := .idle } }
    let t := after (exec (.setupFrame 0 (frameOf .setup 5 [2#8, 4#8, 0xFF#8, 0x4C#8])) s)
    t.setup.ptr = 3 ∧ t.setup.refused = 1#8 := by decide +kernel

/-- Section 3.3, first Intent: vx 150 and cycle 600, clamp set 0x09. -/
theorem test_intent_clamp :
    let m := decodeIntent
      (frameOf .intent 5 [1#8, 0#8, 200#8, 0xFF#8, 0xE2#8, 0#8, 0#8, 0x01#8, 0xF4#8, 80#8, 0#8, 17#8])
    m.vx = 150 ∧ m.vy = -30 ∧ m.cycle = 600 ∧ m.step = 80 ∧ m.seq = 17#8 ∧ m.clampSet = 0x09#8 := by decide

/-- Section 3.3, third Intent: DIAGONAL keeps vx 200, clamp set 0x08. -/
theorem test_intent_diagonal :
    let m := decodeIntent
      (frameOf .intent 5 [2#8, 0#8, 200#8, 0xFF#8, 0xE2#8, 0#8, 0#8, 0x01#8, 0xF4#8, 80#8, 0#8, 19#8])
    m.vx = 200 ∧ m.cycle = 600 ∧ m.clampSet = 0x08#8 := by decide

/-! ## Worked cases of chapter 4 -/

/-- A delay line with the given newest entries. -/
def lineOf (l : List Int) : Vector Half 16 := Vector.ofFn fun i => BitVec.ofInt 16 (l.getD i.val 0)

/-- Section 4.3: 402 from 401, 405, 402, 400; sums of 210 and −210 give 53 and −52. -/
theorem test_filter :
    filterRaw ready (lineOf [401, 405, 402, 400]) = 402 ∧ filterRaw ready (lineOf [210]) = 53 ∧
      filterRaw ready (lineOf [-210]) = -52 := by decide +kernel

/-- Section 4.3: 59 998 is limited to 32767. -/
theorem test_filter_limit :
    let s := { ready with setup := { ready.setup with
      words := ((ready.setup.words.set 22 1#16).set 23 32767#16).set 24 32767#16 } }
    filterRaw s (lineOf [30000, 30000]) = 59998 ∧ limitOut 59998 = 32767 ∧
      isLimited s (lineOf [30000, 30000]) = true := by decide +kernel

/-- Section 4.8, samples 1 to 5: AIR, TOUCH, TOUCH, LOADED, LOADED. -/
theorem test_contact_classes :
    nextClass ready .air 53 = .air ∧ nextClass ready .air 115 = .touch ∧ nextClass ready .touch 238 = .touch ∧
      nextClass ready .touch 410 = .loaded ∧ nextClass ready .loaded 590 = .loaded := by decide

/-- Section 4.5: Ft of the five samples. -/
theorem test_tangential :
    tangential 120 (-50) = 145 ∧ tangential 130 (-50) = 155 ∧ tangential 135 (-60) = 165 ∧
      tangential 128 (-53) = 154 ∧ tangential 110 (-40) = 130 := by decide

/-! ## Worked cases of chapters 5 and 6 -/

/-- Section 5.4: T_st, T_sw and Δ of CRAWL and of DIAGONAL at 2000 ms. -/
theorem test_applied :
    (Applied.mk .crawl 2000 80).tSt = 1500 ∧ (Applied.mk .crawl 2000 80).tSw = 500 ∧
      (Applied.mk .crawl 2000 80).delta = 65 ∧ (Applied.mk .diagonal 2000 80).tSw = 1000 ∧
      (Applied.mk .stand 4000 80).delta = 32 ∧ (Applied.mk .stand 600 80).delta = 218 := by decide

/-- Section 6.4: margin 23, request (−60, −50); P at (50, 50) gives −64. -/
theorem test_triangle :
    triangleTest ⟨320, -180⟩ ⟨-300, 180⟩ ⟨-300, -180⟩ ⟨-20, -10⟩ 40 60 =
        { pass := false, reason := .margin, n := 3, margin := 23, sway := some ⟨-60, -50⟩ } ∧
      (triangleTest ⟨320, -180⟩ ⟨-300, 180⟩ ⟨-300, -180⟩ ⟨50, 50⟩ 40 60).margin = -64 := by decide +kernel

/-- Section 6.5: margins 17 and 0 pass, −5 fails. -/
theorem test_corridor :
    ((corridorTest ⟨300, -170⟩ ⟨-300, 170⟩ ⟨10, -20⟩ 30).margin = 17 ∧
      (corridorTest ⟨300, -170⟩ ⟨-300, 170⟩ ⟨10, -40⟩ 30).pass = true) ∧
      corridorTest ⟨300, -170⟩ ⟨-300, 170⟩ ⟨10, -45⟩ 30 =
        { pass := false, reason := .margin, n := 2, margin := -5, sway := none } := by decide +kernel

/-- Section 6.6: the units of the request, and the step of 200 µm on each axis. -/
theorem test_sway :
    swayUnit (-60) = -30 ∧ swayUnit (-50) = -25 ∧ swayStep ready (some ⟨-60, -50⟩) = ⟨200, 200⟩ := by decide

/-! ## Worked cases of chapter 7 -/

/-- Section 7.2: stance with yaw moves −128, −128. -/
theorem test_stance_yaw :
    stanceStep { standingDefault with gait := .crawl, vx := 100, omega := 200 } ⟨320000, 180000, -520000⟩ =
      ⟨-128, -128⟩ := by decide

/-- Section 7.4: 58 368 at the stub, 87 552 and 88 542 of the new apex, d(61) = 10 759. -/
theorem test_stub :
    profileHeight 80000 250 60 = 58368 ∧ profileHeight 120000 250 60 = 87552 ∧ profileHeight 120000 250 61 = 88542 ∧
      stubCorrection { ready with tu := { ready.tu with
        plan := { SwingPlan.reset with kEnd := 250 }
        stub := { z := 0, k := 60, d0 := 10816, j := 25 } } } 61 = 10759 := by decide +kernel

/-- R133: the displacement of the rise is (−26 470, −14 117). -/
theorem test_replace :
    let r := risePath { ready with
      tu := { ready.tu with p := ⟨395000, 220000, -500000⟩ }
      setup := { ready.setup with words := ready.setup.words.set 2 320#16 } }
    r.dx = -26470 ∧ r.dy = -14117 := by decide +kernel

/-- R135: POSITION, tag 8, 300.0, 180.0 and −520.0 mm; the sums of R11 over the eight bytes are C2 = 218 and C1 = 120. -/
theorem test_setpoint_bytes :
    (after (exec (.controlPeriodExpiry 2000) (walking .hold))).tu.line =
      [0x01#8, 0x08#8, 0x0B#8, 0xB8#8, 0x07#8, 0x08#8, 0xEB#8, 0xB0#8, 0xDA#8, 0x78#8] := by decide +kernel

/-- R139: −1.2 mm is −1 mm and −1.5 mm is −2 mm. -/
theorem test_round : footMm (-1200) = -1 ∧ footMm (-1500) = -2 := by decide

/-! ## States in which the hypotheses of the statements hold -/

/-- Every value of an option has a property that a check of the option says it has. -/
theorem of_option {α : Type} {o : Option α} {P : α → Prop} [DecidablePred P] (h : o.all (fun a => decide (P a)) = true) :
    ∀ a, o = some a → P a := by
  intro a ha; subst ha; simpa using h

/-- No read of a state marks a record whose age is within its limit, or that is marked already. -/
theorem unmarked {s : State}
    (h : ∀ n, (s.record n).all (fun r => r.stale || decide (ageOf s r.tag ≤ staleLimit s r)) = true) :
    ∀ n, ¬ ReadMarks s n := by
  rintro n ⟨r, hr, hs, ha⟩
  have := h n
  rw [hr] at this
  simp [hs] at this
  omega

/-- The node with its table of peers, its leg in a state. -/
def standing (l : LegState) : State := withTable (walking l)

/-- A Control frame of MISSION to this node. -/
def order (code detail : Byte) : RxFrame := frameOf .control 5 [2#8, code, detail]

/-- The node's own Lift Notice, locked or not. -/
def liftFrame (locked : Bool) : TxFrame :=
  { claim := claimByte .phaseNotice 2, payload := [0x12#8, 1#8, 5#8, 0xFF#8], locked := locked }

/-- In CLAIM, φ at β, the claim timer due, with the notice waiting. -/
def claiming (locked : Bool) : State :=
  let s := standing .claim
  { s with pe := { s.pe with phi := 49152#16, claimT := some 0 }, txq := { s.txq with frames := [liftFrame locked] } }

/-- The same while the notice is on the line, `tx` the transmit side's state and `t` µs into the frame. -/
def sendingLift (tx : TxState) (t : Nat) : State :=
  let s := claiming true
  { s with sbi := { s.sbi with rx := .inFrame, tx := tx, txElapsed := t, attempt := some (liftFrame true) } }

/-- A queue with a place less than full: six Phase Notices. -/
def sixNotices : List TxFrame := List.replicate 6 { liftFrame false with payload := [0x0A#8, 3#8, 5#8, 0xFF#8] }

/-- A state with some fault latched. -/
def faulty (s : State) (c : FaultCode) : State :=
  { s with flt := { s.flt with flags := s.flt.flags.set c.idx true, conds := s.flt.conds.set c.idx true } }

/-- In STANCE, ready to claim when a check passes: φ at β, the predecessor has stepped, the foot loaded. -/
def aboutToClaim : State :=
  let s := standing .stance
  { s with
    pe := { s.pe with phi := 49152#16, turn := some 9#8, checkPending := true }
    scu := { s.scu with
      checking := true
      inFlight := some
        { own := .lf, gait := .crawl, com := ⟨-180, -80⟩
          feet := [⟨.rf, ⟨320, -180⟩⟩, ⟨.lh, ⟨-300, 180⟩⟩, ⟨.rh, ⟨-300, -180⟩⟩] } } }

/-- A node in SETUP that hears, its pointer at `k`. -/
def inSetup (k : Nat) : State :=
  let s := State.resetWith 2 2
  { s with sbi := { s.sbi with rx := .idle }, setup := { s.setup with words := wordsOf wordList, ptr := k } }

/-- A Setup frame to this node. -/
def setupWord (i : Byte) (w : Half) : RxFrame := frameOf .setup 5 [2#8, i, hiByte w, loByte w]

/-- In SWING, just before the middle of a plan of 250 periods. -/
def swinging : State :=
  let s := standing .swing
  { s with
    tu := { s.tu with plan := { startX := 300000, startY := 180000, targetX := 350000, targetY := 180000, z0 := -520000
                                h := 80000, kEnd := 250, k := 100 } }
    pe := { s.pe with footholdT := some 0 }
    fsu := { s.fsu with contact := .air } }

/-- In SEARCH, descending, the foothold timer due. -/
def searching (attempts : Nat) : State :=
  let s := standing .search
  { s with pe := { s.pe with footholdT := some 0, attempts := attempts }, fsu := { s.fsu with contact := .air } }

/-- The node with its table and an answer window open. -/
def asking (l : LegState) : State :=
  let s := standing l
  { s with tu := { s.tu with window := some 400 } }

/-- A Leg Report of a peer at a position, standing and loaded. -/
def reportOf (src : Fin 8) (pos : LegPos) : RxFrame :=
  frameOf .legReport src
    [BitVec.ofNat 8 (pos.code * 64 + 10), 0x80#8, 0#8, 11#8, 0x01#8, 0x40#8, 0xFF#8, 0x4C#8, 0xFD#8, 0xF8#8, 0#8, 0#8, 0#8]

/-- A Phase Notice of a peer. -/
def noticeOf (src : Fin 8) (pos : LegPos) (state code named : Byte) : RxFrame :=
  frameOf .phaseNotice src [BitVec.ofNat 8 (pos.code * 64) ||| state, code, 11#8, named]

/-! ## Steps of the worked sequences of sections 5.15, 7.6, 8.1 and 9.9 -/

/-- Code and detail of each record of the ring. -/
def ringOf (s : State) : List (Byte × Byte) := s.flt.ring.map fun r => (r.code, r.detail)

/-- Section 9.9, epoch 7000: the third miss in SWING. -/
theorem test_lost_drive :
    let s := asking .swing
    let t := after (exec (.answerWindowClose 400) { s with tu := { s.tu with misses := 2#8 } })
    ringOf t = [(0x01#8, 0x02#8), (0x03#8, 4#8)] ∧ t.pe.leg = .hold ∧ t.pe.origin = some .swing ∧
      t.flt.first = some { code := .driveLost, epoch := 1000#16 } ∧
      t.txq.frames.map TxFrame.payload = [[0x02#8, 4#8], [0x01#8, 0x02#8, 0x03#8, 0xE8#8]] := by decide +kernel

/-- Section 9.9, epoch 7001: an Alarm in HOLD is only counted. -/
theorem test_alarm_in_hold :
    let t := after (exec (.alarmReceived 0 alarmFrame) (faulty (standing .hold) .driveLost))
    ringOf t = [] ∧ t.flt.alarmsInHold = 1#8 := by decide +kernel

/-- Section 9.9, epoch 7100: a RESUME refused. -/
theorem test_resume_refused :
    let t := after (exec (.resume 0 (order 3#8 0#8)) (faulty (standing .hold) .driveLost))
    ringOf t = [(0x06#8, 0x02#8)] ∧ t.pe.leg = .hold ∧
      t.txq.frames.head?.map TxFrame.payload = some [0x20#8, 7#8] := by decide +kernel

/-- Section 9.9, epoch 7150, and section 7.6, expiry 5: a good reply ends the condition and keeps the flag. -/
theorem test_reply_ends_lost_drive :
    let s := faulty (asking .hold) .driveLost
    let t := after (exec (.statusReply 0 statusBytes) { s with tu := { s.tu with driveLost := true, misses := 3#8 } })
    t.tu.misses = 0#8 ∧ t.flt.conds[(1 : Fin 17)] = false ∧ t.flt.flags[(1 : Fin 17)] = true := by decide +kernel

/-- Section 9.9, epoch 7200: CLEAR_FAULTS after the condition has ended. -/
theorem test_clear_faults :
    let s := faulty (standing .hold) .driveLost
    let t := after (exec (.clearFaults 0 (order 4#8 0#8)) { s with flt := { s.flt with
      conds := Vector.replicate 17 false, first := some { code := .driveLost, epoch := 7000#16 } } })
    ringOf t = [(0x07#8, 0#8)] ∧ t.flt.flags[(1 : Fin 17)] = false ∧ t.flt.first = none := by decide +kernel

/-- Section 9.9, epoch 7210: a RESUME with a foot in the air, one Alarm counted. -/
theorem test_resume_to_search :
    let s := standing .hold
    let t := after (exec (.resume 0 (order 3#8 0#8)) { s with
      fsu := { s.fsu with contact := .air }, flt := { s.flt with alarmsInHold := 1#8 } })
    ringOf t = [(0x10#8, 1#8), (0x05#8, 5#8)] ∧ t.pe.leg = .search ∧ t.pe.attempts = 0 ∧
      t.tu.plan.z0 = -520000 := by decide +kernel

/-- Section 5.15, 1540 ms: SWING entry with a foothold timer of 750 ms and K = 250. -/
theorem test_swing_entry :
    let s := standing .unload
    let t := after (exec (.controlPeriodExpiry 2000) { s with fsu := { s.fsu with az := { s.fsu.az with out := 59 } } })
    t.pe.leg = .swing ∧ t.pe.footholdT = some 750000 ∧ t.tu.plan.kEnd = 250 ∧ t.tu.plan.k = 0 ∧ t.pe.lead = false := by
  decide +kernel

/-- Section 5.15, 1660 ms: the first stub at k = 60; and a second contact at k = 61 loads the foot. -/
theorem test_first_stub :
    let s := { swinging with
      pe := { swinging.pe with watchArmed := true }, tu := { swinging.tu with plan := { swinging.tu.plan with k := 60 } } }
    let t := classChange s .air .touch
    t.pe.leg = .swing ∧ t.pe.stubs = 1 ∧ t.pe.stubRise = true ∧ t.pe.watchArmed = false ∧
      (classChange { t with pe := { t.pe with stubRise := false, watchArmed := true } } .air .touch).pe.leg = .load := by
  decide +kernel

/-- Section 5.15, 2290 ms: the foothold timer makes the first attempt. -/
theorem test_re_place :
    let t := after (exec (.footholdTimerExpiry 0) (searching 0))
    t.pe.attempts = 1 ∧ t.pe.replacing = true ∧ t.pe.footholdT = none ∧ ringOf t = [(0x43#8, 1#8)] := by decide +kernel

/-- Section 8.1: the claim bytes of station 2, lowest first: a placed notice stands before the Event frame. -/
theorem test_queue_order :
    let q := ((ready.txq.place (ready.newFrame .event [0#8])).1.place (liftFrame false)).1
    q.frames.map TxFrame.claim = [0x24#8, 0xA5#8] := by decide +kernel

/-! ## Witnesses: the hypotheses of each statement hold together somewhere -/

theorem witness_StepRunsTheFrontCommand :
    { ready with pending := [.epochTick 500] }.pending = .epochTick 500 :: [] ∧ ready.pending = [] := by decide

theorem witness_EveryCommandAnswers : dtOf (.epochTick 500) = some 500 := by decide

/-- A full ring and a full queue, and one step. -/
theorem witness_BoundsKept :
    let s := { ready with
      flt := { ready.flt with ring := List.replicate 16 { code := 1#8, detail := 1#8, epoch := 0#16 } }
      txq := { ready.txq with frames := liftFrame false :: liftFrame false :: sixNotices }
      pending := [.epochTick 500] }
    (BuffersBounded s ∧ SensingInRange s) ∧ step s = .next (after (step s)) := by
  refine ⟨⟨?_, ?_⟩, rfl⟩ <;> simp only [BuffersBounded, SensingInRange, outInRange] <;> decide +kernel

theorem witness_HoldAndClaimKept :
    HeldWhileFaulty (faulty (standing .hold) .tilt) ∧ classALatched (faulty (standing .hold) .tilt) = true ∧
      ClashFromSources ready ∧ ClaimAtBeta (claiming false) := by
  simp only [HeldWhileFaulty, ClashFromSources, ClaimAtBeta]; decide +kernel

theorem witness_PositionsDistinctKept : PositionsDistinct (standing .stance) := by
  refine ⟨by decide +kernel, by decide +kernel, fun n => of_option (P := fun l : LegPart => l.pos ≠ (standing .stance).legPos) ?_, ?_⟩
  · revert n; decide +kernel
  · intro n m l k hnm hl hk
    have h : ∀ n m : Fin 8, n ≠ m → ((standing .stance).legOf n).all (fun l => ((standing .stance).legOf m).all
        fun k => decide (l.pos ≠ k.pos)) = true := by decide +kernel
    have := h n m hnm; rw [hl, hk] at this; simpa using this

/-- Nothing of the leg but SETUP matters to it. -/
theorem witness_PositionsDistinct_any (s : State) (hp : s.pt = (standing .stance).pt) (hs : s.setup = (standing .stance).setup)
    (hn : s.sbi.station = 2) (hl : s.pe.leg ≠ .setup) : PositionsDistinct s := by
  have h := witness_PositionsDistinctKept
  have hr : ∀ n, s.record n = (standing .stance).record n := fun n => by simp only [State.record, hp]
  have hg : ∀ n, s.legOf n = (standing .stance).legOf n := fun n => by simp only [State.legOf, hr]
  have ho : s.legPos = (standing .stance).legPos := by simp only [State.legPos, State.uword, hs]
  refine ⟨by rw [hr, hn]; exact h.1, fun he => absurd he hl, ?_, ?_⟩
  · intro n l; rw [hg, ho]; exact h.2.2.1 n l
  · intro n m l k hnm; rw [hg, hg]; exact h.2.2.2 n m l k hnm

theorem witness_QueueOrderedKept : QueueOrdered (claiming false) := by
  refine ⟨by decide +kernel, ?_, ?_, ?_⟩
  · intro f hf; exact ⟨.phaseNotice, by
      have : f = liftFrame false := by simpa [claiming] using hf
      subst this; decide +kernel⟩
  · intro k hk; rcases hk with h | h | h | h <;> subst h <;> decide +kernel
  · decide +kernel

/-- One record in the ring, its Event frame in the queue. -/
theorem witness_RingOffered :
    let s := after (exec (.eventTest 0 (order 6#8 0#8)) (withTable ready))
    RingOffered s ∧ s.flt.ring.length = 1 ∧ s.flt.retry = false := by simp only [RingOffered]; decide +kernel

theorem witness_LiftHeldOnlyInClaim :
    LockHeld (sendingLift .sending 50) ∧
      (((sendingLift .sending 50).txq.frames.filter TxFrame.isLift).length ≤ 1 ∧
        ((sendingLift .sending 50).txq.frames.any TxFrame.isLift = true → (sendingLift .sending 50).pe.leg = .claim) ∧
        (sendingLift .sending 50).sbi.attempt = some (liftFrame true) ∧ (liftFrame true).isLift = true ∧
        liftLocked (sendingLift .sending 50) = true) := by
  simp only [LockHeld]; decide +kernel

theorem witness_SetpointInBoxKept :
    ready.pe.leg ≠ .setup ∧ BoxSane ready ∧ ready.tu.setpoint = none := by simp only [BoxSane]; decide +kernel

/-- START leaves READY, RESTART enters it, and the other named entries happen. -/
theorem witness_LegMovesByTheTable :
    (after (exec (.start 0 (order 1#8 0#8)) (withTable ready))).pe.leg = .stance ∧
      (after (exec (.restart 0 (order 2#8 0#8)) (standing .swing))).pe.leg = .ready ∧
      (after (exec (.supportCheckResult 0) aboutToClaim)).pe.leg = .claim ∧
      (after (exec (.txCompletion 0) (sendingLift .sending 69))).pe.leg = .unload ∧
      (after (exec (.setupFrame 0 (setupWord 53#8 500#16)) (inSetup 53))).pe.leg = .ready := by decide +kernel

/-- A foot that lifts off in UNLOAD, one that reaches the swing end in the air, and one that a RESUME leaves in SEARCH. -/
theorem witness_LegMoves_foot :
    let u := standing .unload
    (after (exec (.controlPeriodExpiry 2000) { u with fsu := { u.fsu with az := { u.fsu.az with out := 59 } } })).pe.leg =
        .swing ∧
      (after (exec (.controlPeriodExpiry 2000)
        { swinging with tu := { swinging.tu with plan := { swinging.tu.plan with k := 249 } } })).pe.leg = .search ∧
      (after (exec (.resume 0 (order 3#8 0#8)) { standing .hold with fsu := { u.fsu with contact := .air } })).pe.leg =
        .search := by decide +kernel

/-- R83: a second contact in SWING enters LOAD with the step count up by one. -/
theorem witness_CountsAndFlagsKept :
    let s := { swinging with
      pe := { swinging.pe with watchArmed := true, steps := 255#8 }
      tu := { swinging.tu with plan := { swinging.tu.plan with k := 125 } } }
    (classChange s .air .touch).pe.leg = .load ∧ (classChange s .air .touch).pe.steps = 0#8 := by decide +kernel

theorem witness_CountsAndFlagsKept_flags : (faulty ready .tilt).flt.flags[(4 : Fin 17)] = true := by decide +kernel

theorem witness_SetupKeptAfterRelease : ready.pe.leg ≠ .setup ∧ (inSetup 3).pe.leg = .setup := by decide

theorem witness_NothingHeardWhileBusy :
    frameCommand (.alarmReceived 0 alarmFrame) = true ∧ dtOf (.alarmReceived 0 alarmFrame) = some 0 ∧
      transmitting (sendingLift .sending 50) = true ∧ transmitting (State.resetWith 2 2) = false ∧
      (State.resetWith 2 2).sbi.rx = .waitIdle := by decide

theorem witness_ClaimEntrySafe :
    let t := after (exec (.supportCheckResult 0) aboutToClaim)
    aboutToClaim.pe.leg ≠ .claim ∧ t.pe.leg = .claim ∧ aboutToClaim.pt = (standing .stance).pt ∧
      exclusiveUnder aboutToClaim.pe.applied.gait (relation aboutToClaim.legPos .rh) = true ∧
      t.scu.last.margin = 100 := by decide +kernel

theorem witness_StuckLineAndRecovery :
    (State.resetWith 2 2).sbi.rx = .waitIdle ∧ (State.resetWith 2 2).sbi.tx ≠ .stuck ∧
      (after (exec (.busStuck 0) ready)).sbi.rx = .waitIdle ∧ (after (exec (.busStuck 0) ready)).sbi.tx = .stuck := by
  decide +kernel

theorem witness_TransmitBegins :
    (claiming false).sbi.tx = .idle ∧ (claiming false).sbi.rx = .idle ∧
      (claiming false).txq.frames = liftFrame false :: [] ∧ ready.txq.frames = [] := by decide +kernel

/-- The first bit of the claim byte's data and the last stop bit of the Lift Notice, and a Setpoint just sent. -/
theorem witness_LineDriven :
    transmitting ready = false ∧ (liftFrame false).line.length = 7 ∧
      (let t := after (exec (.txBegin 0 false) (claiming false))
      (elapse t 1).sentBit = some false ∧ (elapse t 69).sentBit = some true ∧ (elapse t 70).drivesLine = false) ∧
      ready.tu.sending = none ∧
      (let t := after (exec (.controlPeriodExpiry 2000) (standing .stance))
      t.tu.sending = some 25 ∧ t.tu.line.length = 10) := by decide +kernel

/-- A frame on the line in a dominant bit, the start bit, and in a recessive one, the stop bit of the claim byte. -/
theorem witness_LineDriven_abort :
    let s (tx : TxState) (t : Nat) : State :=
      { sendingLift tx t with sbi := { (sendingLift tx t).sbi with txLine := (liftFrame true).line } }
    (s .arbitrating 0).sbi.attempt = some (liftFrame true) ∧ (s .arbitrating 0).sentBit = some false ∧
      (s .sending 9).sbi.attempt = some (liftFrame true) ∧ (s .sending 9).sentBit = some true ∧ ready.sbi.finishing = 0 := by
  decide +kernel

/-- At the last µs of the claim byte, with the timeout passed and without. -/
theorem witness_AttemptsFail :
    let s := sendingLift .arbitrating 7
    s.sbi.tx = .arbitrating ∧ s.sbi.attempt = some (liftFrame true) ∧
      s.sbi.txElapsed + 1 < 9 * bitTimeUs s.sbi.rateCode ∧ (liftFrame true).claim.getLsbD 5 = true ∧
      ¬ ((liftFrame true).isLift = true ∧ s.pe.leg = .claim ∧ s.pe.timeoutPassed = true) ∧
      ((liftFrame true).isLift = true ∧ { s with pe := { s.pe with timeoutPassed := true } }.pe.timeoutPassed = true) := by
  decide +kernel

theorem witness_AttemptsFail_abort :
    (sendingLift .sending 50).sbi.attempt = some (liftFrame true) ∧ (sendingLift .sending 50).sbi.tx = .sending ∧
      (sendingLift .arbitrating 5).sbi.tx = .arbitrating ∧
      (elapse (sendingLift .arbitrating 0) 0).sbi.txElapsed < bitTimeUs (ready.sbi.rateCode) ∧
      ¬ (elapse (sendingLift .arbitrating 0) 1).sbi.txElapsed < bitTimeUs (ready.sbi.rateCode) := by decide +kernel

/-- R4: the last stop bit of a Lift Notice is read 69 bit times after its start. -/
theorem witness_TransmitCompletes :
    let s := sendingLift .sending 60
    s.sbi.tx = .sending ∧ s.sbi.attempt = some (liftFrame true) ∧
      (10 * ((liftFrame true).payload.length + 3) - 1) * bitTimeUs s.sbi.rateCode ≤ s.sbi.txElapsed + 9 ∧
      (liftFrame true).isLift = true ∧ s.pe.leg = .claim ∧
      ¬ ((liftFrame true).isLift = true ∧ { s with pe := { s.pe with leg := .hold } }.pe.leg = .claim) ∧
      (sendingLift .arbitrating 0).sbi.tx = .arbitrating ∧
      (10 * ((liftFrame true).payload.length + 3) - 1) * bitTimeUs s.sbi.rateCode ≤
        (sendingLift .arbitrating 0).sbi.txElapsed + 69 := by
  decide +kernel

/-- R159: the retry mark of a node whose ring holds a record: cleared where the queue has room, set again where it has none.
-/
theorem witness_TransmitCompletes_retry :
    let s (fr : List TxFrame) : State :=
      { sendingLift .sending 69 with
        txq := { ready.txq with frames := fr }
        flt := { ready.flt with ring := [{ code := 0x60#8, detail := 0xA5#8, epoch := 7#16 }], retry := true } }
    (after (exec (.txCompletion 0) (s [liftFrame true]))).flt.retry = false ∧
      (after (exec (.txCompletion 0) (s [liftFrame true]))).txq.frames.any TxFrame.isEvent = true ∧
      (after (exec (.txCompletion 0) (s (sixNotices ++ sixNotices.take 2)))).flt.retry = true := by decide +kernel

theorem witness_ReceptionFails :
    Hears ready ∧ framingEnd [0x17#8] dominantField = true ∧ partialFrame [0x17#8, 4#8, 0#8, 0x4D#8] = true ∧
      RxFrame.complete { alarmFrame with check1 := 0xFF#8 } = true ∧
      RxFrame.checkAgrees { alarmFrame with check1 := 0xFF#8 } = false ∧
      ((List.range 8).filter (0x16#8 : Byte).getLsbD).length % 2 = 1 ∧
      2 ≤ (([0, 1, 2] : List Nat).filter (3#30 : Samples).getLsbD).length ∧
      ((State.resetWith 2 2).sbi.rx = .waitIdle ∧ transmitting (State.resetWith 2 2) = false) := by
  simp only [Hears]; decide +kernel

/-- A glitch in each state of the engine. -/
theorem witness_ReceptionFails_glitch :
    transmitting deferring = false ∧ deferring.sbi.rx = .inFrame ∧ partialFrame [0x17#8] = true ∧
      transmitting ready = false ∧ ready.sbi.rx = .idle ∧
      2 ≤ (([0, 1, 2] : List Nat).filter (7#30 : Samples).getLsbD).length := by decide +kernel

/-- Kind codes 0, 11 and 15. -/
theorem witness_UnknownKindIgnored :
    Hears ready ∧
      (∀ b : Byte, b = 0x00#8 ∨ b = 0xB1#8 ∨ b = 0xF0#8 →
        ((List.range 8).filter b.getLsbD).length % 2 = 0 ∧ (b.toNat / 16 = 0 ∨ 11 ≤ b.toNat / 16)) := by
  refine ⟨by simp only [Hears]; decide +kernel, ?_⟩
  rintro b (rfl | rfl | rfl) <;> decide +kernel

theorem witness_StationClashWatched :
    Hears ready ∧ (frameOf .alarm 2 [4#8, 0#8]).good = true ∧ (frameOf .alarm 2 [4#8, 0#8]).kind = some .alarm ∧
      (frameOf .alarm 2 [4#8, 0#8]).source = ready.sbi.station := by simp only [Hears]; decide +kernel

/-- 1 000 000 µs after the time held, and one µs before. -/
theorem witness_StationClashWatched_watches :
    let s := { ready with
      sbi := { ready.sbi with clashWatch := some 1000000#32 }, pt := { ready.pt with clashWatch := some 1000000#32 } }
    s.sbi.clashWatch = some 1000000#32 ∧ s.pt.clashWatch = some 1000000#32 ∧
      1000000 ≤ ((elapse s 0).time.us - 1000000#32).toNat ∧
      ((elapse { s with time := { s.time with us := 1999999#32 } } 0).time.us - 1000000#32).toNat < 1000000 := by
  decide +kernel

theorem witness_StuckLineAndRecovery_report : transmitting ready = false := by decide

/-- BUS_STUCK in STANCE places the Alarm 07H 01H in an empty queue; one that waits with another cause stays alone. -/
theorem witness_StuckLineAndRecovery_alarm :
    let s := standing .stance
    let held : TxFrame := { claim := claimByte .alarm 2, payload := [5#8, 1#8], locked := false }
    transmitting s = false ∧ s.pe.leg.walking = true ∧ s.pe.leg ≠ .hold ∧ s.txq.frames = [] ∧ held.kind = some .alarm ∧
      { claim := claimByte .alarm 2, payload := [7#8, 1#8], locked := false } ∈ (after (exec (.busStuck 0) s)).txq.frames ∧
      (after (exec (.busStuck 0) { s with txq := { s.txq with frames := [held] } })).txq.frames.filter
        (fun g => g.kind == some .alarm) = [held] := by decide +kernel

/-- An Alarm and a Leg Report beside one of their own kind; a queue with room; and a full queue whose victim stands last. -/
theorem witness_QueuePlaces :
    let alarm : TxFrame := { claim := claimByte .alarm 2, payload := [0x20#8, 7#8], locked := false }
    let report : TxFrame := { claim := claimByte .legReport 2, payload := [], locked := false }
    let full := liftFrame true :: sixNotices ++ [report]
    alarm.kind = some .alarm ∧ [alarm].any (sameSlot alarm) = true ∧
      report.kind = some .legReport ∧ sameSlot report { report with locked := true } = true ∧
      sixNotices.length < 8 ∧ sixNotices.any (sameSlot alarm) = false ∧ sixNotices.all (fun x => decide (x.claim ≤ report.claim)) = true ∧
      full.length = 8 ∧ full.any (sameSlot alarm) = false ∧ report.locked = false ∧ alarm.claim < report.claim ∧
      (liftFrame true :: sixNotices).all (fun x => x.locked || decide (x.claim ≤ report.claim)) = true ∧
      report.claim ≤ (claimByte .footDetail 2) ∧
      (({ frames := full, dropped := 0#8 } : TxQueue).place alarm).2 = some report ∧
      (liftFrame false).isLift = true ∧ (ready.newFrame .event []).isEvent = true ∧ report.isLift = false := by
  decide +kernel

/-- R29: index 0 at pointer 0, index 52 at pointer 52, index 0 again, index 4 at pointer 3, index 54, and index 53. -/
theorem witness_SetupTaken :
    FromPeer (inSetup 52) (setupWord 52#8 7#16) .setup ∧ (inSetup 52).pe.leg = .setup ∧
      ((setupWord 52#8 7#16).b 0).toNat = (inSetup 52).sbi.station.val ∧ ((setupWord 52#8 7#16).b 1).toNat = 52 ∧
      FromPeer (inSetup 0) (setupWord 0#8 7#16) .setup ∧ ((setupWord 0#8 7#16).b 1).toNat = 0 ∧
      (inSetup 5).setup.ptr ≠ 0 ∧ ((setupWord 4#8 7#16).b 1).toNat ≠ (inSetup 3).setup.ptr ∧
      54 ≤ ((setupWord 54#8 7#16).b 1).toNat ∧ ((setupWord 53#8 7#16).b 1).toNat = 53 ∧ (inSetup 53).setup.ptr = 53 := by
  simp only [FromPeer, Hears]; decide +kernel

/-- Targets 3, 8 and 255, and the own number in READY. -/
theorem witness_SetupFrameNotTaken :
    (∀ b : Byte, b = 3#8 ∨ b = 8#8 ∨ b = 255#8 →
      goodOfKind .setup (frameOf .setup 5 [b, 0#8, 0#8, 0#8]) = true ∧
      ((frameOf .setup 5 [b, 0#8, 0#8, 0#8]).b 0).toNat ≠ ready.sbi.station.val) ∧
      FromPeer ready (setupWord 0#8 7#16) .setup ∧ ready.pe.leg ≠ .setup := by
  refine ⟨?_, by simp only [FromPeer, Hears]; decide +kernel, by decide⟩
  rintro b (rfl | rfl | rfl) <;> decide +kernel

/-- The last word of a setup without adjustment, and R35's READY with an epoch of 0. -/
theorem witness_SetupTaken_completion :
    FromPeer (inSetup 53) (setupWord 53#8 500#16) .setup ∧ (inSetup 53).pe.leg = .setup ∧
      (inSetup 53).txq.frames = [] ∧
      (after (exec (.setupFrame 0 (setupWord 53#8 500#16)) (inSetup 53))).setup.clampCount = 0#8 ∧
      (after (exec (.setupFrame 0 (setupWord 53#8 0xFFFF#16)) (inSetup 53))).setup.clampCount = 1#8 := by
  simp only [FromPeer, Hears]; decide +kernel

theorem witness_SettledWords :
    (settleWords { SetupBlock.reset with words := wordsOf wordList } 2).clampCount = 0#8 := by decide +kernel

/-- The adjustments of section 2.4's worked case, from a count of 0. -/
theorem witness_SettledWords_adjusted :
    Adjusted (wordsOf ((((((wordList.set 15 400).set 16 300).set 22 20).set 40 20).set 41 30).set 42 5)) 2 [22, 42, 16, 41] ∧
      SetupBlock.reset.clampCount = 0#8 ∧ SetupBlock.reset.firstClamped = none := by
  refine ⟨⟨[], [], ?_⟩, rfl, rfl⟩
  simp only [repeated]; decide +kernel

/-- A box whose bounds meet, and the roster 0xAD1A: ABSENT at the own station 3, BODY at 0, 1, 6 and 7. -/
theorem witness_SettledWords_roster :
    Adjusted (wordsOf ((((wordList.set 1 0xAD1A).set 5 450)))) 3 [5, 1, 1] ∧
      repeated (0xAD1A#16) 3 .body ∧ ¬ repeated (0xAD1A#16) 3 .mission := by
  refine ⟨⟨[1], [], ?_⟩, ?_⟩ <;> simp only [repeated] <;> decide +kernel

theorem witness_AlarmTaken :
    FromPeer (standing .swing) alarmFrame .alarm ∧ (standing .swing).role alarmFrame.source ≠ .absent ∧
      (standing .swing).pe.leg.walking = true ∧ (standing .hold).pe.leg = .hold ∧ ready.pe.leg.walking = false ∧
      (inSetup 0).pe.leg = .setup := by simp only [FromPeer, Hears]; decide +kernel

/-- A TOUCHDOWN of RF: stored, no clash, no effect on the own leg. -/
theorem witness_NoticeStored :
    let f := noticeOf 3 .rf 0x30#8 3#8 0xFF#8
    Accepted (standing .stance) f .phaseNotice ∧ positionClashes (standing .stance) f.source (carriedPos f) = false ∧
      (f.b 1).toNat ≠ 1 ∧ ¬ ((f.b 1).toNat = 7 ∧ (f.b 3).toNat = (standing .stance).sbi.station.val) := by
  simp only [Accepted, FromPeer, Hears]; decide +kernel

/-- RF's station reports LF, the node's own position; and it reports LH, which station 4 holds. -/
theorem witness_PositionClashDropped :
    Accepted (standing .stance) (reportOf 3 .lf) .legReport ∧
      Accepted (standing .stance) (noticeOf 3 .lh 0x30#8 3#8 0xFF#8) .phaseNotice ∧
      Clashes (standing .stance) (reportOf 3 .lf).source (carriedPos (reportOf 3 .lf)) ∧
      Clashes (standing .stance) (reportOf 3 .lh).source (carriedPos (reportOf 3 .lh)) ∧
      (standing .stance).pt.clashWatch = none := by
  simp only [Accepted, FromPeer, Hears]
  refine ⟨by decide +kernel, by decide +kernel, .inl (by decide +kernel), .inr ⟨4, standingLeg .lh (-300) 180, ?_⟩,
    by decide +kernel⟩
  decide +kernel

/-- The same clash while the watch of an earlier one runs: nothing new is reported, and the watch starts again. -/
theorem witness_PositionClashDropped_watch :
    let s := { standing .stance with pt := { (standing .stance).pt with clashWatch := some 1999999#32 } }
    Accepted s (reportOf 3 .lf) .legReport ∧ Clashes s (reportOf 3 .lf).source (carriedPos (reportOf 3 .lf)) ∧
      s.pt.clashWatch ≠ none ∧
      (after (exec (.legReportReceived 5 (reportOf 3 .lf)) s)).pt.clashWatch = some 2000005#32 := by
  simp only [Accepted, FromPeer, Hears]
  exact ⟨by decide +kernel, .inl (by decide +kernel), by decide +kernel, by decide +kernel⟩

/-- A record with its notice guard set, and one without. -/
theorem witness_LegReportStored :
    Accepted (standing .stance) (reportOf 3 .rf) .legReport ∧
      positionClashes (standing .stance) 3 (carriedPos (reportOf 3 .rf)) = false ∧
      ((standing .stance).record 3).all (fun r => !r.guard) = true ∧
      ((after (exec (.phaseNoticeReceived 0 (noticeOf 3 .rf 0x30#8 3#8 0xFF#8)) (standing .stance))).record 3).all
        Record.guard = true := by
  simp only [Accepted, FromPeer, Hears]; decide +kernel

theorem witness_LiftNoticeHeard :
    let f := noticeOf 3 .rf 0x12#8 1#8 0xFF#8
    Accepted (claiming false) f .phaseNotice ∧ positionClashes (claiming false) f.source (carriedPos f) = false ∧
      (f.b 1).toNat = 1 ∧ exclusiveUnder .crawl (relation (claiming false).legPos .rf) = true ∧
      Accepted (standing .unload) f .phaseNotice ∧ (standing .unload).pe.leg.stepping = true ∧
      Accepted (standing .stance) f .phaseNotice ∧ exclusiveUnder .diagonal (relation .lf .rh) = false := by
  simp only [Accepted, FromPeer, Hears]; decide +kernel

theorem witness_NamedInConflict :
    let f := noticeOf 3 .rf 0x1A#8 7#8 2#8
    (f.b 1).toNat = 7 ∧ (f.b 3).toNat = 2 ∧ positionClashes (claiming false) f.source (carriedPos f) = false ∧
      Accepted (claiming false) f .phaseNotice ∧ Accepted (standing .unload) f .phaseNotice ∧
      Accepted swinging f .phaseNotice ∧ Accepted (standing .hold) f .phaseNotice ∧ Accepted (withTable ready) f .phaseNotice := by
  simp only [Accepted, FromPeer, Hears]; decide +kernel

/-- A pitch equal to TILT_LIMIT is within it; one more is not. -/
theorem witness_BodyReportStored :
    let f (p : Half) := frameOf .bodyReport 7 [0#8, 0#8, 0#8, 0#8, hiByte p, loByte p, 0#8, 0#8, 0#8, 0#8]
    Accepted (standing .stance) (f 300#16) .bodyReport ∧ (standing .stance).tiltLimit = 300 ∧
      overTilt (standing .stance) (decodeBody (f 300#16)) = false ∧
      overTilt (standing .stance) (decodeBody (f 301#16)) = true := by
  simp only [Accepted, FromPeer, Hears]; decide +kernel

theorem witness_IntentStored :
    Accepted (standing .stance)
      (frameOf .intent 5 [1#8, 0#8, 200#8, 0xFF#8, 0xE2#8, 0#8, 0#8, 0x01#8, 0xF4#8, 80#8, 0#8, 17#8]) .intent := by
  simp only [Accepted, FromPeer, Hears]; decide +kernel

/-- In SETUP; a stranger (a Leg Report of BODY); an information frame; and an ABSENT station's Alarm. -/
theorem witness_FramesAndCommandsScreened :
    FromPeer (inSetup 0) (reportOf 3 .rf) .legReport ∧ (inSetup 0).pe.leg = .setup ∧
      FromPeer (standing .stance) (reportOf 7 .rf) .legReport ∧ (standing .stance).role 7 ≠ .leg ∧
      FromPeer (standing .stance) (frameOf .event 3 [0#8, 0#8, 0#8, 0#8]) .event ∧ (standing .stance).role 3 ≠ .absent ∧
      (standing .stance).role 1 = .absent := by simp only [FromPeer, Hears]; decide +kernel

/-- Targets 3, 8, 254 and 255, and command codes 0, 7 and 255. -/
theorem witness_FramesAndCommandsScreened_control :
    let f (t c : Byte) := frameOf .control 5 [t, c, 0#8]
    Accepted (standing .stance) (f 3#8 1#8) .control ∧ Accepted (standing .stance) (f 8#8 6#8) .control ∧
      Accepted (standing .stance) (f 254#8 6#8) .control ∧ Accepted (standing .stance) (f 255#8 7#8) .control ∧
      Accepted (standing .stance) (f 2#8 0#8) .control ∧ Accepted (standing .stance) (f 2#8 255#8) .control ∧
      controlCommand 0 (f 3#8 1#8) 1 = some (.start 0 (f 3#8 1#8)) := by
  simp only [Accepted, FromPeer, Hears]; decide +kernel

theorem witness_StartTaken :
    Commanded (withTable ready) (order 1#8 0#8) 1 ∧ ready.pe.leg = .ready ∧ classALatched (withTable ready) = false ∧
      ready.tu.started = true ∧ classALatched (faulty (withTable ready) .tilt) = true ∧
      Commanded (standing .hold) (order 1#8 0#8) 1 ∧ (standing .hold).pe.leg.walking = true := by
  simp only [Commanded, Accepted, FromPeer, Hears]; decide +kernel

/-- At REPORT_OFFSET 10 neither entry is due at epoch 0; at 0 both are. -/
theorem witness_RestartTaken :
    let s := { standing .swing with setup := { ready.setup with words := ready.setup.words.set 41 0#16 } }
    Commanded (standing .swing) (order 2#8 0#8) 2 ∧ (standing .swing).reportOffset ≠ 0 ∧
      Commanded s (order 2#8 0#8) 2 ∧ s.reportOffset = 0 ∧ s.detailPeriod ≠ 0 ∧
      (after (exec (.restart 0 (order 2#8 0#8)) s)).txq.frames.map TxFrame.claim = [0x35#8, 0x84#8] := by
  simp only [Commanded, Accepted, FromPeer, Hears]; decide +kernel

/-- A foot LOADED, with 3 Alarms counted in HOLD. -/
theorem witness_ResumeTaken :
    let s := { standing .hold with flt := { ready.flt with alarmsInHold := 3#8 } }
    Commanded s (order 3#8 0#8) 3 ∧ s.pe.leg = .hold ∧ classALatched s = false ∧ s.fsu.contact = .loaded ∧
      (∀ n, (heard s 0).stationOf .mission = some n → n = 5) ∧
      ¬ staleLimit s { tag := 1990000#32, stale := false, guard := false, part := .mission crawlIntent } <
        ageOf s 1990000#32 := by
  simp only [Commanded, Accepted, FromPeer, Hears]
  refine ⟨by decide +kernel, by decide, by decide +kernel, by decide, ?_, by decide +kernel⟩
  exact of_option (P := fun n => n = 5) (by decide +kernel)

theorem witness_ResumeRefused :
    let s := faulty (standing .hold) .tilt
    Commanded s (order 3#8 0#8) 3 ∧ s.pe.leg = .hold ∧ s.flt.flags[(4 : Fin 8).val] = true ∧
      (∀ j : Fin 8, j < 4 → s.flt.flags[j.val] = false) := by
  simp only [Commanded, Accepted, FromPeer, Hears]; decide +kernel

theorem witness_ClearFaultsTaken :
    Commanded (faulty (withTable ready) .clash) (order 4#8 0#8) 4 ∧
      ClashFromSources { withTable ready with flt := { (faulty ready .clash).flt with clashStation := true } } := by
  simp only [Commanded, Accepted, FromPeer, Hears, ClashFromSources]; decide +kernel

/-- Blocks 5, 3 and 6. -/
theorem witness_QueryAnswered :
    Commanded (withTable ready) (order 5#8 5#8) 5 ∧ ((order 5#8 5#8).b 2).toNat = 5 ∧
      Commanded (withTable ready) (order 5#8 3#8) 5 ∧ ((order 5#8 3#8).b 2).toNat = 3 ∧
      Commanded (withTable ready) (order 5#8 6#8) 5 ∧ ((order 5#8 6#8).b 2).toNat = 6 := by
  simp only [Commanded, Accepted, FromPeer, Hears]; decide +kernel

theorem witness_EventTestRecorded :
    Commanded (withTable ready) (order 6#8 0#8) 6 ∧ ready.eventMask.getLsbD 5 = true ∧
      (wordsOf (wordList.set 52 31))[52].getLsbD 5 = false := by
  simp only [Commanded, Accepted, FromPeer, Hears]; decide +kernel

/-- At the multiple 2 097 152 the records of 1 990 000 are 107 152 µs old, past STALE_MS of 100 ms; at 97 152 they are not;
and INTENT_STALE of 500 ms keeps the intent fresh. -/
theorem witness_AgeingReadMarks :
    let s := standing .stance
    s.pe.leg ≠ .setup ∧ (elapse s 97152).time.us.toNat % 1048576 = 0 ∧
      s.record 3 = freshRecord (.leg (standingLeg .rf 320 (-180))) ∧
      staleLimit s { tag := 1990000#32, stale := false, guard := false, part := .leg (standingLeg .rf 320 (-180)) } <
        ((elapse s 97152).time.us - 1990000#32).toNat ∧
      ((elapse s 97152).time.us - 1990000#32).toNat ≤
        staleLimit s { tag := 1990000#32, stale := false, guard := false, part := .mission crawlIntent } ∧
      (elapse s 1).time.us.toNat % 1048576 ≠ 0 := by decide +kernel

/-- What that read records: "peer silent" with 3, 4 and 6, and "fault latched" for BODY_SILENT of station 7 (R54). -/
theorem witness_AgeingReadMarks_notes :
    let e := elapse (standing .stance) 97152
    let t := after (exec (.ageingRead 97152) (standing .stance))
    silenceNotes e = [⟨4, 2, 3#8⟩, ⟨4, 2, 4#8⟩, ⟨4, 2, 6#8⟩, ⟨4, 1, 0x15#8⟩] ∧ firstSilent e = some .peerSilent ∧
      ringOf t = [(2#8, 3#8), (2#8, 4#8), (2#8, 6#8), (1#8, 0x15#8)] ∧ t.pt.peerSilent = true ∧
      t.pt.intentSilent = false ∧ t.flt.conds[FaultCode.bodySilent.idx] = true := by decide +kernel

/-- That read marks the record of station 3. -/
theorem witness_AgeingReadMarks_any :
    let s := standing .stance
    let r : Record := { tag := 1990000#32, stale := false, guard := false, part := .leg (standingLeg .rf 320 (-180)) }
    s.record 3 = some r ∧ r.stale = false ∧
      (after (exec (.ageingRead 97152) s)).record 3 = some { r with stale := true } := by decide +kernel

/-- A sample in STANCE, and one in SETUP; the refill has finished in the first. -/
theorem witness_ForceSampleTaken :
    forceFrame false sampleBytes = true ∧ (standing .stance).fsu.link ≠ .waitIdle ∧
      (standing .stance).fsu.degraded = false ∧ (standing .stance).pe.leg.stepping = false ∧
      (standing .stance).filterN + 1 < min 17 ((standing .stance).fsu.refill + 1) ∧
      { inSetup 0 with fsu := { (inSetup 0).fsu with link := .idle } }.fsu.link ≠ .waitIdle := by decide +kernel

/-- In a degraded unit, a differing sample that ends the stuck condition, at run 14 and at run 15, and an equal one. -/
theorem witness_ForceSampleTaken_degraded :
    let u (r : Nat) (z : Half) : State := { standing .stance with
      fsu := { ready.fsu with prevFz := some z, degraded := true, causeStuck := true, stuckCond := true, recovery := r } }
    ¬ RecoversNow (u 14 399#16) sampleBytes ∧ ¬ RecoversNow (u 15 400#16) sampleBytes ∧
      ¬ StuckNow (u 15 400#16) sampleBytes ∧ RecoversNow (u 15 399#16) sampleBytes ∧ SampleTaken (u 14 399#16) sampleBytes ∧
      (after (exec (.forceSampleGood 250 sampleBytes) (u 14 399#16))).fsu.stuckCond = false ∧
      (after (exec (.forceSampleGood 250 sampleBytes) (u 15 400#16))).fsu.stuckCond = true := by
  simp only [SampleTaken, RecoversNow, StuckNow]; decide +kernel

/-- A foot that touches at exactly T_TOUCH: in SWING at k = 100 of 250 with the watch armed, and in STANCE. -/
theorem witness_JudgedSampleActs :
    let s := { swinging with pe := { swinging.pe with watchArmed := true } }
    let l := linkBytes [0#8, 0#8, 0#8, 0#8, 0x01#8, 0x90#8, 0#8]
    SampleTaken s l ∧ s.fsu.degraded = false ∧ s.filterN + 1 < min 17 (s.fsu.refill + 1) ∧ ¬ StuckNow s l ∧
      sampleLimited s l = false ∧ s.pe.leg ≠ .claim ∧
      classByForce s .air (outputOf s (lineAfter (halfAt l 4) s.fsu.az.line)) = .touch ∧
      outputOf s (lineAfter (halfAt l 4) s.fsu.az.line) = 100 ∧
      SampleTaken (standing .stance) sampleBytes := by
  simp only [SampleTaken, StuckNow]; decide +kernel

/-- The third slip sample in a row, SLIP_COUNT being 3, starts slip. -/
theorem witness_JudgedSampleActs_slip :
    slipTable 3 false 2 0 .loaded true = ((true, 0, 0), .start) ∧ slipTable 3 true 0 2 .touch false = ((false, 0, 0), .stop) ∧
      slipTable 3 false 1 0 .touch true = ((false, 2, 0), .none) := by decide

/-- A reply with the tag of the Setpoint before, and one with the state code 4. -/
theorem witness_LinkEventsAndMisses :
    ready.fsu.link ≠ .waitIdle ∧ badForce (.truncated [0#8]) = true ∧ forceFrame true unfitBytes = true ∧
      (State.resetWith 2 2).fsu.link = .waitIdle ∧ (asking .stance).tu.link ≠ .waitIdle ∧
      byteAt (linkBytes [6#8, 0#8, 0#8, 0#8, 0#8, 0#8, 0#8, 0#8]) 0 ≠ (asking .stance).tu.tag ∧
      4 ≤ (byteAt (linkBytes [7#8, 4#8, 0#8, 0#8, 0#8, 0#8, 0#8, 0#8]) 1).toNat ∧ linkFailed 10 (.truncated [7#8]) = true ∧
      (State.resetWith 2 2).tu.link = .waitIdle ∧
      { ready with tu := { ready.tu with sending := some 25 } }.tu.sending = some 25 := by decide +kernel

theorem witness_DegradedContact :
    (standing .stance).fsu.watch = some 1000 ∧ (standing .stance).pe.leg ≠ .setup ∧
      (standing .stance).fsu.linkCond = false ∧ (standing .stance).fsu.degraded = false ∧
      (standing .stance).fsu.slipping = false := by decide

/-- A slipping foot whose link watch expires, in STANCE, in HOLD and in READY. -/
theorem witness_DegradedContact_slipping :
    let s (l : LegState) : State := { standing l with fsu := { (standing l).fsu with slipping := true } }
    (s .stance).fsu.watch = some 1000 ∧ (s .stance).fsu.linkCond = false ∧ (s .stance).fsu.degraded = false ∧
      (s .stance).fsu.slipping = true ∧ (s .stance).pe.leg.walking = true ∧ (s .stance).txq.frames.length ≤ 6 ∧
      (s .hold).pe.leg = .hold ∧ (s .ready).pe.leg.walking = false := by decide

/-- The 512th equal sample in SWING, and the sixteenth differing one of a degraded unit. -/
theorem witness_DegradedContact_sample :
    let s := { standing .swing with fsu := { (standing .swing).fsu with prevFz := some 400#16, stuckRun := 511 } }
    let r := { standing .stance with fsu := { ready.fsu with prevFz := some 399#16, degraded := true, recovery := 15 } }
    SampleTaken s sampleBytes ∧ StuckNow s sampleBytes ∧ SampleTaken r sampleBytes ∧ r.fsu.degraded = true ∧
      ¬ StuckNow r sampleBytes ∧ r.fsu.prevFz ≠ none ∧ r.fsu.prevFz ≠ some (halfAt sampleBytes 4) := by
  simp only [SampleTaken, StuckNow]; decide +kernel

/-- OK, LIMIT, FAULT and OFF in the window, in STANCE and in READY. -/
theorem witness_StatusReplyTaken :
    (∀ c : Byte, c = 0#8 ∨ c = 1#8 ∨ c = 2#8 ∨ c = 3#8 →
      statusFrame (linkBytes [7#8, c, 0#8, 0#8, 0#8, 0#8, 0#8, 0#8]) = true ∧
      byteAt (linkBytes [7#8, c, 0#8, 0#8, 0#8, 0#8, 0#8, 0#8]) 0 = (asking .stance).tu.tag) ∧
      (asking .stance).tu.link ≠ .waitIdle ∧ (asking .stance).tu.window ≠ none ∧ (asking .stance).tu.driveFault = false ∧
      (asking .ready).pe.leg = .ready := by
  refine ⟨?_, by decide +kernel⟩
  rintro c (rfl | rfl | rfl | rfl) <;> decide +kernel

/-- Degraded, a lag of exactly 8 mm under a pressing Setpoint, and a rise of exactly 6 mm. -/
theorem witness_StatusReplyTaken_degraded :
    let s := { asking .load with
      fsu := { ready.fsu with degraded := true, contact := .touch, refHeight := -526000 }
      tu := { (asking .load).tu with lastZ := some (-528000), pressing := true } }
    statusFrame statusBytes = true ∧ s.tu.link ≠ .waitIdle ∧ s.tu.window ≠ none ∧ byteAt statusBytes 0 = s.tu.tag ∧
      s.fsu.degraded = true ∧ s.tu.lastZ = some (-528000) ∧ (halfAt statusBytes 6).toInt * 100 - (-528000) = 8000 ∧
      s.fsu.refHeight + 6000 ≤ (halfAt statusBytes 6).toInt * 100 := by decide +kernel

/-- Degraded, and FAULT under a Setpoint that did not press: DRIVE_FAULT is taken before the class is judged. -/
theorem witness_StatusReplyTaken_fault :
    let l := linkBytes [7#8, 2#8, 0x0B#8, 0xB8#8, 0x07#8, 0x08#8, 0xEB#8, 0xB0#8]
    let s := { asking .load with
      fsu := { ready.fsu with degraded := true, contact := .touch, refHeight := -526000 } }
    statusFrame l = true ∧ s.tu.window ≠ none ∧ byteAt l 0 = s.tu.tag ∧ s.tu.driveFault = false ∧ s.pe.leg.walking = true ∧
      s.fsu.degraded = true ∧ s.tu.lastZ = some (-520000) ∧
      (let t := after (exec (.statusReply 0 l) s)
      ringOf t = [(1#8, 1#8), (3#8, 6#8)] ∧ t.pe.leg = .hold ∧ t.fsu.contact = .air ∧
        t.txq.frames.head?.map TxFrame.payload = some [1#8, 6#8]) := by decide +kernel

/-- The third miss, and the second. -/
theorem witness_LinkEventsAndMisses_window :
    (asking .stance).tu.window = some 400 ∧ satInc (2#8) = 3#8 ∧ satInc (1#8) ≠ 3#8 ∧
      (asking .stance).tu.driveLost = false := by decide

theorem witness_ControlPeriodSends :
    swinging.pe.period = some 2000 ∧ swinging.pe.leg = .swing ∧ swinging.pe.stubRise = false ∧
      swinging.tu.plan.k + 1 < swinging.tu.plan.kEnd ∧ swinging.boxXMin ≤ swinging.boxXMax ∧ ready.pe.leg = .ready ∧
      (after (exec (.controlPeriodExpiry 2000) swinging)).pe.leg = .swing := by decide +kernel

/-- The conditions of R86 rest on the records, the parameters, the station, the applied record, φ, the turn, contact, slip
and the flags alone. -/
theorem liftHolds_of (s t : State) (w : WaitReason) (h₁ : s.pt = t.pt) (h₂ : s.setup = t.setup) (h₃ : s.pe.applied = t.pe.applied)
    (h₄ : s.pe.phi = t.pe.phi) (h₅ : s.pe.turn = t.pe.turn) (h₆ : s.pe.lead = t.pe.lead) (h₇ : s.fsu.contact = t.fsu.contact)
    (h₈ : s.fsu.slipping = t.fsu.slipping) (h₉ : s.flt.flags = t.flt.flags) (h : LiftHolds t w) : LiftHolds s w := by
  have hr : ∀ n, s.record n = t.record n := fun n => by simp only [State.record, h₁]
  have hg : ∀ n, s.legOf n = t.legOf n := fun n => by simp only [State.legOf, hr]
  have hf : ∀ n, fresh s n = fresh t n := fun n => by simp only [fresh, hr]
  have hp : s.legPos = t.legPos := by simp only [State.legPos, State.uword, h₂]
  have ho : ∀ r, s.stationOf r = t.stationOf r := fun r => by simp only [State.stationOf, State.role, h₂]
  have he : effIntent s = effIntent t := by simp only [effIntent, ho, hr]
  cases w <;> first | exact True.intro | simpa only [LiftHolds, hg, hf, hp, ho, he, h₃, h₄, h₅, h₆, h₇, h₈, h₉] using h

/-- With a fresh table and φ at β the nine conditions hold. -/
theorem aboutToClaim_holds (i : Fin 9) : LiftHolds aboutToClaim liftOrder[i] := by
  match i with
  | 0 => show _ ≠ _; decide +kernel
  | 1 => show _ = _; decide +kernel
  | 2 => exact .inr ⟨9#8, rfl, 4, standingLeg .lh (-300) 180, by decide +kernel⟩
  | 3 => show _ ∧ _; decide +kernel
  | 4 => show ∀ i : Fin 8, _; decide +kernel
  | 5 =>
    intro p hp
    cases p with
    | lf => exact absurd hp (by decide +kernel)
    | rf => exact ⟨3, standingLeg .rf 320 (-180), by decide +kernel⟩
    | lh => exact ⟨4, standingLeg .lh (-300) 180, by decide +kernel⟩
    | rh => exact ⟨6, standingLeg .rh (-300) (-180), by decide +kernel⟩
  | 6 =>
    intro n
    refine of_option (P := fun l : LegPart => _ → l.state ≠ .claim ∧ l.state ≠ .unload ∧ l.state ≠ .swing ∧
      l.state ≠ .search ∧ l.state ≠ .load) ?_
    revert n; decide +kernel
  | 7 =>
    intro n
    refine of_option (P := fun l : LegPart => _ → l.slip = false) ?_
    revert n; decide +kernel
  | 8 => exact ⟨7, by decide +kernel⟩

/-- In STANCE with a fresh table and φ at β: the nine conditions hold on the judged records; one period earlier in phase the
second fails. -/
theorem witness_StanceExpiryDecides :
    let s := { aboutToClaim with pe := { aboutToClaim.pe with checkPending := false } }
    s.pe.period = some 2000 ∧ s.pe.leg = .stance ∧ PositionsDistinct s ∧ (∀ n, ¬ ReadMarks (elapse s 2000) n) ∧
      (∀ i : Fin 9, LiftHolds (aged (expiring s 2000)) liftOrder[i]) ∧
      ¬ LiftHolds (aged (expiring { s with pe := { s.pe with phi := 49086#16 } } 2000)) liftOrder[(1 : Fin 9)] ∧
      aboutToClaim.pe.checkPending = true := by
  refine ⟨by decide +kernel, by decide, witness_PositionsDistinct_any _ rfl rfl rfl (by decide),
    unmarked (by decide +kernel), fun i => ?_, by show ¬ (_ = _); decide +kernel, by decide⟩
  rw [Laws.aged_of_unmarked (unmarked (by decide +kernel))]
  exact liftHolds_of _ aboutToClaim _ rfl rfl rfl (by decide +kernel) rfl rfl rfl rfl rfl (aboutToClaim_holds i)

/-- One second later every record is past its limit: the reads mark them, and INTENT fails. -/
theorem witness_StanceExpiryDecides_aged :
    let s : State := { aboutToClaim with
      pe := { aboutToClaim.pe with checkPending := false }, time := { aboutToClaim.time with us := 3000000#32 } }
    s.pe.period = some 2000 ∧ s.pe.leg = .stance ∧ PositionsDistinct s ∧ ReadMarks (elapse s 2000) 5 ∧
      ReadMarks (elapse s 2000) 7 ∧ ¬ LiftHolds (aged (expiring s 2000)) liftOrder[(0 : Fin 9)] ∧
      (after (exec (.controlPeriodExpiry 2000) s)).pe.wait = .intent := by
  refine ⟨by decide +kernel, by decide, witness_PositionsDistinct_any _ rfl rfl rfl (by decide),
    ⟨_, rfl, by decide +kernel⟩, ⟨_, rfl, by decide +kernel⟩, ?_, by decide +kernel⟩
  show ¬ (_ ≠ _); decide +kernel

/-- An Intent in STAND, and no MISSION station in the roster. -/
theorem witness_StanceExpiryDecides_intent :
    (standing .stance).stationOf .mission = some 5 ∧ ((standing .stance).record 5) = freshRecord (.mission crawlIntent) ∧
      ready.stationOf .mission = some 5 ∧ fresh ready 5 = false := by decide +kernel

/-- UNLOAD with the force at 59, one below T_UNLOAD, and at 60; LOAD with the foot LOADED and in TOUCH. -/
theorem witness_StepExpiryDecides :
    let u (f : Int) : State := { standing .unload with fsu := { ready.fsu with az := { Axis.reset with out := f } } }
    (u 59).pe.period = some 2000 ∧ (u 59).pe.leg ≠ .setup ∧ PositionsDistinct (u 59) ∧ BoxSane (u 59) ∧ (∀ n, ¬ ReadMarks (elapse (u 59) 2000) n) ∧
      aged (expiring (u 60) 2000) = expiring (u 60) 2000 ∧
      unloaded (u 59) = true ∧ unloaded (u 60) = false ∧ (u 60).pe.checkPending = false ∧
      (∀ n l, (expiring (u 60) 2000).legOf n = some l → fresh (expiring (u 60) 2000) n = true → l.slip = false) ∧
      (expiring (u 60) 2000).stationOf .body = some 7 ∧ fresh (expiring (u 60) 2000) 7 = true ∧
      (standing .load).fsu.contact = .loaded ∧
      { standing .load with fsu := { ready.fsu with contact := .touch } }.fsu.contact ≠ .loaded ∧
      (claiming false).pe.leg = .claim ∧ QueueOrdered (claiming false) := by
  refine ⟨by decide, by decide, witness_PositionsDistinct_any _ rfl rfl rfl (by decide), by simp only [BoxSane]; decide +kernel,
    unmarked (by decide +kernel), Laws.aged_of_unmarked (unmarked (by decide +kernel)), by decide +kernel, by decide +kernel, rfl, fun n => ?_, by decide +kernel, by decide +kernel,
    by decide +kernel, by decide +kernel, by decide +kernel, witness_QueueOrderedKept⟩
  refine of_option (P := fun l : LegPart => _ → l.slip = false) ?_
  revert n; decide +kernel

/-- R87 in UNLOAD: while a check is pending a loaded foot makes no second request and a body record lost to the table cancels
nothing, an unloaded one enters SWING (R121); with the mark clear the lost body record cancels. -/
theorem witness_StepExpiryDecides_pending :
    let u (f : Int) (m : Bool) : State := { standing .unload with
      fsu := { ready.fsu with az := { Axis.reset with out := f } }, pe := { (standing .unload).pe with checkPending := m } }
    let leg (s : State) := (after (exec (.controlPeriodExpiry 2000) s)).pe.leg
    (u 60 true).pe.period = some 2000 ∧ (u 60 true).pe.leg = .unload ∧
      PositionsDistinct (u 60 true) ∧ BoxSane (u 60 true) ∧ unloaded (u 60 true) = false ∧ (u 60 true).pe.checkPending = true ∧
      (after (exec (.controlPeriodExpiry 2000) (u 60 true))).scu.checking = false ∧
      (after (exec (.controlPeriodExpiry 2000) (u 60 false))).scu.checking = true ∧
      leg (u 59 true) = .swing ∧ leg { u 60 true with pt := PeerTable.reset } = .unload ∧
      leg { u 60 false with pt := PeerTable.reset } = .stance := by
  refine ⟨rfl, rfl, witness_PositionsDistinct_any _ rfl rfl rfl (by decide), by simp only [BoxSane]; decide +kernel, ?_⟩
  decide +kernel

/-- The foot of a standing leg in STANCE, CLAIM and UNLOAD, at the box's edge and off it. -/
theorem witness_StandingMoves :
    (standing .stance).pe.period = some 2000 ∧ (standing .stance).pe.leg ≠ .setup ∧ BoxSane (standing .stance) ∧
      (after (exec (.controlPeriodExpiry 2000) (standing .stance))).pe.leg = .stance ∧
      (after (exec (.controlPeriodExpiry 2000) (claiming false))).pe.leg = .claim ∧
      (let s := { standing .stance with tu := { ready.tu with p := { x := 450000, y := 180000, z := -520000 }, frozen := true } }
      BoxSane s ∧ (after (exec (.controlPeriodExpiry 2000) s)).tu.stanceLimit = false ∧
        StanceFrozen s (after (exec (.controlPeriodExpiry 2000) s))) := by
  refine ⟨by decide, by decide, by simp only [BoxSane]; decide +kernel, by decide +kernel, by decide +kernel,
    by simp only [BoxSane]; decide +kernel, by decide +kernel, .inl rfl⟩

/-- A frozen foot 1 mm outside the box: the clamp reports WORKSPACE_CLAMP, which is latched, recorded and first. -/
theorem witness_StandingMoves_clamp :
    let s := { standing .stance with tu := { ready.tu with p := { x := 451000, y := 180000, z := -520000 }, frozen := true } }
    let t := after (exec (.controlPeriodExpiry 2000) s)
    BoxSane s ∧ s.pe.period = some 2000 ∧ s.tu.clampCond = false ∧ s.flt.first = none ∧ t.pe.leg = .stance ∧
      t.tu.clampCond = true ∧ latchNote s .workspaceClamp = [{ bit := 4, code := 0x01, detail := 0x18#8 }] ∧
      firstAfter s (latchNote s .workspaceClamp) = some { code := .workspaceClamp, epoch := s.time.epoch } := by
  simp only [BoxSane]; decide +kernel

/-- R92, 3 mm above the stance z and with no BODY record: the expiry that cancels leaves z, the next one lowers it by 250 µm. -/
theorem witness_StandingMoves_cancel :
    let s := { standing .unload with
      pt := PeerTable.reset, fsu := { ready.fsu with az := { Axis.reset with out := 60 } }, tu := { ready.tu with p := { ready.tu.p with z := -517000 }, stanceZ := -520000 } }
    let t := after (exec (.controlPeriodExpiry 2000) s)
    BoxSane s ∧ s.pe.period = some 2000 ∧ s.pe.leg = .unload ∧ t.pe.leg = .stance ∧ t.tu.p.z = -517000 ∧
      t.tu.lowering = true ∧ (after (exec (.controlPeriodExpiry 2000) t)).tu.p.z = -517250 := by
  simp only [BoxSane]; decide +kernel

/-- A stub rise, a descent, a re-place rise, a press, and each HOLD motion. -/
theorem witness_FootMoves :
    BoxSane swinging ∧ swinging.pe.leg ≠ .setup ∧ { swinging with pe := { swinging.pe with stubRise := true } }.pe.period = some 2000 ∧
      BoxSane (searching 0) ∧ (searching 0).pe.period = some 2000 ∧ (searching 0).pe.replacing = false ∧
      (let s := { standing .load with fsu := { ready.fsu with contact := .touch } }
      BoxSane s ∧ s.pe.period = some 2000 ∧ s.fsu.contact ≠ .loaded) ∧
      (∀ o : LegState, o = .stance ∨ o = .claim ∨ o = .unload ∨ o = .swing ∨ o = .search ∨ o = .load →
        let s := { standing .hold with pe := { (standing .hold).pe with origin := some o } }
        BoxSane s ∧ s.pe.period = some 2000 ∧ s.pe.leg = .hold) := by
  simp only [BoxSane]
  refine ⟨by decide +kernel, by decide, by decide, by decide +kernel, by decide, by decide, by decide +kernel, ?_⟩
  rintro o (rfl | rfl | rfl | rfl | rfl | rfl) <;> decide +kernel

/-- The last period of a swing, of a stub rise and of a re-place rise, and a descent that reaches its bottom. -/
theorem witness_MotionEnds :
    (let s := { swinging with tu := { swinging.tu with plan := { swinging.tu.plan with k := 249 } } }
    s.pe.period = some 2000 ∧ s.pe.leg = .swing ∧ s.pe.stubRise = false ∧ s.tu.plan.k + 1 = s.tu.plan.kEnd ∧
      s.fsu.contact = .air ∧ s.pe.deadlinePassed = false) ∧
    (let s := { swinging with
      pe := { swinging.pe with stubRise := true }, tu := { swinging.tu with stub := { z := -500000, k := 60, d0 := 0, j := 24 } } }
    s.pe.stubRise = true ∧ s.tu.stub.j + 1 = 25) ∧
    (let s := { searching 1 with tu := { (searching 1).tu with
      plan := { swinging.tu.plan with z0 := -510000 }, p := { x := 300000, y := 180000, z := -549900 } } }
    s.pe.leg = .search ∧ descentZ s = bottomOf s ∧ s.replaceMax ≤ s.pe.attempts) ∧
    (let s := { searching 0 with
      pe := { (searching 0).pe with replacing := true }, tu := { ready.tu with rise := { RisePath.reset with j := 49 } } }
    s.pe.replacing = true ∧ s.tu.rise.j + 1 = 50) := by decide +kernel

/-- A pass in STANCE whose conditions hold, and one whose margin of 100 is below MARGIN_M. -/
theorem witness_SupportCheckActs :
    let sn : Snapshot :=
      { own := .lf, gait := .crawl, com := ⟨-180, -80⟩
        feet := [⟨.rf, ⟨320, -180⟩⟩, ⟨.lh, ⟨-300, 180⟩⟩, ⟨.rh, ⟨-300, -180⟩⟩] }
    aboutToClaim.scu.inFlight = some sn ∧ aboutToClaim.pe.checkPending = true ∧ aboutToClaim.pe.leg = .stance ∧
      (checkResult sn aboutToClaim.marginM aboutToClaim.corridorW aboutToClaim.swayMax).pass = true ∧
      (liftConditions aboutToClaim).2 = none ∧ (liftConditions aboutToClaim).1.txq.frames.length < 8 ∧
      (checkResult sn 101 30 60).pass = false := by decide +kernel

/-- A pass whose conditions all hold at the result, one whose second fails there, and a fail in UNLOAD. -/
theorem witness_SupportCheckActs_retest :
    let u : State := { aboutToClaim with pe := { aboutToClaim.pe with checkPending := false } }
    PositionsDistinct aboutToClaim ∧ (∀ n, ¬ ReadMarks aboutToClaim n) ∧ aged u = u ∧
      (∀ i : Fin 9, LiftHolds u liftOrder[i]) ∧
      (∀ j : Fin 9, j < 1 → LiftHolds { u with pe := { u.pe with phi := 49086#16 } } liftOrder[j]) ∧
      ¬ LiftHolds { u with pe := { u.pe with phi := 49086#16 } } liftOrder[(1 : Fin 9)] ∧ u.txq.frames.length < 8 ∧
      (let s := { standing .unload with
        pe := { (standing .unload).pe with checkPending := true }
        scu := { aboutToClaim.scu with inFlight := some { own := .lf, gait := .crawl, feet := [], com := ⟨0, 0⟩ } } }
      s.pe.checkPending = true ∧ s.pe.leg = .unload ∧
        (checkResult { own := .lf, gait := .crawl, feet := [], com := ⟨0, 0⟩ } s.marginM s.corridorW s.swayMax).pass = false) := by
  refine ⟨witness_PositionsDistinct_any _ rfl rfl rfl (by decide), unmarked (by decide +kernel),
    Laws.aged_of_unmarked (unmarked (by decide +kernel)), fun i => liftHolds_of _ aboutToClaim _ rfl rfl rfl rfl rfl rfl rfl rfl rfl (aboutToClaim_holds i), ?_,
    by show ¬ (_ = _); decide +kernel, by decide, by decide +kernel⟩
  intro j hj
  have : j = 0 := by omega
  subst this; show _ ≠ _; decide +kernel

/-- The notice locked and unlocked at the expiry, and an unload with six frames waiting. -/
theorem witness_DeadlinesExpire :
    (claiming true).pe.claimT = some 0 ∧ (claiming true).pe.leg = .claim ∧ liftLocked (claiming true) = true ∧
      liftLocked (claiming false) = false ∧
      (let s := { standing .unload with
        pe := { (standing .unload).pe with unloadT := some 5 }, txq := { ready.txq with frames := sixNotices } }
      s.pe.unloadT = some 5 ∧ s.pe.leg = .unload ∧ s.txq.frames.length ≤ 6) := by decide +kernel

/-- REPLACE_MAX is 1: the first exhaustion replaces, the second has no foothold. -/
theorem witness_FootholdTimerExpires :
    swinging.pe.footholdT = some 0 ∧ swinging.pe.leg = .swing ∧ (searching 0).pe.footholdT = some 0 ∧
      (searching 0).pe.leg = .search ∧ (searching 0).pe.replacing = false ∧ (searching 0).pe.attempts < (searching 0).replaceMax ∧
      (searching 1).replaceMax ≤ (searching 1).pe.attempts := by decide +kernel

theorem witness_DeadlinesExpire_load :
    let s := { standing .load with pe := { (standing .load).pe with loadT := some 200, slipT := some 200 } }
    s.pe.loadT = some 200 ∧ s.pe.leg = .load ∧ s.pe.slipT = some 200 := by decide +kernel

/-- The epoch 1010 is due for both entries, 1001 for none. -/
theorem witness_EpochTicks :
    let s := { ready with time := { ready.time with epoch := 1009#16 } }
    s.time.epochTimer = some 500 ∧ legReportDue { s with time := { s.time with epoch := 1010#16 } } = true ∧
      footDetailDue { s with time := { s.time with epoch := 1010#16 } } = true ∧
      legReportDue { s with time := { s.time with epoch := 1001#16 } } = false ∧ s.txq.frames.length ≤ 6 := by
  decide +kernel

/-- The worked case of section 6.6: the request (−60, −50) is reported as (−30, −25) while the wait reason is MARGIN. -/
theorem witness_EpochTicks_report :
    let s := { standing .stance with pe := { (standing .stance).pe with wait := .margin, ownSway := some ⟨-60, -50⟩ } }
    s.tu.measured.x.natAbs ≤ 3276800 ∧ s.pe.wait = .margin ∧ ready.pe.wait ≠ .margin ∧
      (byteAt (legReportPayload s) 10).toInt = -30 ∧ (byteAt (legReportPayload s) 11).toInt = -25 := by decide +kernel

/-- A pair in one place, and a pair apart, of the diagonal that is not the node's own. -/
theorem witness_SupportTestsSafe_corridor :
    relation .rf .lh = .diagonal ∧ LegPos.rf ≠ .lf ∧ LegPos.lh ≠ .lf ∧ (⟨300, -170⟩ : P2) ≠ ⟨-300, 170⟩ ∧
      checkResult ⟨.lf, .diagonal, [⟨.rf, ⟨300, -170⟩⟩, ⟨.lh, ⟨300, -170⟩⟩], ⟨0, 0⟩⟩ 40 30 60 =
        { pass := false, reason := .supportCount, n := 2, margin := -2048, sway := none } ∧
      ¬ Between ⟨300, -170⟩ ⟨-300, 170⟩ ⟨400, -200⟩ := by simp only [Between]; decide +kernel

theorem witness_SupportTestsSafe :
    area2 ⟨320, -180⟩ ⟨-300, 180⟩ ⟨-300, -180⟩ = 223200 ∧ area2 ⟨320, -180⟩ ⟨-300, -180⟩ ⟨-300, 180⟩ < 0 ∧
      area2 ⟨0, 0⟩ ⟨10, 10⟩ ⟨20, 20⟩ = 0 ∧ otherDiagonal .lf .rf .lh = true := by decide

end Sys2Proof.Tests
end

section
/-! Frames on the stride bus that the node does not take: what a frame command does to a node that waits for the interframe
space (R7), and the claim byte of an unknown kind that sends it there (R10). -/

namespace Sys2Proof.StrideBus
open Sys2Proof Sys2Proof.Machine Sys2Proof.Laws

/-! ## A node that waits for the interframe space (R7) -/

/-- The node is not transmitting, and its receive engine ignores the line until the next interframe space (R7). -/
def Deaf (s : State) : Prop := transmitting s = false ∧ s.sbi.rx = .waitIdle

/-- `t` is `s` but for the counts of recessive and dominant bit times. -/
def BitCountsOnly (s t : State) : Prop :=
  ∃ k d, t = { s with sbi := { s.sbi with recessive := k, dominant := d } }

theorem deaf_elapse {s : State} (h : Deaf s) (dt : Nat) : Deaf (elapse s dt) := by
  obtain ⟨htx, hrx⟩ := h
  exact ⟨by simp [htx], by simp [hrx]⟩

theorem bitCountsOnly_refl (s : State) : BitCountsOnly s s := ⟨s.sbi.recessive, s.sbi.dominant, rfl⟩

theorem bitCountsOnly_notHeard (s : State) (n : Nat) : BitCountsOnly s (notHeard s n) := ⟨n, 0, rfl⟩

section WaitIdle
variable {s : State} (h : Deaf s)
include h

theorem receive_deaf (ok : Bool) (f : RxFrame) (k : FrameKind) (deliver : State → State) :
    BitCountsOnly s (receive s ok f k deliver) := by
  unfold receive
  split
  · exact bitCountsOnly_refl s
  · rw [if_pos h.2]; exact bitCountsOnly_notHeard s 0

theorem failReception_deaf (ok : Bool) (n : Nat) (count : State → State) :
    BitCountsOnly s (failReception s ok n count) := by
  unfold failReception
  split
  · exact bitCountsOnly_refl s
  · rw [if_pos h.2]; exact bitCountsOnly_notHeard s n

/-- In WAIT_IDLE a glitch cannot be the start edge of a frame, so it only starts the recessive time again (R5, R7). -/
theorem passGlitch_deaf (got : List Byte) : BitCountsOnly s (passGlitch s got) := by
  obtain hg | ⟨hrx, -, -⟩ | hg := passGlitch_cases s got
  · rw [hg]; exact bitCountsOnly_refl s
  · exact absurd (h.2.symm.trans hrx) (by decide)
  · rw [hg]; exact bitCountsOnly_notHeard s 0

end WaitIdle

/-- R7, R9: until the next interframe space a frame command, whatever it carries, reaches no block. -/
theorem frameCommand_deaf {c : Instr} {s : State} {dt : Nat} (h : Deaf s) (hc : frameCommand c = true)
    (hdt : dtOf c = some dt) : ∃ t, exec c s = .next t ∧ BitCountsOnly (elapse s dt) t := by
  have he : Deaf (elapse s dt) := deaf_elapse h dt
  cases c <;> cases hdt
  case setupFrame | alarmReceived | phaseNoticeReceived | legReportReceived | bodyReportReceived | intentReceived | start |
      restart | resume | clearFaults | query | eventTest => exact ⟨_, rfl, receive_deaf he ..⟩
  case truncation | claimParityError | unknownKind | checkError => exact ⟨_, rfl, failReception_deaf he ..⟩
  case framingError got field =>
    refine ⟨_, rfl, ?_⟩
    split
    · exact passGlitch_deaf he got
    · exact failReception_deaf he ..
  case stationClash | infoFrameReceived =>
    refine ⟨_, rfl, ?_⟩
    split
    · exact receive_deaf he ..
    · exact bitCountsOnly_refl _
  all_goals cases hc

/-! ## A frame that fails (R8 to R10) -/

theorem hears_elapse {s : State} (h : Hears s) (dt : Nat) : Hears (elapse s dt) := by
  obtain ⟨htx, hrx⟩ := h
  exact ⟨by simp [htx], by simpa using hrx⟩

/-- A failing frame that is heard is counted and leaves the state of `unheard`. -/
theorem failReception_heard {s : State} {ok : Bool} (h : Hears s) (dt n : Nat) (count : State → State) (hok : ok = true) :
    failReception (elapse s dt) ok n count = count (unheard s dt n) := by
  obtain ⟨htx, hrx⟩ := hears_elapse h dt
  simp only [failReception, htx, hok, hrx, Bool.not_true, Bool.or_self, Bool.false_eq_true, if_false]
  rfl

theorem unheard_counters (s : State) (dt n : Nat) : (unheard s dt n).sbi.counters = s.sbi.counters := by
  simp [unheard]

theorem unheard_deaf {s : State} (h : transmitting s = false) (dt n : Nat) : Deaf (unheard s dt n) :=
  ⟨(transmitting_elapse s dt).trans h, rfl⟩

/-- No frame kind has the code 0 or a code above 10 (R6). -/
theorem kindOfCode_eq_none {n : Nat} (h : n = 0 ∨ 11 ≤ n) : kindOfCode n = none := by
  unfold kindOfCode
  split
  case h_11 => rfl
  all_goals omega

/-- Good parity and a kind code of 0 or 11 to 15 make an unknown kind (R10). -/
theorem unknownClaim_of_code {b : Byte} (hp : ((List.range 8).filter b.getLsbD).length % 2 = 0)
    (hk : b.toNat / 16 = 0 ∨ 11 ≤ b.toNat / 16) : unknownClaim b = true := by
  have heven : evenOnes b = true := by simpa [evenOnes] using hp
  have hnone : kindOfCode (claimCode b) = none := kindOfCode_eq_none hk
  simp [unknownClaim, heven, hnone]

/-- Settles O23: the engine that has counted the unknown kind is deaf, and a deaf one hears no frame command. -/
theorem unknownKindIgnored : Obligations.UnknownKindIgnored := by
  intro dt s b hears hp hk u t
  have ht : countUnknown u = t := by
    simp only [countUnknown, withCounters, u, t, unheard_counters]
  have hdeaf : Deaf t := unheard_deaf hears.1 dt 0
  refine ⟨?_, hdeaf.2, fun c dt' hc hdt => ?_⟩
  · rw [← ht]
    exact congrArg _ (failReception_heard hears dt 0 countUnknown (unknownClaim_of_code hp hk))
  · obtain ⟨_, hexec, k, d, rfl⟩ := frameCommand_deaf hdeaf hc hdt
    exact ⟨k, d, hexec⟩

end Sys2Proof.StrideBus
end

section
/-! The Setup Block over all commands: what each owner of an event leaves of it, and the Setup frames that it takes (R29) or
does not take (R30, R36). -/

namespace Sys2Proof.SetupKept
open Sys2Proof Sys2Proof.Machine Sys2Proof.Laws

/-! ## The owners of frames from peers -/

@[simp] theorem stationClash_setup (s : State) (k : FrameKind) : (stationClash s k).setup = s.setup := by
  simp [stationClash]

@[simp] theorem takeAlarm_setup (s : State) (src : Fin 8) (cause : Byte) : (takeAlarm s src cause).setup = s.setup := by
  simp only [takeAlarm]; (repeat' split) <;> simp

@[simp] theorem hearLift_setup (s : State) (src : Fin 8) : (hearLift s src).setup = s.setup := by
  unfold hearLift; (repeat' split) <;> simp

@[simp] theorem namedInConflict_setup (s : State) (src : Fin 8) : (namedInConflict s src).setup = s.setup := by
  unfold namedInConflict; split <;> simp

@[simp] theorem hearNotice_setup (s : State) (src : Fin 8) (f : RxFrame) : (hearNotice s src f).setup = s.setup := by
  unfold hearNotice; (repeat' split) <;> simp

@[simp] theorem takeNotice_setup (s : State) (src : Fin 8) (f : RxFrame) : (takeNotice s src f).setup = s.setup := by
  unfold takeNotice; split <;> simp

@[simp] theorem takeLegReport_setup (s : State) (src : Fin 8) (f : RxFrame) :
    (takeLegReport s src f).setup = s.setup := by
  unfold takeLegReport; split <;> simp

/-! ## The owners of Control commands -/

@[simp] theorem takeStart_setup (s : State) : (takeStart s).setup = s.setup := by
  unfold takeStart; (repeat' split) <;> simp [beginWalk]

/-- RESTART gives no value to the Setup Block (R38). -/
@[simp] theorem restartNode_setup (s : State) : (restartNode s).setup = s.setup := by
  unfold restartNode; split <;> simp [restartBlocks]

@[simp] theorem recordHeldAlarms_setup (s : State) : (recordHeldAlarms s).setup = s.setup := by
  unfold recordHeldAlarms; split <;> simp

@[simp] theorem resumeEnter_setup (s : State) : (resumeEnter s).setup = s.setup := by
  unfold resumeEnter; split <;> rfl

@[simp] theorem takeResume_setup (s : State) : (takeResume s).setup = s.setup := by
  unfold takeResume; (repeat' split) <;> simp [refuseResume, resumeWalk, leaveHold]

@[simp] theorem takeClear_setup (s : State) : (takeClear s).setup = s.setup := by
  simp [takeClear, dropFlags]

@[simp] theorem takeQuery_setup (s : State) (block : Byte) : (takeQuery s block).setup = s.setup := by
  unfold takeQuery; split <;> simp

@[simp] theorem command_setup (s : State) (f : RxFrame) (code : Nat) (act : State → State)
    (hact : (act s).setup = s.setup) : (command s f code act).setup = s.setup := by
  simp only [command]; (repeat' split) <;> simp [hact]

/-! ## The owners of line and link events -/

@[simp] theorem enterIdle_setup (s : State) : (enterIdle s).setup = s.setup := by
  unfold enterIdle recoverLine; split <;> simp

@[simp] theorem loseArbitration_setup (s : State) (f : TxFrame) : (loseArbitration s f).setup = s.setup := by
  unfold loseArbitration; dsimp only; split <;> simp

@[simp] theorem tellAborted_setup (s : State) (f : TxFrame) : (tellAborted s f).setup = s.setup := by
  unfold tellAborted; split <;> simp

@[simp] theorem abortFrame_setup (s : State) (f : TxFrame) : (abortFrame s f).setup = s.setup := by
  simp [abortFrame]

@[simp] theorem tellCompleted_setup (s : State) (f : TxFrame) : (tellCompleted s f).setup = s.setup := by
  unfold tellCompleted; (repeat' split) <;> simp

@[simp] theorem completeFrame_setup (s : State) (f : TxFrame) : (completeFrame s f).setup = s.setup := by
  simp [completeFrame]

@[simp] theorem acceptSample_setup (s : State) (l : List Byte) : (acceptSample s l).setup = s.setup := by
  unfold acceptSample; split <;> simp

@[simp] theorem closeReply_setup (s : State) : (closeReply s).setup = s.setup := by
  unfold closeReply; split <;> simp

@[simp] theorem raiseDriveFault_setup (s : State) (off : Bool) : (raiseDriveFault s off).setup = s.setup := by
  unfold raiseDriveFault; split <;> simp

@[simp] theorem endDriveFault_setup (s : State) : (endDriveFault s).setup = s.setup := by
  unfold endDriveFault; split <;> simp

@[simp] theorem driveReply_setup (s : State) (d : DriveState) (q : P3) : (driveReply s d q).setup = s.setup := by
  cases d with
  | off => simp only [driveReply]; split <;> simp
  | _ => simp [driveReply, handStatus, takeMeasured]

@[simp] theorem missReply_setup (s : State) : (missReply s).setup = s.setup := by
  unfold missReply; dsimp only; split <;> simp

/-! ## The owners of the node's own clock -/

@[simp] theorem expireClaim_setup (s : State) : (expireClaim s).setup = s.setup := by
  unfold expireClaim; dsimp only; split <;> simp

@[simp] theorem expireFoothold_setup (s : State) : (expireFoothold s).setup = s.setup := by
  unfold expireFoothold; (repeat' split) <;> simp

@[simp] theorem expireLoad_setup (s : State) : (expireLoad s).setup = s.setup := by simp [expireLoad]

@[simp] theorem expireSlip_setup (s : State) : (expireSlip s).setup = s.setup := by simp [expireSlip]

@[simp] theorem tickEpoch_setup (s : State) : (tickEpoch s).setup = s.setup := by simp [tickEpoch]

@[simp] theorem foldl_judge_setup (l : List (Fin 8)) (s : State) : (l.foldl judge s).setup = s.setup :=
  foldl_keeps judge State.setup (fun t n => by simp) l s

/-! ## Arrival on either side -/

/-- An arriving frame that its owner does not get leaves the Setup Block (R7, R14 to R16, R23). -/
theorem receive_setup_or (s : State) (ok : Bool) (f : RxFrame) (k : FrameKind) (deliver : State → State) :
    (receive s ok f k deliver).setup = s.setup ∨
      receive s ok f k deliver = deliver (countGood (endReception s 0)) := by
  unfold receive screen; (repeat' split) <;> simp

theorem receive_setup (s : State) (ok : Bool) (f : RxFrame) (k : FrameKind) (deliver : State → State)
    (hd : ∀ t, (deliver t).setup = t.setup) : (receive s ok f k deliver).setup = s.setup := by
  obtain h | h := receive_setup_or s ok f k deliver
  · exact h
  · simp [h, hd]

theorem receiveControl_setup (s : State) (f : RxFrame) (code : Nat) (act : State → State)
    (hact : ∀ t, (act t).setup = t.setup) : (receiveControl s f code act).setup = s.setup :=
  receive_setup _ _ _ _ _ fun t => command_setup t f code act (hact t)

theorem failReception_setup (s : State) (ok : Bool) (n : Nat) (count : State → State)
    (hc : ∀ t, (count t).setup = t.setup) : (failReception s ok n count).setup = s.setup := by
  unfold failReception; (repeat' split) <;> simp [hc]

theorem failUncounted_setup (s : State) (ok : Bool) (n : Nat) (count : State → State)
    (hc : ∀ t, (count t).setup = t.setup) : (failUncounted s ok n count).setup = s.setup := by
  refine failReception_setup s ok n _ fun t => ?_
  split
  · rfl
  · exact hc t

theorem footFrame_setup (s : State) (ok : Bool) (take : State → State) (ht : ∀ t, (take t).setup = t.setup) :
    (footFrame s ok take).setup = s.setup := by
  unfold footFrame; split <;> simp [ht]

/-- A command that is no full reset and no Setup frame leaves the whole Setup Block as it was (R36). -/
theorem exec_setup {c : Instr} {s t : State} (h : exec c s = .next t) (hreset : ∀ n r, c ≠ .fullReset n r)
    (hframe : ∀ dt f, c ≠ .setupFrame dt f) : t.setup = s.setup := by
  cases c <;> cases h
  case fullReset n r => exact absurd rfl (hreset n r)
  case setupFrame dt f => exact absurd rfl (hframe dt f)
  case alarmReceived | phaseNoticeReceived | legReportReceived | bodyReportReceived | intentReceived =>
    exact receive_setup _ _ _ _ _ fun t => by simp
  case start | restart | resume | clearFaults | query | eventTest =>
    exact receiveControl_setup _ _ _ _ fun t => by simp
  case stationClash | infoFrameReceived =>
    split
    · exact receive_setup _ _ _ _ _ fun _ => rfl
    · rfl
  case claimParityError | unknownKind => exact failReception_setup _ _ _ _ fun _ => rfl
  case truncation | checkError => exact failUncounted_setup _ _ _ _ fun _ => rfl
  case framingError =>
    split
    · simp
    · exact failUncounted_setup _ _ _ _ fun _ => rfl
  case forceSampleGood | forceSampleBad | forceSampleUnfit => exact footFrame_setup _ _ _ fun t => by simp
  -- the other rows call one of the owners above, or none, behind the guards of their event
  all_goals (repeat' split) <;> simp

/-! ## Setup frames (R29, R30) -/

/-- The Setup frames that R29 stores: in SETUP, naming this node, with the pointer's index or 0, which restarts the order. -/
def InOrder (s : State) (f : RxFrame) : Prop :=
  s.pe.leg = .setup ∧ (f.b 0).toNat = s.sbi.station.val ∧ ((f.b 1).toNat = s.setup.ptr ∨ (f.b 1).toNat = 0)

theorem takeSetup_out_of_order {s : State} {i : Nat} (hptr : i ≠ s.setup.ptr) (hzero : i ≠ 0) (v : Half) :
    takeSetup s i v = refuseSetup s := by
  unfold takeSetup; split <;> simp [hptr, hzero]

/-- A Setup frame outside the order is passed over or refused (R29, R30). -/
theorem handSetup_of_not_inOrder {s : State} {f : RxFrame} (h : ¬ InOrder s f) :
    handSetup s f = s ∨ handSetup s f = refuseSetup s := by
  unfold handSetup
  split
  next hname =>
    refine .inr ?_
    split
    next hleg =>
      have hidx : ¬ ((f.b 1).toNat = s.setup.ptr ∨ (f.b 1).toNat = 0) := fun hi => h ⟨hleg, hname, hi⟩
      rw [not_or] at hidx
      exact takeSetup_out_of_order hidx.1 hidx.2 _
    next => rfl
  next => exact .inl rfl

/-- A Setup frame outside the order leaves the Setup Block but for the count of refused frames (R29, R30). -/
theorem execSetupFrame_of_not_inOrder {s t : State} {dt : Nat} {f : RxFrame} (h : exec (.setupFrame dt f) s = .next t)
    (hout : ¬ InOrder s f) : ∃ r, t.setup = { s.setup with refused := r } := by
  cases h
  obtain h | h := receive_setup_or (elapse s dt) (goodOfKind .setup f) f .setup fun u => handSetup u f
  · exact ⟨s.setup.refused, h⟩
  · rw [h]
    have hout' : ¬ InOrder (countGood (endReception (elapse s dt) 0)) f := by simpa [InOrder] using hout
    obtain h | h := handSetup_of_not_inOrder hout'
    · exact ⟨s.setup.refused, by simp [h]⟩
    · exact ⟨satInc s.setup.refused, by simp [h, refuseSetup]⟩

/-- What a command can do to the Setup Block (R36): it is a full reset, or a Setup frame in pointer order, or it moves at most
the count of refused frames. -/
theorem exec_setup_cases {c : Instr} {s t : State} (h : exec c s = .next t) :
    (∃ n r, c = .fullReset n r) ∨ (∃ dt f, c = .setupFrame dt f ∧ InOrder s f) ∨
      ∃ r, t.setup = { s.setup with refused := r } := by
  by_cases hreset : ∃ n r, c = .fullReset n r
  · exact .inl hreset
  by_cases hframe : ∃ dt f, c = .setupFrame dt f
  · obtain ⟨dt, f, rfl⟩ := hframe
    by_cases hord : InOrder s f
    · exact .inr (.inl ⟨dt, f, rfl, hord⟩)
    · exact .inr (.inr (execSetupFrame_of_not_inOrder h hord))
  · push Not at hreset hframe
    exact .inr (.inr ⟨s.setup.refused, exec_setup h hreset hframe⟩)

/-- The content of Diagnostic block 0: the summary, the clamp record with 0xFF for none, the leg state and the count of
refused frames (R26, R36). -/
theorem blockContent_zero (s : State) : blockContent s 0 =
    [s.setup.sumC2, s.setup.sumC1, s.setup.clampCount, (s.setup.firstClamped.map (BitVec.ofNat 8)).getD 0xFF#8,
     BitVec.ofNat 8 s.pe.leg.code, s.setup.refused, 0#8, 0#8, 0#8, 0#8] := by
  unfold blockContent
  cases s.setup.firstClamped <;> rfl

/-- Settles O14: a command that is neither a full reset nor a Setup frame in pointer order moves at most the count of refused
frames, and a Setup frame is in order in SETUP alone. -/
theorem setupKeptAfterRelease : Obligations.SetupKeptAfterRelease := by
  refine ⟨fun c s t h => ?_, fun c s t h hleg => ?_, blockContent_zero⟩
  · obtain hreset | ⟨dt, f, hc, hsetup, hname, hindex⟩ | ⟨r, hkept⟩ := exec_setup_cases h
    · exact .inl hreset
    · exact .inr (.inr ⟨hsetup, dt, f, hc, hname, hindex⟩)
    · exact .inr (.inl (by rw [hkept]))
  · obtain hreset | ⟨dt, f, -, hsetup, -⟩ | ⟨r, hkept⟩ := exec_setup_cases h
    · exact .inl hreset
    · exact absurd hsetup hleg
    · exact .inr (by simp [hkept])

/-- A good Setup frame of another station, heard, reaches the Setup Block in every leg state, whatever the sender's role (R15,
R16, R30). -/
theorem execSetupFrame_heard {s : State} {f : RxFrame} (h : FromPeer s f .setup) (dt : Nat) :
    exec (.setupFrame dt f) s = .next (handSetup (heard s dt) f) := by
  obtain ⟨⟨htx, hrx⟩, hgood, hsource⟩ := h
  have hreceive : receive (elapse s dt) (goodOfKind .setup f) f .setup (fun t => handSetup t f) =
      screen (heard s dt) f .setup fun t => handSetup t f := by
    simp [receive, htx, hrx, hgood]; rfl
  have hpeer : f.source ≠ (heard s dt).sbi.station := by simpa [heard] using hsource
  show Host.Outcome.next (receive ..) = _
  rw [hreceive, screen, if_neg hpeer]
  simp [takenInSetup, takenFrom]

/-- Settles O28: the frame reaches `handSetup`, whose branches are the two cases of R30. -/
theorem setupFrameNotTaken : Obligations.SetupFrameNotTaken := by
  refine ⟨fun dt s f h => ⟨fun hother => ?_, fun hown hleg => ?_⟩, fun s => by rw [blockContent_zero]; rfl,
    fun dt s t f h => ?_⟩
  · rw [execSetupFrame_heard h, handSetup, if_neg (by simpa [heard] using hother)]
  · rw [execSetupFrame_heard h, handSetup, if_pos (by simpa [heard] using hown), if_neg (by simpa [heard] using hleg)]
    rfl
  · rw [exec_setup h (by simp) (by simp)]

end Sys2Proof.SetupKept
end

section
/-! Intents (R48, R49): the frame that reaches the owner of its kind, the MISSION part that an Intent becomes, and the event
that its clamp set is recorded by. -/

namespace Sys2Proof.IntentStorage
open Sys2Proof Sys2Proof.Machine Sys2Proof.Laws

/-! ## What a recorded event leaves as it was (R158, R159) -/

theorem offerEvent_offered (s : State) : Offered s (offerEvent s) s.txq := by
  unfold offerEvent
  split
  · exact .inl rfl
  next r _ hring =>
    split
    · exact .inl rfl
    · exact .inr ⟨r, by simp [hring], placeFrame_txq s _⟩

theorem recordEvent_offered (s : State) (e : EventKind) (d : Byte) : Offered s (recordEvent s e d) s.txq := by
  unfold recordEvent
  split
  · have h := offerEvent_offered (addRecord s e d)
    simpa [Offered, State.eventFrame, State.newFrame] using h
  · exact .inl rfl

theorem onlyLogs_nil (s : State) : OnlyLogs s s [] := by
  simp [OnlyLogs, SameElsewhere, Logs, Offered]

/-- Recording an event does nothing else (R158, R159). -/
theorem recordEvent_onlyLogs (s : State) (e : EventKind) (d : Byte) :
    OnlyLogs s (recordEvent s e d) [{ bit := e.categoryBit, code := e.code, detail := d }] := by
  refine ⟨by simp [SameElsewhere], ?_, ?_, ?_, ?_, ?_, ?_, ?_, ?_, recordEvent_logs s e d, recordEvent_offered s e d⟩
  all_goals simp

/-! ## A frame that reaches the owner of its kind (R13, R15) -/

theorem receive_accepted {s : State} {f : RxFrame} {k : FrameKind} (h : Accepted s f k) (dt : Nat)
    (deliver : State → State) : receive (elapse s dt) (goodOfKind k f) f k deliver = deliver (heard s dt) := by
  obtain ⟨⟨⟨htx, hrx⟩, hgood, hsource⟩, hleg, hrole⟩ := h
  have hreceive : receive (elapse s dt) (goodOfKind k f) f k deliver = screen (heard s dt) f k deliver := by
    simp [receive, htx, hrx, hgood]; rfl
  have hpeer : f.source ≠ (heard s dt).sbi.station := by simpa [heard] using hsource
  have hwalks : (heard s dt).pe.leg ≠ .setup := by simpa [heard] using hleg
  have htaken : takenFrom k ((heard s dt).role f.source) = true := hrole
  rw [hreceive, screen, if_neg hpeer, if_neg hwalks, if_pos htaken]

/-! ## The clamps of R48 -/

/-- Of three values, the one that the gait selects (R48). -/
def byGait (g : Gait) (stand crawl diagonal : Int) : Int :=
  match g with
  | .stand => stand
  | .crawl => crawl
  | .diagonal => diagonal

/-- A velocity is held within ± the limit of its gait, and is free in STAND; `side` picks the velocity's limit. -/
theorem clampVelocity_eq_byGait (side : Int × Int × Int → Int) (hcrawl : 0 ≤ side (150, 80, 300))
    (hdiagonal : 0 ≤ side (400, 150, 600)) (g : Gait) (v : Int) :
    clampVelocity ((velocityLimits g).map side) v =
      byGait g v (max (-side (150, 80, 300)) (min (side (150, 80, 300)) v))
        (max (-side (400, 150, 600)) (min (side (400, 150, 600)) v)) := by
  cases g with
  | stand => rfl
  | crawl => exact clampInt_eq _ _ _ (by omega)
  | diagonal => exact clampInt_eq _ _ _ (by omega)

/-- A field clamped to bounds that are not negative differs from what it was exactly when its natural number does. -/
theorem clampInt_bne_natCast {lo hi : Int} (hlo : 0 ≤ lo) (hle : lo ≤ hi) (n : Nat) :
    (clampInt lo hi n != n) = ((clampInt lo hi n).toNat != n) := by
  rw [clampInt_eq _ _ _ hle, Bool.eq_iff_iff, bne_iff_ne, bne_iff_ne]
  omega

theorem decodeIntent_cycle (f : RxFrame) :
    (decodeIntent f).cycle = max 600 (min 4000 (halfAt f.payload 7).toNat) := by
  simp only [decodeIntent]
  rw [clampInt_eq _ _ _ (by omega)]
  omega

theorem decodeIntent_step (f : RxFrame) : (decodeIntent f).step = max 20 (min 180 (f.b 9).toNat) := by
  simp only [decodeIntent]
  rw [clampInt_eq _ _ _ (by omega)]
  omega

/-- A bit of the clamp set stands at its own place alone (R48). -/
theorem clampBit_getElem {i j : Nat} (hj : j < 8) (changed : Bool) :
    (clampBit i changed)[j] = (changed && decide (i = j)) := by
  have hpow : BitVec.ofNat 8 (2 ^ i) = BitVec.twoPow 8 i := BitVec.eq_of_toNat_eq (by simp)
  cases changed <;> simp [clampBit, hpow, BitVec.getElem_twoPow, eq_comm]

/-- Each bit of the clamp set tells whether its field was changed (R48). -/
theorem decodeIntent_clampSet (f : RxFrame) :
    let m := decodeIntent f
    m.clampSet.getLsbD 0 = (m.vx != sgn (halfAt f.payload 1)) ∧
    m.clampSet.getLsbD 1 = (m.vy != sgn (halfAt f.payload 3)) ∧
    m.clampSet.getLsbD 2 = (m.omega != sgn (halfAt f.payload 5)) ∧
    m.clampSet.getLsbD 3 = (m.cycle != (halfAt f.payload 7).toNat) ∧
    m.clampSet.getLsbD 4 = (m.step != (f.b 9).toNat) ∧
    m.clampSet.getLsbD 5 = (m.offset != (f.b 10).toInt) ∧
    m.clampSet.getLsbD 6 = ((f.b 0).toNat % 4 == 3) ∧ m.clampSet.getLsbD 7 = false := by
  have hcycle := clampInt_bne_natCast (lo := 600) (hi := 4000) (by omega) (by omega) (halfAt f.payload 7).toNat
  have hstep := clampInt_bne_natCast (lo := 20) (hi := 180) (by omega) (by omega) (f.b 9).toNat
  simp only [decodeIntent, ← hcycle, ← hstep]
  simp [clampBit_getElem]

/-! ## Storage (R49) -/

/-- A stored MISSION part takes the place of the record, ends INTENT_SILENT (R54) and moves nothing else. -/
theorem storePart_mission (s : State) (src : Fin 8) (m : MissionPart) :
    storePart s src false (.mission m) .mission =
      { s with
        pt := { s.pt with
          records := s.pt.records.set src (some { tag := s.time.us, stale := false, guard := false, part := .mission m })
          intentSilent := false }
        flt := { s.flt with
          conds := if s.pt.intentSilent then s.flt.conds.set FaultCode.intentSilent.idx false else s.flt.conds } } := by
  unfold storePart silenceEnd setRecord
  cases hs : s.pt.intentSilent <;> simp [hs, endFault]

/-- Beside the storage, an Intent records "intent clamped" for a clamp set that is not empty and is not the one held. -/
theorem storeIntent_onlyLogs (s : State) (src : Fin 8) (f : RxFrame) :
    OnlyLogs (storePart s src false (.mission (decodeIntent f)) .mission) (storeIntent s src f)
      (if (decodeIntent f).clampSet ≠ 0#8 ∧ (decodeIntent f).clampSet ≠ heldClampSet s src then
        [{ bit := 2, code := 0x41, detail := (decodeIntent f).clampSet }] else []) := by
  simp only [storeIntent, Bool.and_eq_true, bne_iff_ne]
  split
  · exact recordEvent_onlyLogs _ .intentClamped _
  · exact onlyLogs_nil _

theorem storeIntent_pt (s : State) (src : Fin 8) (f : RxFrame) :
    (storeIntent s src f).pt = (storePart s src false (.mission (decodeIntent f)) .mission).pt := by
  simp only [storeIntent]; split <;> simp

theorem heldClampSet_eq (s : State) (src : Fin 8) : heldClampSet s src =
    match s.record src with
    | some { part := .mission m, .. } => m.clampSet
    | _ => 0#8 := by
  unfold heldClampSet
  rcases s.record src with _ | ⟨_, _, _, _ | _ | _⟩ <;> rfl

/-- Settles O38: the frame reaches `storeIntent`; its part is the clamped one, and the rest is at most one event. -/
theorem intentStored : Obligations.IntentStored := by
  intro dt s f hacc h g vx vy om lim held
  have hheld : heldClampSet h f.source = held := heldClampSet_eq s f.source
  have hpt : (storeIntent h f.source f).pt = { s.pt with
      records := s.pt.records.set f.source
        (some { tag := h.time.us, stale := false, guard := false, part := .mission (decodeIntent f) })
      intentSilent := false } := by rw [storeIntent_pt, storePart_mission]; rfl
  have hlogs := storeIntent_onlyLogs h f.source f
  rw [storePart_mission, hheld] at hlogs
  obtain ⟨hvx, hvy, homega, hcycle, hstep, hoffset, hgait, htop⟩ := decodeIntent_clampSet f
  refine ⟨storeIntent h f.source f, decodeIntent f, congrArg _ (receive_accepted hacc dt _), hpt, rfl,
    clampVelocity_eq_byGait (fun l => l.1) (by decide) (by decide) _ _,
    clampVelocity_eq_byGait (fun l => l.2.1) (by decide) (by decide) _ _,
    clampVelocity_eq_byGait (fun l => l.2.2) (by decide) (by decide) _ _,
    decodeIntent_cycle f, decodeIntent_step f, clampInt_eq _ _ _ (by omega), rfl,
    hvx, hvy, homega, hcycle, hstep, hoffset, hgait, htop, ?_⟩
  rw [hpt]
  exact hlogs

end Sys2Proof.IntentStorage
end

section
/-! Alarms and the Control commands of the Fault Unit: the frame that reaches its owner, and what a received Alarm (R153), a
refused RESUME (R156), CLEAR_FAULTS (R157) and EVENT_TEST (R160) leave behind. -/

namespace Sys2Proof.FaultCommands
open Sys2Proof Sys2Proof.Machine Sys2Proof.Laws Sys2Proof.IntentStorage

/-! ## The frame that reaches its owner (R13 to R17) -/

/-- What the arrival of a good frame leaves as it was. -/
@[simp] theorem heard_apply (s : State) (dt : Nat) :
    (heard s dt).setup = s.setup ∧ (heard s dt).txq = s.txq ∧ (heard s dt).flt = s.flt ∧
    (heard s dt).pe.leg = s.pe.leg ∧ (heard s dt).time.epoch = s.time.epoch ∧
    (heard s dt).sbi.station = s.sbi.station := by
  simp [heard]

/-- A good frame from a peer that is heard comes to the screening. -/
theorem receive_fromPeer {s : State} {f : RxFrame} {k : FrameKind} (h : FromPeer s f k) (dt : Nat)
    (deliver : State → State) :
    receive (elapse s dt) (goodOfKind k f) f k deliver = screen (heard s dt) f k deliver := by
  obtain ⟨⟨htx, hrx⟩, hgood, -⟩ := h
  simp [receive, htx, hrx, hgood]; rfl

theorem takenFrom_alarm {r : Role} (h : r ≠ .absent) : takenFrom .alarm r = true := by
  cases r with
  | absent => exact absurd rfl h
  | leg | body | mission => rfl

/-- An Alarm reaches the Fault Unit from every station of the roster, and in SETUP from any other (R15, R16). -/
theorem execAlarmReceived_heard {s : State} {f : RxFrame} (h : FromPeer s f .alarm)
    (hrole : s.pe.leg = .setup ∨ s.role f.source ≠ .absent) (dt : Nat) :
    exec (.alarmReceived dt f) s = .next (takeAlarm (heard s dt) f.source (f.b 0)) := by
  have ⟨_, _, hsource⟩ := h
  refine congrArg Host.Outcome.next ?_
  by_cases hleg : s.pe.leg = .setup
  · have hpeer : f.source ≠ (heard s dt).sbi.station := by simpa using hsource
    have hsetup : (heard s dt).pe.leg = .setup := by simpa using hleg
    rw [receive_fromPeer h, screen, if_neg hpeer, if_pos hsetup]
    rfl
  · exact receive_accepted ⟨h, hleg, takenFrom_alarm (hrole.resolve_left hleg)⟩ dt _

/-- A Control frame that names the node and carries the row's command reaches the command's owners (R17). -/
theorem receiveControl_commanded {s : State} {f : RxFrame} {code : Nat} (h : Commanded s f code) (dt : Nat)
    (act : State → State) : receiveControl (elapse s dt) f code act = act (heard s dt) := by
  obtain ⟨hacc, htarget, hcode⟩ := h
  have hrow : controlOf code f = goodOfKind .control f := by simp [controlOf, hcode]
  have htarget' : (f.b 0).toNat = (heard s dt).sbi.station.val ∨ (f.b 0).toNat = 255 := by simpa using htarget
  rw [receiveControl, hrow, receive_accepted hacc, command, if_pos htarget', if_pos hcode]

/-! ## Notes and the frames offered with them -/

/-- The mask, the epoch and whether the node is in SETUP decide what an event does to ring and lost count (R158). -/
theorem noteIn_congr {s t : State} (hletIn : letIn t = letIn s) (hepoch : t.time.epoch = s.time.epoch) :
    noteIn t = noteIn s := by
  funext log n
  simp only [noteIn, hletIn, hepoch]

/-- Out of SETUP the mask alone lets events in, whatever the leg state (R28). -/
theorem letIn_congr {s t : State} (hs : s.pe.leg ≠ .setup) (ht : t.pe.leg ≠ .setup) (hsetup : t.setup = s.setup) :
    letIn t = letIn s := by
  funext bit
  simp [letIn, beq_false_of_ne hs, beq_false_of_ne ht, State.eventMask, hsetup]

theorem logs_append {s t u : State} {ns ms : List Note} (hst : Logs s t ns) (htu : Logs t u ms)
    (hin : noteIn t = noteIn s) : Logs s u (ns ++ ms) := by
  unfold Logs at *
  rw [htu, hst, hin, List.foldl_append]

/-- An event recorded after `ns`, in a state out of SETUP that `s` came to, is the next note. -/
theorem logs_recordEvent {s u : State} {ns : List Note} (h : Logs s u ns) (hs : s.pe.leg ≠ .setup)
    (hu : u.pe.leg ≠ .setup) (hsetup : u.setup = s.setup) (htime : u.time = s.time) (e : EventKind) (d : Byte) :
    Logs s (recordEvent u e d) (ns ++ [{ bit := e.categoryBit, code := e.code, detail := d }]) :=
  logs_append h (recordEvent_logs u e d) (noteIn_congr (letIn_congr hs hu hsetup) (by rw [htime]))

/-- The Event frames that a state offers carry its own station number. -/
theorem offered_congr {s u t : State} (h : u.sbi.station = s.sbi.station) (q : TxQueue) :
    Offered u t q ↔ Offered s t q := by
  simp only [Offered, State.eventFrame, State.newFrame, h]

/-- Beside the Event frame an offer brings no frame into the queue. -/
theorem mem_of_offered {s t : State} {q : TxQueue} {g : TxFrame} (h : Offered s t q) (hg : g ∈ t.txq.frames)
    (hkind : g.kind ≠ some .event) : g ∈ q.frames := by
  obtain hq | ⟨r, -, hq⟩ := h <;> rw [hq] at hg
  · exact hg
  · refine (mem_place hg).resolve_left fun he => hkind ?_
    rw [he]
    exact newFrame_kind s .event _

/-! ## A received Alarm (R153) -/

/-- A direction to HOLD is the stop of R105. -/
theorem directHold_stopped (s : State) : Stopped s (directHold s) := by
  unfold Stopped directHold
  by_cases h : s.pe.leg.walking = true ∧ s.pe.leg ≠ .hold
  · rw [if_pos h, if_pos (by simpa using h)]
    split
    next hclaim => exact ⟨rfl, fun hne => absurd hclaim hne, rfl⟩
    next => exact ⟨rfl, fun _ => rfl, rfl⟩
  · rw [if_neg h, if_neg (by simpa using h)]
    exact ⟨rfl, rfl⟩

theorem directHold_origin {s : State} (hwalk : s.pe.leg.walking = true) (hhold : s.pe.leg ≠ .hold) :
    (directHold s).pe.origin = some s.pe.leg := by
  rw [directHold, if_pos (by simp [hwalk, hhold])]
  split <;> rfl

/-- A direction to HOLD takes frames out of the queue and brings none in (R109, R143). -/
theorem mem_of_mem_directHold {s : State} {g : TxFrame} (h : g ∈ (directHold s).txq.frames) : g ∈ s.txq.frames := by
  unfold directHold at h
  split at h
  · split at h
    · exact List.mem_of_mem_filter h
    · exact h
  · exact h

/-- In HOLD an Alarm is only counted. -/
theorem takeAlarm_in_hold {s : State} (h : s.pe.leg = .hold) (src : Fin 8) (cause : Byte) :
    takeAlarm s src cause = { s with flt := { s.flt with alarmsInHold := satInc s.flt.alarmsInHold } } := by
  rw [takeAlarm, if_pos h]

/-- A leg that does not walk only records the Alarm. -/
theorem takeAlarm_at_rest {s : State} (h : s.pe.leg.walking = false) (src : Fin 8) (cause : Byte) :
    takeAlarm s src cause = recordEvent s (.alarmFrom src) cause := by
  have hhold : s.pe.leg ≠ .hold := fun he => by simp [he, LegState.walking] at h
  rw [takeAlarm, if_neg hhold]
  simp [h]

/-- A walking leg records the Alarm, is directed to HOLD, and records that. -/
theorem takeAlarm_walking {s : State} (hwalk : s.pe.leg.walking = true) (hhold : s.pe.leg ≠ .hold) (src : Fin 8)
    (cause : Byte) : takeAlarm s src cause =
      recordEvent (directHold (recordEvent s (.alarmFrom src) cause)) .holdEntered (BitVec.ofNat 8 s.pe.leg.code) := by
  rw [takeAlarm, if_neg hhold]
  simp [hwalk]

/-- The walking case of R153 at the Fault Unit: the two events, the stop, no flag, and no Alarm of the node's own. -/
theorem takeAlarm_stops {s : State} (hwalk : s.pe.leg.walking = true) (hhold : s.pe.leg ≠ .hold) (src : Fin 8)
    (cause : Byte) :
    let t := takeAlarm s src cause
    SameElsewhere s t ∧ t.flt.flags = s.flt.flags ∧ t.flt.conds = s.flt.conds ∧ t.flt.first = s.flt.first ∧
      t.flt.alarmsInHold = s.flt.alarmsInHold ∧ Stopped s t ∧ t.pe.origin = some s.pe.leg ∧
      Logs s t [{ bit := 4, code := 0x08 + src.val, detail := cause },
        { bit := 4, code := 0x03, detail := BitVec.ofNat 8 s.pe.leg.code }] ∧
      (∀ g ∈ t.txq.frames, g.kind = some .alarm → g ∈ s.txq.frames) := by
  intro t
  obtain ⟨u, hu⟩ : ∃ u, u = recordEvent s (.alarmFrom src) cause := ⟨_, rfl⟩
  have ht : t = recordEvent (directHold u) .holdEntered (BitVec.ofNat 8 s.pe.leg.code) := by
    rw [hu]; exact takeAlarm_walking hwalk hhold src cause
  have hpe : u.pe = s.pe := by simp [hu]
  have hs : s.pe.leg ≠ .setup := fun h => by simp [h, LegState.walking] at hwalk
  have hheld : (directHold u).pe.leg = .hold := by simp [directHold_leg, hpe, hwalk]
  have hfirst : Logs s (directHold u) [{ bit := 4, code := 0x08 + src.val, detail := cause }] := by
    rw [Logs, directHold_flt, hu]
    exact recordEvent_logs s (.alarmFrom src) cause
  refine ⟨by simp [ht, hu, SameElsewhere], by simp [ht, hu], by simp [ht, hu], by simp [ht, hu], by simp [ht, hu],
    ?_, ?_, ?_, fun g hg hkind => ?_⟩
  · simpa [Stopped, ht, hu] using directHold_stopped u
  · simpa [ht, hpe] using directHold_origin (s := u) (by rwa [hpe]) (by rwa [hpe])
  · rw [ht]
    exact logs_recordEvent hfirst hs (by simp [hheld]) (by simp [hu]) (by simp [hu]) .holdEntered _
  · have hne : g.kind ≠ some .event := by simp [hkind]
    rw [ht] at hg
    have hgu := mem_of_mem_directHold (mem_of_offered (recordEvent_offered _ _ _) hg hne)
    rw [hu] at hgu
    exact mem_of_offered (recordEvent_offered _ _ _) hgu hne

/-- Settles O31: the Alarm reaches `takeAlarm`, which has a case per leg state. -/
theorem alarmTaken : Obligations.AlarmTaken := by
  intro dt s f hpeer hrole h note
  rw [execAlarmReceived_heard hpeer hrole]
  refine ⟨fun hwalk hhold => ⟨_, rfl, ?_⟩, fun hhold => ?_, fun hrest => ⟨_, rfl, ?_⟩⟩
  · exact takeAlarm_stops (s := h) hwalk hhold f.source (f.b 0)
  · exact congrArg _ (takeAlarm_in_hold (s := h) hhold f.source (f.b 0))
  · rw [takeAlarm_at_rest (s := h) hrest]
    exact recordEvent_onlyLogs h (.alarmFrom f.source) (f.b 0)

/-! ## A refused RESUME (R156) -/

/-- The lowest of the latched class-A flags gives the code. -/
theorem lowestClassA_eq {s : State} {i : Fin 8} (hi : s.flt.flags[i.val] = true)
    (hlow : ∀ j : Fin 8, j < i → s.flt.flags[j.val] = false) : lowestClassA s = BitVec.ofNat 8 (i.val + 1) := by
  have hfind : ((List.finRange 17).find? fun k => decide (k.val < 8) && s.flt.flags[k]) = some (i.castLE (by omega)) := by
    refine List.find?_eq_some_iff_getElem.2 ⟨by simp [hi], i.val, by simp; omega, by ext; simp, fun j hj => ?_⟩
    simpa [show j < 8 by omega] using hlow ⟨j, by omega⟩ hj
  rw [lowestClassA, hfind]
  rfl

theorem classALatched_of_flag {s : State} {i : Fin 8} (hi : s.flt.flags[i.val] = true) : classALatched s = true := by
  rw [classALatched, List.any_eq_true]
  exact ⟨i.castLE (by omega), List.mem_finRange _, by simp [hi]⟩

/-- An Alarm that finds one in the queue is dropped (R141). -/
theorem place_alarm_of_waiting {q : TxQueue} {f : TxFrame} (hf : f.kind = some .alarm)
    (h : q.frames.any (fun g => g.kind == some .alarm) = true) : q.place f = (q, none) := by
  have hslot : q.frames.any (sameSlot f) = true := by
    rw [List.any_eq_true] at h ⊢
    obtain ⟨g, hg, hkind⟩ := h
    refine ⟨g, hg, ?_⟩
    rw [beq_iff_eq] at hkind
    simp [sameSlot, hf, hkind]
  simp [TxQueue.place, hf, hslot]

/-- A refusal in HOLD moves nothing but the queue and the ring: no claim is there to fail at the Alarm (R107). -/
theorem refuseResume_in_hold {s : State} (hleg : s.pe.leg = .hold) :
    let t := refuseResume s
    SameElsewhere s t ∧ t.pe = s.pe ∧ t.tu = s.tu ∧ t.flt.flags = s.flt.flags ∧ t.flt.conds = s.flt.conds ∧
      t.flt.alarmsInHold = s.flt.alarmsInHold ∧ Logs s t [{ bit := 4, code := 0x06, detail := lowestClassA s }] ∧
      Offered s t (s.txq.place (s.newFrame .alarm [holdPersists, 7#8])).1 := by
  intro t
  have hpe : (placeAlarm s holdPersists 7#8).pe = s.pe := placeFrame_pe_of_ne s _ (by simp [hleg])
  have hsilent : Logs s (placeAlarm s holdPersists 7#8) [] := by simp [Logs, placeAlarm]
  refine ⟨by simp [t, refuseResume, SameElsewhere], by simp [t, refuseResume, hpe], by simp [t, refuseResume],
    ?_, ?_, ?_, ?_, ?_⟩
  iterate 3 simp [t, refuseResume, placeAlarm]
  · exact logs_recordEvent hsilent (by simp [hleg]) (by simp [hpe, hleg]) (by simp) (by simp) .resumeRefused _
  · rw [← placeFrame_txq s, ← offered_congr (u := placeAlarm s holdPersists 7#8) (by simp)]
    exact recordEvent_offered _ .resumeRefused _

/-- Settles O44: in HOLD with a class-A flag latched the command is refused. -/
theorem resumeRefused : Obligations.ResumeRefused := by
  intro dt s f i hcom hleg hflag hlow h
  have hrefused : takeResume h = refuseResume h := by
    rw [takeResume, if_pos (c := h.pe.leg = .hold) hleg, if_pos (classALatched_of_flag (s := h) hflag)]
  have hcode : lowestClassA h = BitVec.ofNat 8 (i.val + 1) := lowestClassA_eq (s := h) hflag hlow
  obtain ⟨helse, hpe, htu, hflags, hconds, hcount, hlogs, hoffered⟩ := refuseResume_in_hold (s := h) hleg
  rw [hcode] at hlogs
  replace hoffered : Offered s (refuseResume h) (s.txq.place (s.newFrame .alarm [holdPersists, 7#8])).1 := by
    rw [offered_congr (s := s) (by simp [h])] at hoffered
    simpa [State.newFrame, h] using hoffered
  refine ⟨refuseResume h, congrArg _ ((receiveControl_commanded hcom dt takeResume).trans hrefused), helse, hpe, htu,
    hflags, hconds, hcount, hlogs, hoffered, fun hwait => ?_⟩
  rwa [place_alarm_of_waiting (newFrame_kind s .alarm _) hwait] at hoffered

/-! ## CLEAR_FAULTS (R157) -/

/-- Dropping flags moves nothing but the flags and the first-fault record. -/
theorem dropFlags_eq (s : State) : dropFlags s =
    { s with flt := { s.flt with flags := (dropFlags s).flt.flags, first := (dropFlags s).flt.first } } := by
  simp only [dropFlags]

theorem dropFlags_flag (s : State) (i : Fin 17) :
    (dropFlags s).flt.flags[i] = (s.flt.flags[i] && s.flt.conds[i]) := by
  simp [dropFlags]

theorem dropFlags_first (s : State) : (dropFlags s).flt.first =
    if ∃ i : Fin 17, (dropFlags s).flt.flags[i] = true then s.flt.first else none := by
  simp [dropFlags]

/-- Settles O45: the command drops the flags and records one event, which moves no flag. -/
theorem clearFaultsTaken : Obligations.ClearFaultsTaken := by
  intro dt s f hcom h
  obtain ⟨t, ht⟩ : ∃ t, t = takeClear h := ⟨_, rfl⟩
  have hflags : t.flt.flags = (dropFlags h).flt.flags := by simp [ht, takeClear]
  have hfirst : t.flt.first = (dropFlags h).flt.first := by simp [ht, takeClear]
  have hflag : ∀ i : Fin 17, t.flt.flags[i] = (s.flt.flags[i] && s.flt.conds[i]) := fun i => by
    rw [hflags]; exact dropFlags_flag h i
  refine ⟨t, ?_, hflag, ?_, fun hclash => ?_, ?_⟩
  · rw [ht]
    exact congrArg _ (receiveControl_commanded hcom dt takeClear)
  · rw [hfirst, hflags]
    exact dropFlags_first h
  · rw [hflag, hclash]
  · have hbase : { h with flt := { s.flt with flags := t.flt.flags, first := t.flt.first } } = dropFlags h := by
      rw [hflags, hfirst]; exact (dropFlags_eq h).symm
    have hleft : ((List.finRange 17).filter fun i => t.flt.flags[i]).length = latchedCount (dropFlags h) := by
      rw [hflags, latchedCount]
    rw [hbase, hleft, ht]
    exact recordEvent_onlyLogs (dropFlags h) .faultsCleared _

/-! ## EVENT_TEST (R160) -/

/-- An event out of SETUP whose category is masked leaves ring and lost count. -/
theorem recordEvent_masked {s : State} {e : EventKind} (hleg : s.pe.leg ≠ .setup)
    (hmask : s.eventMask.getLsbD e.categoryBit = false) (d : Byte) :
    (recordEvent s e d).flt.ring = s.flt.ring ∧ (recordEvent s e d).flt.lost = s.flt.lost := by
  have hallowed : eventAllowed s e = false := by simp [eventAllowed, hleg, hmask]
  simp [recordEvent_ring, hallowed]

/-- An event that the mask lets in and that finds the ring full is counted as lost. -/
theorem recordEvent_full {s : State} {e : EventKind} (hmask : s.eventMask.getLsbD e.categoryBit = true)
    (hfull : s.flt.ring.length = ringMax) (d : Byte) :
    (recordEvent s e d).flt.ring = s.flt.ring ∧ (recordEvent s e d).flt.lost = satInc s.flt.lost := by
  have hallowed : eventAllowed s e = true := by simp [eventAllowed, hmask]
  simp [recordEvent_ring, hallowed, hfull]

/-- Settles O47: the command records one event. -/
theorem eventTestRecorded : Obligations.EventTestRecorded := by
  intro dt s f hcom
  have ⟨⟨_, hleg, _⟩, _⟩ := hcom
  refine ⟨recordEvent (heard s dt) .test testDetail, congrArg _ (receiveControl_commanded hcom dt _),
    recordEvent_onlyLogs _ .test _, fun hmask => ?_, fun hmask hfull => ?_⟩
  · exact recordEvent_masked (s := heard s dt) (e := .test) hleg hmask _
  · exact recordEvent_full (s := heard s dt) (e := .test) hmask hfull _

end Sys2Proof.FaultCommands
end

section
/-! Setup completion on the words of the Setup Block (R32 to R34): each adjustment is counted where it changes a word, so that
a stage of the settling is a list of adjusted indices and the words it leaves. -/

namespace Sys2Proof.SetupWords
open Sys2Proof Sys2Proof.Machine Sys2Proof.Laws

/-! ## What a stage of the settling does -/

/-- From `b` to `b'` the words of the indices `l` were adjusted, in this order, each counted (R32, R33). -/
structure Adjusts (b b' : SetupBlock) (l : List Nat) : Prop where
  ptr : b'.ptr = b.ptr
  refused : b'.refused = b.refused
  count : b'.clampCount.toNat = min 255 (b.clampCount.toNat + l.length)
  first : b'.firstClamped = b.firstClamped.or l.head?
  words : l = [] → b'.words = b.words

theorem Adjusts.refl (b : SetupBlock) : Adjusts b b [] :=
  ⟨rfl, rfl, by have := b.clampCount.isLt; simp; omega, by simp, fun _ => rfl⟩

theorem Adjusts.trans {a b c : SetupBlock} {l m : List Nat} (h : Adjusts a b l) (h' : Adjusts b c m) :
    Adjusts a c (l ++ m) := by
  refine ⟨h'.ptr.trans h.ptr, h'.refused.trans h.refused, ?_, ?_, fun hn => ?_⟩
  · rw [h'.count, h.count, List.length_append]; omega
  · rw [h'.first, h.first]; cases a.firstClamped <;> cases l <;> simp
  · obtain ⟨hl, hm⟩ := List.append_eq_nil_iff.1 hn
    rw [h'.words hm, h.words hl]

/-- One counted adjustment. -/
theorem adjusts_countClamp (b : SetupBlock) (w : Vector Half 54) (i : Nat) :
    Adjusts b (countClamp { b with words := w } i) [i] := by
  refine ⟨rfl, rfl, ?_, ?_, by simp⟩
  · simp only [countClamp, satInc_toNat, List.length_singleton]; omega
  · simp only [countClamp]; cases b.firstClamped <;> rfl

theorem adjusts_adjustWord (b : SetupBlock) (i : Fin 54) (w : Half) :
    Adjusts b (adjustWord b i w) (if b.words[i] = w then [] else [i.val]) := by
  unfold adjustWord
  split
  · exact .refl b
  · exact adjusts_countClamp b _ _

theorem adjusts_of_ne (b : SetupBlock) (i : Fin 54) (w : Half) (h : b.words[i] ≠ w) :
    Adjusts b (adjustWord b i w) [i.val] := by
  have := adjusts_adjustWord b i w
  rwa [if_neg h] at this

theorem adjusts_of_eq (b : SetupBlock) (i : Fin 54) (w : Half) (h : b.words[i] = w) :
    Adjusts b (adjustWord b i w) [] := by
  have := adjusts_adjustWord b i w
  rwa [if_pos h] at this

/-- The adjusted word takes its value and the others stay. -/
theorem adjustWord_words (b : SetupBlock) (i j : Fin 54) (w : Half) :
    (adjustWord b i w).words[j] = if i = j then w else b.words[j] := by
  unfold adjustWord
  split
  next h => split
            · next hij => rw [← hij]; exact h
            · rfl
  next => simp only [countClamp, Fin.getElem_fin, Vector.getElem_set, Fin.ext_iff]

/-! ## Step 1: ranges (R32) -/

/-- A range of R32 whose bounds are in order and fit 16 bits. -/
def boundsFit : ParamRange → Bool
  | .any => true
  | .unsigned lo hi => decide (lo ≤ hi ∧ hi < 65536)
  | .signed lo hi => decide (-32768 ≤ lo ∧ lo ≤ hi ∧ hi ≤ 32767)
  | .zeroOr lo hi => decide (lo ≤ hi ∧ hi < 65536)

theorem paramRange_boundsFit (i : Fin 54) : boundsFit (paramRange i.val) = true := by revert i; decide

theorem clampNat_eq {lo hi v : Nat} (h : lo ≤ hi) : clampNat lo hi v = max lo (min hi v) := by
  unfold clampNat; split
  · omega
  · split <;> omega

theorem clampWord_eq_ranged {r : ParamRange} (h : boundsFit r = true) (w : Half) : clampWord r w = ranged r w := by
  cases r with
  | any => rfl
  | unsigned lo hi =>
    have hb : lo ≤ hi ∧ hi < 65536 := by simpa [boundsFit] using h
    simp [clampWord, ranged, clampNat_eq hb.1]
  | signed lo hi =>
    have hb : -32768 ≤ lo ∧ lo ≤ hi ∧ hi ≤ 32767 := by simpa [boundsFit] using h
    simp [clampWord, ranged, clampInt_eq lo hi _ hb.2.1]
  | zeroOr lo hi =>
    have hb : lo ≤ hi ∧ hi < 65536 := by simpa [boundsFit] using h
    simp only [clampWord, ranged, clampNat_eq hb.1]
    split
    · assumption
    · rfl

theorem ranged_inParamRange {r : ParamRange} (h : boundsFit r = true) (w : Half) : inParamRange r (ranged r w) := by
  have nat (lo hi : Nat) (hb : lo ≤ hi ∧ hi < 65536) :
      lo ≤ (BitVec.ofNat 16 (max lo (min hi w.toNat))).toNat ∧
      (BitVec.ofNat 16 (max lo (min hi w.toNat))).toNat ≤ hi := by
    rw [BitVec.toNat_ofNat, Nat.mod_eq_of_lt (by omega)]; omega
  cases r with
  | any => trivial
  | unsigned lo hi => exact nat lo hi (by simpa [boundsFit] using h)
  | signed lo hi =>
    have hb : -32768 ≤ lo ∧ lo ≤ hi ∧ hi ≤ 32767 := by simpa [boundsFit] using h
    have e : (BitVec.ofInt 16 (max lo (min hi w.toInt))).toInt = max lo (min hi w.toInt) := by
      rw [BitVec.toInt_ofInt]; unfold Int.bmod; dsimp only; split <;> omega
    simp only [inParamRange, ranged, e]; omega
  | zeroOr lo hi =>
    simp only [inParamRange, ranged]
    split
    · exact .inl rfl
    · exact .inr (nat lo hi (by simpa [boundsFit] using h))

/-- One index of the first step. -/
def clampOne (b : SetupBlock) (i : Fin 54) : SetupBlock := adjustWord b i (clampWord (paramRange i.val) b.words[i])

theorem clampOne_eq (b : SetupBlock) (i : Fin 54) : clampOne b i = adjustWord b i (rangedAt b.words i) :=
  congrArg (adjustWord b i) (clampWord_eq_ranged (paramRange_boundsFit i) _)

theorem clampOne_words (b : SetupBlock) (i j : Fin 54) :
    (clampOne b i).words[j] = if i = j then rangedAt b.words j else b.words[j] := by
  rw [clampOne_eq, adjustWord_words]
  split
  next h => rw [h]
  next => rfl

/-- The indices of a list that the first step changes (R32). -/
def outOfRange (w : Vector Half 54) (l : List (Fin 54)) : List (Fin 54) := l.filter fun i => rangedAt w i ≠ w[i]

theorem outOfRange_congr {v w : Vector Half 54} {l : List (Fin 54)} (h : ∀ i ∈ l, v[i] = w[i]) :
    outOfRange v l = outOfRange w l := by
  refine List.filter_congr fun i hi => ?_
  have e : rangedAt v i = rangedAt w i := congrArg _ (h i hi)
  rw [e, h i hi]

/-- The first step over distinct indices: those indices are brought into range, the others stay, and the ones that change are
the ones counted. -/
theorem foldl_clampOne (l : List (Fin 54)) (hl : l.Nodup) (b : SetupBlock) :
    (∀ j : Fin 54, (l.foldl clampOne b).words[j] = if j ∈ l then rangedAt b.words j else b.words[j]) ∧
    Adjusts b (l.foldl clampOne b) ((outOfRange b.words l).map Fin.val) := by
  induction l generalizing b with
  | nil => exact ⟨fun j => by simp, .refl b⟩
  | cons i l ih =>
    obtain ⟨hi, hl⟩ := List.nodup_cons.1 hl
    obtain ⟨hwords, hadj⟩ := ih hl (clampOne b i)
    have hsame (j : Fin 54) (hj : j ∈ l) : (clampOne b i).words[j] = b.words[j] := by
      rw [clampOne_words, if_neg fun h => hi (by rwa [h])]
    constructor
    · intro j
      rw [List.foldl_cons, hwords]
      by_cases hj : j ∈ l
      · rw [if_pos hj, if_pos (List.mem_cons_of_mem i hj), rangedAt, hsame j hj, rangedAt]
      · rw [if_neg hj, clampOne_words]
        simp [List.mem_cons, hj, eq_comm]
    · rw [outOfRange_congr hsame] at hadj
      rw [List.foldl_cons]
      by_cases hc : rangedAt b.words i = b.words[i]
      · have hlist : outOfRange b.words (i :: l) = outOfRange b.words l := by
          rw [outOfRange, List.filter_cons_of_neg (by simpa using hc)]; rfl
        have hhead : Adjusts b (clampOne b i) [] := by rw [clampOne_eq]; exact adjusts_of_eq b i _ hc.symm
        rw [hlist]
        exact hhead.trans hadj
      · have hlist : outOfRange b.words (i :: l) = i :: outOfRange b.words l := by
          rw [outOfRange, List.filter_cons_of_pos (by simpa using hc)]; rfl
        have hhead : Adjusts b (clampOne b i) [i.val] := by
          rw [clampOne_eq]; exact adjusts_of_ne b i _ fun h => hc h.symm
        rw [hlist]
        exact hhead.trans hadj

theorem clampAll_words (b : SetupBlock) (j : Fin 54) : (clampAll b).words[j] = rangedAt b.words j := by
  have := (foldl_clampOne _ (List.nodup_finRange 54) b).1 j
  rwa [if_pos (List.mem_finRange j)] at this

theorem adjusts_clampAll (b : SetupBlock) :
    Adjusts b (clampAll b) ((outOfRange b.words (List.finRange 54)).map Fin.val) :=
  (foldl_clampOne _ (List.nodup_finRange 54) b).2

/-! ## Step 2: pairs (R33, checks 1 to 4) -/

theorem adjusts_checkBox (b : SetupBlock) (n lo hi : Fin 54) :
    Adjusts b (checkBox b n lo hi) (if (b.words[lo]).toInt < (b.words[hi]).toInt then [] else [lo.val]) := by
  unfold checkBox
  split
  · exact .refl b
  · exact adjusts_countClamp b _ _

theorem checkBox_words_other (b : SetupBlock) (n lo hi j : Fin 54) (hlo : lo ≠ j) (hhi : hi ≠ j) :
    (checkBox b n lo hi).words[j] = b.words[j] := by
  unfold checkBox
  split
  · rfl
  · have h1 : lo.val ≠ j.val := fun h => hlo (Fin.ext h)
    have h2 : hi.val ≠ j.val := fun h => hhi (Fin.ext h)
    simp [countClamp, h1, h2]

theorem checkBox_words_bounds (b : SetupBlock) (n lo hi : Fin 54) (hne : lo ≠ hi) :
    (checkBox b n lo hi).words[lo] =
      (if (b.words[lo]).toInt < (b.words[hi]).toInt then b.words[lo] else BitVec.ofInt 16 ((b.words[n]).toInt - 50)) ∧
    (checkBox b n lo hi).words[hi] =
      (if (b.words[lo]).toInt < (b.words[hi]).toInt then b.words[hi] else BitVec.ofInt 16 ((b.words[n]).toInt + 50)) := by
  unfold checkBox
  have h1 : hi.val ≠ lo.val := fun h => hne (Fin.ext h.symm)
  split <;> simp [countClamp, h1]

theorem adjusts_checkLoaded (b : SetupBlock) :
    Adjusts b (checkLoaded b) (if (b.words[16]).toNat < (b.words[15]).toNat then [16] else []) := by
  unfold checkLoaded
  split
  next h =>
    have hne : b.words[16] ≠ b.words[15] := fun e => by rw [e] at h; exact absurd h (lt_irrefl _)
    exact adjusts_of_ne b 16 _ hne
  next => exact .refl b

theorem checkLoaded_words (b : SetupBlock) (j : Fin 54) :
    (checkLoaded b).words[j] = if 16 = j ∧ (b.words[16]).toNat < (b.words[15]).toNat then b.words[15] else b.words[j] := by
  unfold checkLoaded
  split
  next h => rw [adjustWord_words]; simp [h]
  next h => simp [h]

theorem adjusts_checkUnload (b : SetupBlock) :
    Adjusts b (checkUnload b) (if (b.words[15]).toNat < (b.words[17]).toNat then [17] else []) := by
  unfold checkUnload
  split
  next h =>
    have hne : b.words[17] ≠ b.words[15] := fun e => by rw [e] at h; exact absurd h (lt_irrefl _)
    exact adjusts_of_ne b 17 _ hne
  next => exact .refl b

theorem checkUnload_words (b : SetupBlock) (j : Fin 54) :
    (checkUnload b).words[j] = if 17 = j ∧ (b.words[15]).toNat < (b.words[17]).toNat then b.words[15] else b.words[j] := by
  unfold checkUnload
  split
  next h => rw [adjustWord_words]; simp [h]
  next h => simp [h]

/-- A remainder of a word differs from it exactly when the divisor is not above it. -/
theorem eq_ofNat_mod_iff (x : Half) {m : Nat} (hm : 0 < m) : x = BitVec.ofNat 16 (x.toNat % m) ↔ x.toNat < m := by
  rw [← BitVec.toNat_inj, BitVec.toNat_ofNat, Nat.mod_eq_of_lt (a := x.toNat % m) (b := 2 ^ 16)]
  · constructor
    · intro h; rw [h]; exact Nat.mod_lt _ hm
    · intro h; exact (Nat.mod_eq_of_lt h).symm
  · exact lt_of_le_of_lt (Nat.mod_le _ _) x.isLt

theorem adjusts_checkOffset (b : SetupBlock) (h : 0 < (b.words[40]).toNat) :
    Adjusts b (checkOffset b) (if (b.words[40]).toNat ≤ (b.words[41]).toNat then [41] else []) := by
  have hiff := eq_ofNat_mod_iff (b.words[41]) h
  by_cases hc : (b.words[40]).toNat ≤ (b.words[41]).toNat
  · rw [if_pos hc]
    exact adjusts_of_ne b 41 _ fun e => absurd (hiff.1 e) (by omega)
  · rw [if_neg hc]
    exact adjusts_of_eq b 41 _ (hiff.2 (by omega))

theorem checkOffset_words (b : SetupBlock) (j : Fin 54) :
    (checkOffset b).words[j] =
      if 41 = j then BitVec.ofNat 16 ((b.words[41]).toNat % (b.words[40]).toNat) else b.words[j] :=
  adjustWord_words _ _ _ _

/-! ## The roster (R33, check 5) -/

theorem roleOfCode_code (r : Role) : roleOfCode r.code = r := by cases r <;> rfl

theorem code_roleOfCode (n : Nat) : (roleOfCode n).code = n % 4 := by
  have h : n % 4 = 0 ∨ n % 4 = 1 ∨ n % 4 = 2 ∨ n % 4 = 3 := by omega
  rcases h with h | h | h | h <;> simp [roleOfCode, h, Role.code]

theorem role_code_lt (r : Role) : r.code < 4 := by cases r <;> decide

theorem roleOfCode_eq_iff (n : Nat) (r : Role) : roleOfCode n = r ↔ n % 4 = r.code := by
  rw [← code_roleOfCode n]
  exact ⟨fun h => by rw [h], fun h => by rw [← roleOfCode_code (roleOfCode n), h, roleOfCode_code]⟩

/-- Replacing one base-4 digit of a 16-bit number keeps the others. -/
theorem digit_replaced {x c : Nat} (hx : x < 65536) (hc : c < 4) (n m : Fin 8) :
    (x - x / 4 ^ n.val % 4 * 4 ^ n.val + c * 4 ^ n.val) < 65536 ∧
    (x - x / 4 ^ n.val % 4 * 4 ^ n.val + c * 4 ^ n.val) / 4 ^ m.val % 4 = if m = n then c else x / 4 ^ m.val % 4 := by
  fin_cases n <;> fin_cases m <;> simp <;> omega

theorem roleIn_setRole (w : Half) (n m : Fin 8) (r : Role) :
    roleIn (setRole w n r) m = if m = n then r else roleIn w m := by
  obtain ⟨hlt, hdigit⟩ := digit_replaced (x := w.toNat) w.isLt (role_code_lt r) n m
  have hcode : (roleIn w n).code = w.toNat / 4 ^ n.val % 4 := code_roleOfCode _
  have hval : (setRole w n r).toNat = w.toNat - w.toNat / 4 ^ n.val % 4 * 4 ^ n.val + r.code * 4 ^ n.val := by
    rw [setRole, hcode, BitVec.toNat_ofNat]; exact Nat.mod_eq_of_lt hlt
  rw [roleIn, roleOfCode_eq_iff, hval, hdigit]
  split
  · rfl
  · exact (code_roleOfCode _).symm

/-- The eight roles determine the roster word. -/
theorem roster_ext {v w : Half} (h : ∀ n, roleIn v n = roleIn w n) : v = w := by
  have key (n : Fin 8) : v.toNat / 4 ^ n.val % 4 = w.toNat / 4 ^ n.val % 4 := by
    have := congrArg Role.code (h n)
    rwa [roleIn, roleIn, code_roleOfCode, code_roleOfCode] at this
  have h0 := key 0; have h1 := key 1; have h2 := key 2; have h3 := key 3
  have h4 := key 4; have h5 := key 5; have h6 := key 6; have h7 := key 7
  have hv := v.isLt
  have hw := w.isLt
  simp at h0 h1 h2 h3 h4 h5 h6 h7
  exact BitVec.eq_of_toNat_eq (by omega)

/-- One station of the pass that keeps the lowest of a role. -/
def keepStep (r : Role) (acc : Half × Bool) (n : Fin 8) : Half × Bool :=
  if roleIn acc.1 n = r then (if acc.2 then setRole acc.1 n .absent else acc.1, true) else acc

/-- The pass over stations in rising order: of those with the role, all but the first become ABSENT. -/
theorem foldl_keepStep (r : Role) (l : List (Fin 8)) (hl : l.Pairwise (· < ·)) (w : Half) (seen : Bool) :
    ∀ n, roleIn (l.foldl (keepStep r) (w, seen)).1 n =
      if n ∈ l ∧ roleIn w n = r ∧ (seen = true ∨ ∃ m ∈ l, m < n ∧ roleIn w m = r) then .absent else roleIn w n := by
  induction l generalizing w seen with
  | nil => simp
  | cons a l ih =>
    obtain ⟨ha, hl⟩ := List.pairwise_cons.1 hl
    intro n
    have hself : n ∈ l → n ≠ a := fun hn e => absurd (ha n hn) (by rw [e]; exact lt_irrefl _)
    rw [List.foldl_cons, keepStep]
    by_cases hrole : roleIn w a = r
    · rw [if_pos hrole]
      have hw (m : Fin 8) (hm : m ≠ a) : roleIn (if seen = true then setRole w a .absent else w) m = roleIn w m := by
        split
        · rw [roleIn_setRole, if_neg hm]
        · rfl
      rw [ih hl]
      by_cases hna : n = a
      · have hnl : n ∉ l := fun hn => hself hn hna
        have hnone : ¬ ∃ m ∈ a :: l, m < n ∧ roleIn w m = r := by
          rintro ⟨m, hm, hlt, -⟩
          rcases List.mem_cons.1 hm with rfl | hm
          · exact absurd hlt (by rw [hna]; exact lt_irrefl _)
          · exact absurd (ha m hm) (by rw [← hna]; exact not_lt_of_gt hlt)
        rw [if_neg (fun h => hnl h.1), hna]
        cases seen
        · show roleIn w a = _
          refine (if_neg ?_).symm
          rintro ⟨-, -, h | h⟩
          · cases h
          · exact hnone (by rwa [hna])
        · show roleIn (setRole w a .absent) a = _
          rw [roleIn_setRole, if_pos rfl, if_pos ⟨List.mem_cons_self, hrole, .inl rfl⟩]
      · rw [hw n hna]
        by_cases hn : n ∈ l ∧ roleIn w n = r
        · rw [if_pos ⟨hn.1, hn.2, .inl rfl⟩,
            if_pos ⟨List.mem_cons_of_mem a hn.1, hn.2, .inr ⟨a, List.mem_cons_self, ha n hn.1, hrole⟩⟩]
        · rw [if_neg (fun h => hn ⟨h.1, h.2.1⟩),
            if_neg (fun h => hn ⟨(List.mem_cons.1 h.1).resolve_left hna, h.2.1⟩)]
    · rw [if_neg hrole, ih hl]
      refine if_congr ?_ rfl rfl
      constructor
      · rintro ⟨hn, hr, h⟩
        refine ⟨List.mem_cons_of_mem a hn, hr, h.imp id ?_⟩
        rintro ⟨m, hm, h⟩
        exact ⟨m, List.mem_cons_of_mem a hm, h⟩
      · rintro ⟨hn, hr, h⟩
        refine ⟨(List.mem_cons.1 hn).resolve_left (fun e => hrole (by rw [← e]; exact hr)), hr, h.imp id ?_⟩
        rintro ⟨m, hm, hlt, hmr⟩
        exact ⟨m, (List.mem_cons.1 hm).resolve_left (fun e => hrole (by rw [← e]; exact hmr)), hlt, hmr⟩

theorem roleIn_keepLowest (w : Half) (r : Role) (n : Fin 8) :
    roleIn (keepLowest w r) n =
      if roleIn w n = r ∧ ∃ m, m < n ∧ roleIn w m = r then .absent else roleIn w n := by
  have := foldl_keepStep r stations (List.pairwise_lt_finRange 8) w false n
  rw [show keepLowest w r = (stations.foldl (keepStep r) (w, false)).1 from rfl, this]
  simp [stations]

/-- A roster keeps its word where no second station has the role. -/
theorem keepLowest_eq_self_iff (w : Half) {r : Role} (hr : r ≠ .absent) :
    w = keepLowest w r ↔ ¬ ∃ n m : Fin 8, m < n ∧ roleIn w n = r ∧ roleIn w m = r := by
  constructor
  · rintro h ⟨n, m, hlt, hn, hm⟩
    have := roleIn_keepLowest w r n
    rw [← h, if_pos ⟨hn, m, hlt, hm⟩, hn] at this
    exact hr this
  · intro h
    refine roster_ext fun n => ?_
    rw [roleIn_keepLowest, if_neg]
    rintro ⟨hn, m, hlt, hm⟩
    exact h ⟨n, m, hlt, hn, hm⟩

/-- The three steps of the roster check: the own station LEG, then the lowest BODY, then the lowest MISSION (R33). -/
def ownStep (w : Half) (own : Fin 8) : Half := if roleIn w own = .leg then w else setRole w own .leg

theorem roleIn_ownStep (w : Half) (own n : Fin 8) : roleIn (ownStep w own) n = ownLeg w own n := by
  unfold ownStep ownLeg
  split
  next h => split
            · next e => rw [e, h]
            · rfl
  next => exact roleIn_setRole w own n .leg

theorem body_roles (w : Half) (own n : Fin 8) :
    roleIn (keepLowest (ownStep w own) .body) n =
      if ownLeg w own n = .body ∧ ∃ m, m < n ∧ ownLeg w own m = .body then .absent else ownLeg w own n := by
  simp only [roleIn_keepLowest, roleIn_ownStep]

/-- Dropping BODY stations moves no MISSION station. -/
theorem mission_after_body (w : Half) (own n : Fin 8) :
    roleIn (keepLowest (ownStep w own) .body) n = .mission ↔ ownLeg w own n = .mission := by
  rw [body_roles]
  split
  next h => rw [h.1]; decide
  next => rfl

theorem settled_roles (w : Half) (own n : Fin 8) :
    roleIn (keepLowest (keepLowest (ownStep w own) .body) .mission) n = settledRole w own n := by
  rw [roleIn_keepLowest]
  simp only [mission_after_body]
  rw [body_roles, settledRole]
  cases h : ownLeg w own n <;> simp

/-- Settling leaves one station at most in the role of BODY, and one in that of MISSION (R33, check 5). -/
theorem settledRole_lone {w : Half} {own n m : Fin 8} {r : Role} (hr : r = .body ∨ r = .mission)
    (hn : settledRole w own n = r) (hm : settledRole w own m = r) : n = m := by
  have kept {k : Fin 8} (hk : settledRole w own k = r) : ownLeg w own k = r ∧ ∀ j, j < k → ownLeg w own j ≠ r := by
    unfold settledRole at hk
    dsimp only at hk
    split at hk
    next => rcases hr with rfl | rfl <;> exact absurd hk (by decide)
    next h => exact ⟨hk, fun j hj e => h ⟨hk ▸ hr, j, hj, e.trans hk.symm⟩⟩
  obtain ⟨hn, hn'⟩ := kept hn
  obtain ⟨hm, hm'⟩ := kept hm
  rcases lt_trichotomy n m with h | h | h
  · exact absurd hn (hm' n h)
  · exact h
  · exact absurd hm (hn' m h)

theorem checkRoster_eq (b : SetupBlock) (own : Fin 8) :
    checkRoster b own =
      adjustWord (adjustWord (if roleIn b.words[1] own = .leg then b else adjustWord b 1 (setRole b.words[1] own .leg)) 1
        (keepLowest (ownStep b.words[1] own) .body)) 1
        (keepLowest (keepLowest (ownStep b.words[1] own) .body) .mission) := by
  have h1 : (if roleIn b.words[1] own = .leg then b else adjustWord b 1 (setRole b.words[1] own .leg)).words[1] =
      ownStep b.words[1] own := by
    unfold ownStep
    split
    · rfl
    · exact (adjustWord_words b 1 1 _).trans (if_pos rfl)
  have h2 (c : SetupBlock) (v : Half) : (adjustWord c 1 v).words[1] = v :=
    (adjustWord_words c 1 1 v).trans (if_pos rfl)
  simp only [checkRoster, h2, h1]

theorem checkRoster_words (b : SetupBlock) (own : Fin 8) (j : Fin 54) :
    (checkRoster b own).words[j] =
      if 1 = j then keepLowest (keepLowest (ownStep b.words[1] own) .body) .mission else b.words[j] := by
  rw [checkRoster_eq, adjustWord_words]
  split
  · rfl
  next hj =>
    rw [adjustWord_words, if_neg hj]
    split
    · rfl
    · rw [adjustWord_words, if_neg hj]

/-- The indices that the roster check adjusts. -/
theorem adjusts_checkRoster (b : SetupBlock) (own : Fin 8) {body mission : List Nat}
    (hb : repeated b.words[1] own .body → body = [1]) (hb' : ¬ repeated b.words[1] own .body → body = [])
    (hm : repeated b.words[1] own .mission → mission = [1]) (hm' : ¬ repeated b.words[1] own .mission → mission = []) :
    Adjusts b (checkRoster b own) ((if roleIn b.words[1] own = .leg then [] else [1]) ++ body ++ mission) := by
  have body_iff : ownStep b.words[1] own = keepLowest (ownStep b.words[1] own) .body ↔ ¬ repeated b.words[1] own .body := by
    rw [keepLowest_eq_self_iff _ (by decide)]; simp only [roleIn_ownStep]; rfl
  have mission_iff : keepLowest (ownStep b.words[1] own) .body =
      keepLowest (keepLowest (ownStep b.words[1] own) .body) .mission ↔ ¬ repeated b.words[1] own .mission := by
    rw [keepLowest_eq_self_iff _ (by decide)]; simp only [mission_after_body]; rfl
  rw [checkRoster_eq]
  have first : Adjusts b (if roleIn b.words[1] own = .leg then b else adjustWord b 1 (setRole b.words[1] own .leg))
      (if roleIn b.words[1] own = .leg then [] else [1]) := by
    split
    · exact .refl b
    next h =>
      refine adjusts_of_ne b 1 _ fun e => h ?_
      have := roleIn_setRole b.words[1] own own .leg
      rwa [← show b.words[1] = setRole b.words[1] own .leg from e, if_pos rfl] at this
  have word1 : (if roleIn b.words[1] own = .leg then b else adjustWord b 1 (setRole b.words[1] own .leg)).words[(1 : Fin 54)] =
      ownStep b.words[1] own := by
    unfold ownStep
    split
    · rfl
    · exact (adjustWord_words b 1 1 _).trans (if_pos rfl)
  have word2 (c : SetupBlock) (v : Half) : (adjustWord c 1 v).words[(1 : Fin 54)] = v :=
    (adjustWord_words c 1 1 v).trans (if_pos rfl)
  generalize (if roleIn b.words[1] own = .leg then b else adjustWord b 1 (setRole b.words[1] own .leg)) = c at first word1 ⊢
  have second : Adjusts c (adjustWord c 1 (keepLowest (ownStep b.words[1] own) .body)) body := by
    by_cases h : repeated b.words[1] own .body
    · rw [hb h]; exact adjusts_of_ne _ 1 _ fun e => body_iff.1 (word1.symm.trans e) h
    · rw [hb' h]; exact adjusts_of_eq _ 1 _ (word1.trans (body_iff.2 h))
  refine (first.trans second).trans ?_
  · by_cases h : repeated b.words[1] own .mission
    · rw [hm h]; exact adjusts_of_ne _ 1 _ fun e => mission_iff.1 ((word2 _ _).symm.trans e) h
    · rw [hm' h]; exact adjusts_of_eq _ 1 _ ((word2 _ _).trans (mission_iff.2 h))

/-! ## The settled words -/

/-- The words before the roster check, by their stages. -/
def boxed (b : SetupBlock) : SetupBlock := checkBox (checkBox (checkBox (clampAll b) 2 5 6) 3 7 8) 4 9 10

theorem settleWords_eq (b : SetupBlock) (own : Fin 8) :
    settleWords b own = storeSum (checkRoster (checkOffset (checkUnload (checkLoaded (boxed b)))) own) := by
  simp only [settleWords, checkPairs, boxed]

@[simp] theorem storeSum_words (b : SetupBlock) : (storeSum b).words = b.words := by simp only [storeSum]

theorem Adjusts.storeSum {b c : SetupBlock} {l : List Nat} (h : Adjusts b c l) : Adjusts b (storeSum c) l :=
  ⟨h.ptr, h.refused, h.count, h.first, h.words⟩

/-- Outside the box, what the checks of the box leave is the word in its range. -/
theorem boxed_words_other (b : SetupBlock) (j : Fin 54) (h : j.val < 5 ∨ 10 < j.val) :
    (boxed b).words[j] = rangedAt b.words j := by
  have ne (i : Fin 54) (hi : 5 ≤ i.val ∧ i.val ≤ 10) : i ≠ j := fun e => by rw [e] at hi; omega
  rw [boxed, checkBox_words_other _ _ _ _ _ (ne 9 (by decide)) (ne 10 (by decide)),
    checkBox_words_other _ _ _ _ _ (ne 7 (by decide)) (ne 8 (by decide)),
    checkBox_words_other _ _ _ _ _ (ne 5 (by decide)) (ne 6 (by decide)), clampAll_words]

/-- One axis of the box after the checks: the two bounds of the words `v`, or ± 50 about the neutral one. -/
def BoxAxis (v : Fin 54 → Half) (neutral lo hi : Fin 54) (f : Vector Half 54) : Prop :=
  f[lo] = (if (v lo).toInt < (v hi).toInt then v lo else BitVec.ofInt 16 ((v neutral).toInt - 50)) ∧
  f[hi] = (if (v lo).toInt < (v hi).toInt then v hi else BitVec.ofInt 16 ((v neutral).toInt + 50))

theorem boxAxis_checkBox {b : SetupBlock} {v : Fin 54 → Half} {n lo hi : Fin 54} (hne : lo ≠ hi)
    (hn : b.words[n] = v n) (hlo : b.words[lo] = v lo) (hhi : b.words[hi] = v hi) :
    BoxAxis v n lo hi (checkBox b n lo hi).words := by
  have := checkBox_words_bounds b n lo hi hne
  rwa [hn, hlo, hhi] at this

theorem BoxAxis.congr {v : Fin 54 → Half} {n lo hi : Fin 54} {f g : Vector Half 54} (h : BoxAxis v n lo hi f)
    (hlo : g[lo] = f[lo]) (hhi : g[hi] = f[hi]) : BoxAxis v n lo hi g := by
  unfold BoxAxis at *; rwa [hlo, hhi]

theorem boxed_axes (b : SetupBlock) :
    BoxAxis (rangedAt b.words) 2 5 6 (boxed b).words ∧ BoxAxis (rangedAt b.words) 3 7 8 (boxed b).words ∧
    BoxAxis (rangedAt b.words) 4 9 10 (boxed b).words := by
  have keep1 (j : Fin 54) (h5 : 5 ≠ j) (h6 : 6 ≠ j) : (checkBox (clampAll b) 2 5 6).words[j] = rangedAt b.words j := by
    rw [checkBox_words_other _ _ _ _ _ h5 h6, clampAll_words]
  have keep2 (j : Fin 54) (h5 : 5 ≠ j) (h6 : 6 ≠ j) (h7 : 7 ≠ j) (h8 : 8 ≠ j) :
      (checkBox (checkBox (clampAll b) 2 5 6) 3 7 8).words[j] = rangedAt b.words j := by
    rw [checkBox_words_other _ _ _ _ _ h7 h8, keep1 j h5 h6]
  have a1 : BoxAxis (rangedAt b.words) 2 5 6 (checkBox (clampAll b) 2 5 6).words :=
    boxAxis_checkBox (by decide) (clampAll_words b 2) (clampAll_words b 5) (clampAll_words b 6)
  have a2 : BoxAxis (rangedAt b.words) 3 7 8 (checkBox (checkBox (clampAll b) 2 5 6) 3 7 8).words :=
    boxAxis_checkBox (by decide) (keep1 3 (by decide) (by decide)) (keep1 7 (by decide) (by decide))
      (keep1 8 (by decide) (by decide))
  have a3 : BoxAxis (rangedAt b.words) 4 9 10 (boxed b).words :=
    boxAxis_checkBox (by decide) (keep2 4 (by decide) (by decide) (by decide) (by decide))
      (keep2 9 (by decide) (by decide) (by decide) (by decide))
      (keep2 10 (by decide) (by decide) (by decide) (by decide))
  refine ⟨(a1.congr (checkBox_words_other _ _ _ _ _ (by decide) (by decide))
    (checkBox_words_other _ _ _ _ _ (by decide) (by decide))).congr
      (checkBox_words_other _ _ _ _ _ (by decide) (by decide))
      (checkBox_words_other _ _ _ _ _ (by decide) (by decide)),
    a2.congr (checkBox_words_other _ _ _ _ _ (by decide) (by decide))
      (checkBox_words_other _ _ _ _ _ (by decide) (by decide)), a3⟩

/-- Every settled word, by its index (R32, R33). -/
theorem settled_word (b : SetupBlock) (own : Fin 8) (j : Fin 54) :
    let v := rangedAt b.words
    (settleWords b own).words[j] =
      if 1 = j then keepLowest (keepLowest (ownStep b.words[1] own) .body) .mission
      else if 41 = j then BitVec.ofNat 16 ((v 41).toNat % (v 40).toNat)
      else if 17 = j ∧ (v 15).toNat < (v 17).toNat then v 15
      else if 16 = j ∧ (v 16).toNat < (v 15).toNat then v 15
      else (boxed b).words[j] := by
  intro v
  have at0 (j : Fin 54) (h : j.val < 5 ∨ 10 < j.val) : (boxed b).words[j] = v j := boxed_words_other b j h
  have loaded (j : Fin 54) (h : 16 ≠ j) : (checkLoaded (boxed b)).words[j] = (boxed b).words[j] := by
    rw [checkLoaded_words, if_neg fun e => h e.1]
  have unload (j : Fin 54) (h : 16 ≠ j) (h' : 17 ≠ j) :
      (checkUnload (checkLoaded (boxed b))).words[j] = (boxed b).words[j] := by
    rw [checkUnload_words, if_neg fun e => h' e.1, loaded j h]
  have w15 : (checkLoaded (boxed b)).words[15] = v 15 := (loaded 15 (by decide)).trans (at0 15 (by decide))
  have w17 : (checkLoaded (boxed b)).words[17] = v 17 := (loaded 17 (by decide)).trans (at0 17 (by decide))
  have b15 : (boxed b).words[15] = v 15 := at0 15 (by decide)
  have b16 : (boxed b).words[16] = v 16 := at0 16 (by decide)
  have w40 : (checkUnload (checkLoaded (boxed b))).words[40] = v 40 :=
    (unload 40 (by decide) (by decide)).trans (at0 40 (by decide))
  have w41 : (checkUnload (checkLoaded (boxed b))).words[41] = v 41 :=
    (unload 41 (by decide) (by decide)).trans (at0 41 (by decide))
  have w1 : (checkOffset (checkUnload (checkLoaded (boxed b)))).words[1] = b.words[1] :=
    ((checkOffset_words _ 1).trans (if_neg (by decide))).trans
      ((unload 1 (by decide) (by decide)).trans (at0 1 (by decide)))
  rw [settleWords_eq, storeSum_words, checkRoster_words, w1, checkOffset_words, w40, w41, checkUnload_words, w15, w17,
    checkLoaded_words, b15, b16]

/-- The adjustments of the whole settling, in their order (R32, R33). -/
theorem adjusts_settleWords (b : SetupBlock) (own : Fin 8) {l : List Nat} (hl : Adjusted b.words own l) :
    Adjusts b (settleWords b own) l := by
  obtain ⟨body, mission, hb, hb', hm, hm', rfl⟩ := hl
  have keep1 (j : Fin 54) (h5 : 5 ≠ j) (h6 : 6 ≠ j) : (checkBox (clampAll b) 2 5 6).words[j] = rangedAt b.words j := by
    rw [checkBox_words_other _ _ _ _ _ h5 h6, clampAll_words]
  have keep2 (j : Fin 54) (h5 : 5 ≠ j) (h6 : 6 ≠ j) (h7 : 7 ≠ j) (h8 : 8 ≠ j) :
      (checkBox (checkBox (clampAll b) 2 5 6) 3 7 8).words[j] = rangedAt b.words j := by
    rw [checkBox_words_other _ _ _ _ _ h7 h8, keep1 j h5 h6]
  have at0 (j : Fin 54) (h : j.val < 5 ∨ 10 < j.val) : (boxed b).words[j] = rangedAt b.words j := boxed_words_other b j h
  have loaded (j : Fin 54) (h : 16 ≠ j) : (checkLoaded (boxed b)).words[j] = (boxed b).words[j] := by
    rw [checkLoaded_words, if_neg fun e => h e.1]
  have unload (j : Fin 54) (h : 16 ≠ j) (h' : 17 ≠ j) :
      (checkUnload (checkLoaded (boxed b))).words[j] = (boxed b).words[j] := by
    rw [checkUnload_words, if_neg fun e => h' e.1, loaded j h]
  have s0 := adjusts_clampAll b
  have s1 := adjusts_checkBox (clampAll b) 2 5 6
  rw [clampAll_words, clampAll_words] at s1
  have s2 := adjusts_checkBox (checkBox (clampAll b) 2 5 6) 3 7 8
  rw [keep1 7 (by decide) (by decide), keep1 8 (by decide) (by decide)] at s2
  have s3 : Adjusts _ (boxed b) _ := adjusts_checkBox (checkBox (checkBox (clampAll b) 2 5 6) 3 7 8) 4 9 10
  rw [keep2 9 (by decide) (by decide) (by decide) (by decide),
    keep2 10 (by decide) (by decide) (by decide) (by decide)] at s3
  have s4 := adjusts_checkLoaded (boxed b)
  rw [show (boxed b).words[16] = rangedAt b.words 16 from at0 16 (by decide),
    show (boxed b).words[15] = rangedAt b.words 15 from at0 15 (by decide)] at s4
  have s5 := adjusts_checkUnload (checkLoaded (boxed b))
  rw [show (checkLoaded (boxed b)).words[15] = rangedAt b.words 15 from
      (loaded 15 (by decide)).trans (at0 15 (by decide)),
    show (checkLoaded (boxed b)).words[17] = rangedAt b.words 17 from
      (loaded 17 (by decide)).trans (at0 17 (by decide))] at s5
  have w40 : (checkUnload (checkLoaded (boxed b))).words[40] = rangedAt b.words 40 :=
    (unload 40 (by decide) (by decide)).trans (at0 40 (by decide))
  have h40 : 5 ≤ (rangedAt b.words 40).toNat := (ranged_inParamRange (paramRange_boundsFit 40) b.words[40]).1
  have s6 := adjusts_checkOffset (checkUnload (checkLoaded (boxed b))) (by rw [w40]; omega)
  rw [w40, show (checkUnload (checkLoaded (boxed b))).words[41] = rangedAt b.words 41 from
    (unload 41 (by decide) (by decide)).trans (at0 41 (by decide))] at s6
  have w1 : (checkOffset (checkUnload (checkLoaded (boxed b)))).words[1] = b.words[1] :=
    ((checkOffset_words _ 1).trans (if_neg (by decide))).trans
      ((unload 1 (by decide) (by decide)).trans (at0 1 (by decide)))
  have s7 := adjusts_checkRoster (checkOffset (checkUnload (checkLoaded (boxed b)))) own (body := body)
    (mission := mission) (by rwa [w1]) (by rwa [w1]) (by rwa [w1]) (by rwa [w1])
  rw [w1] at s7
  have all := ((((((s0.trans s1).trans s2).trans s3).trans s4).trans s5).trans s6).trans s7
  rw [settleWords_eq]
  simp only [List.append_assoc] at all ⊢
  exact all.storeSum

/-- Whatever the words, there is one list of adjustments. -/
theorem adjusted_exists (w : Vector Half 54) (own : Fin 8) : ∃ l, Adjusted w own l := by
  classical
  exact ⟨_, if repeated w[1] own .body then [1] else [], if repeated w[1] own .mission then [1] else [],
    fun h => if_pos h, fun h => if_neg h, fun h => if_pos h, fun h => if_neg h, rfl⟩

/-- The list of adjustments holds at most 62 indices, so that no count saturates. -/
theorem adjusted_length {w : Vector Half 54} {own : Fin 8} {l : List Nat} (h : Adjusted w own l) : l.length ≤ 63 := by
  obtain ⟨body, mission, hb, hb', hm, hm', rfl⟩ := h
  have one (p : Prop) [Decidable p] (x : Nat) : (if p then [] else [x]).length ≤ 1 ∧ (if p then [x] else []).length ≤ 1 := by
    split <;> simp
  have hbody : body.length ≤ 1 := by
    by_cases h : repeated w[1] own .body
    · simp [hb h]
    · simp [hb' h]
  have hmission : mission.length ≤ 1 := by
    by_cases h : repeated w[1] own .mission
    · simp [hm h]
    · simp [hm' h]
  have hrange := List.length_filter_le (fun i => decide (rangedAt w i ≠ w[i])) (List.finRange 54)
  simp only [List.length_append, List.length_map, List.length_finRange] at hrange ⊢
  have h5 := (one ((rangedAt w 5).toInt < (rangedAt w 6).toInt) 5).1
  have h7 := (one ((rangedAt w 7).toInt < (rangedAt w 8).toInt) 7).1
  have h9 := (one ((rangedAt w 9).toInt < (rangedAt w 10).toInt) 9).1
  have h16 := (one ((rangedAt w 16).toNat < (rangedAt w 15).toNat) 16).2
  have h17 := (one ((rangedAt w 15).toNat < (rangedAt w 17).toNat) 17).2
  have h41 := (one ((rangedAt w 40).toNat ≤ (rangedAt w 41).toNat) 41).2
  have h1 := (one (roleIn w[1] own = .leg) 1).1
  omega

/-- A word in its range (R32). -/
theorem rangedAt_inRange (w : Vector Half 54) (j : Fin 54) : inParamRange (paramRange j.val) (rangedAt w j) :=
  ranged_inParamRange (paramRange_boundsFit j) w[j]

theorem toInt_ofInt_near {n d : Int} (hn : -1000 ≤ n ∧ n ≤ 1000) (hd : -50 ≤ d ∧ d ≤ 50) :
    (BitVec.ofInt 16 (n + d)).toInt = n + d := by
  rw [BitVec.toInt_ofInt]; unfold Int.bmod; dsimp only; split <;> omega

/-- One axis of the settled box: its bounds are in range, in order, and the ones that R33 gives. -/
theorem boxAxis_settled {w f : Vector Half 54} {n lo hi : Fin 54} (h : BoxAxis (rangedAt w) n lo hi f)
    (hn : -1000 ≤ (rangedAt w n).toInt ∧ (rangedAt w n).toInt ≤ 1000)
    (hlo : -1500 ≤ (rangedAt w lo).toInt ∧ (rangedAt w lo).toInt ≤ 1500)
    (hhi : -1500 ≤ (rangedAt w hi).toInt ∧ (rangedAt w hi).toInt ≤ 1500) :
    (if (rangedAt w lo).toInt < (rangedAt w hi).toInt then f[lo] = rangedAt w lo ∧ f[hi] = rangedAt w hi
      else f[lo].toInt = (rangedAt w n).toInt - 50 ∧ f[hi].toInt = (rangedAt w n).toInt + 50) ∧
    f[lo].toInt < f[hi].toInt ∧ (-1500 ≤ f[lo].toInt ∧ f[lo].toInt ≤ 1500) ∧
    (-1500 ≤ f[hi].toInt ∧ f[hi].toInt ≤ 1500) := by
  obtain ⟨el, eh⟩ := h
  by_cases hlt : (rangedAt w lo).toInt < (rangedAt w hi).toInt
  · rw [if_pos hlt] at el eh
    rw [if_pos hlt, el, eh]
    exact ⟨⟨rfl, rfl⟩, hlt, hlo, hhi⟩
  · rw [if_neg hlt] at el eh
    rw [if_neg hlt, el, eh, Int.sub_eq_add_neg, toInt_ofInt_near hn (by omega), toInt_ofInt_near hn (by omega)]
    omega

/-- The box of the settled words, axis by axis. -/
theorem settled_axes (b : SetupBlock) (own : Fin 8) :
    BoxAxis (rangedAt b.words) 2 5 6 (settleWords b own).words ∧
    BoxAxis (rangedAt b.words) 3 7 8 (settleWords b own).words ∧
    BoxAxis (rangedAt b.words) 4 9 10 (settleWords b own).words := by
  have keep (j : Fin 54) (h : j ∈ ([5, 6, 7, 8, 9, 10] : List (Fin 54))) :
      (settleWords b own).words[j] = (boxed b).words[j] := by
    have hj : 5 ≤ j.val ∧ j.val ≤ 10 := by revert h; revert j; decide
    have ne (i : Fin 54) (hi : i.val < 5 ∨ 10 < i.val) : i ≠ j := fun e => by rw [e] at hi; omega
    rw [settled_word, if_neg (ne 1 (by decide)), if_neg (ne 41 (by decide)),
      if_neg fun e => ne 17 (by decide) e.1, if_neg fun e => ne 16 (by decide) e.1]
  obtain ⟨ax, ay, az⟩ := boxed_axes b
  exact ⟨ax.congr (keep 5 (by decide)) (keep 6 (by decide)), ay.congr (keep 7 (by decide)) (keep 8 (by decide)),
    az.congr (keep 9 (by decide)) (keep 10 (by decide))⟩

/-- A word that no check of R33 names is kept in its range. -/
theorem settled_word_other (b : SetupBlock) (own : Fin 8) (j : Fin 54)
    (h : j.val ∉ [1, 5, 6, 7, 8, 9, 10, 16, 17, 41]) : (settleWords b own).words[j] = rangedAt b.words j := by
  have ne (i : Fin 54) (hi : i.val ∈ [1, 5, 6, 7, 8, 9, 10, 16, 17, 41]) : i ≠ j := fun e => h (e ▸ hi)
  have hj : j.val < 5 ∨ 10 < j.val := by
    simp only [List.mem_cons, List.not_mem_nil, or_false] at h; omega
  rw [settled_word, if_neg (ne 1 (by decide)), if_neg (ne 41 (by decide)), if_neg fun e => ne 17 (by decide) e.1,
    if_neg fun e => ne 16 (by decide) e.1, boxed_words_other b j hj]

theorem settled_roster (b : SetupBlock) (own : Fin 8) :
    (settleWords b own).words[(1 : Fin 54)] = keepLowest (keepLowest (ownStep b.words[1] own) .body) .mission := by
  rw [settled_word, if_pos rfl]

theorem settled_tLoaded (b : SetupBlock) (own : Fin 8) :
    (settleWords b own).words[(16 : Fin 54)].toNat = max (rangedAt b.words 16).toNat (rangedAt b.words 15).toNat := by
  rw [settled_word, if_neg (by decide), if_neg (by decide), if_neg (by simp), boxed_words_other b 16 (by decide)]
  split <;> omega

theorem settled_tUnload (b : SetupBlock) (own : Fin 8) :
    (settleWords b own).words[(17 : Fin 54)].toNat = min (rangedAt b.words 17).toNat (rangedAt b.words 15).toNat := by
  rw [settled_word, if_neg (by decide), if_neg (by decide), if_neg (c := 16 = _ ∧ _) (by simp),
    boxed_words_other b 17 (by decide)]
  split <;> omega

theorem settled_offset (b : SetupBlock) (own : Fin 8) :
    (settleWords b own).words[(41 : Fin 54)].toNat = (rangedAt b.words 41).toNat % (rangedAt b.words 40).toNat := by
  rw [settled_word, if_neg (by decide), if_pos rfl, BitVec.toNat_ofNat, Nat.mod_eq_of_lt]
  exact lt_of_le_of_lt (Nat.mod_le _ _) (rangedAt b.words 41).isLt

/-- Setup completion settles the words by R32 and R33. -/
theorem settledFrom (b : SetupBlock) (own : Fin 8) : SettledFrom b.words own (settleWords b own).words := by
  obtain ⟨ax, ay, az⟩ := settled_axes b own
  refine ⟨settled_word_other b own, ?_, ?_, ?_, settled_tLoaded b own, settled_tUnload b own, settled_offset b own,
    fun n => ?_⟩
  · exact (boxAxis_settled ax (rangedAt_inRange _ 2) (rangedAt_inRange _ 5) (rangedAt_inRange _ 6)).1
  · exact (boxAxis_settled ay (rangedAt_inRange _ 3) (rangedAt_inRange _ 7) (rangedAt_inRange _ 8)).1
  · exact (boxAxis_settled az ⟨(rangedAt_inRange _ 4).1, by have := (rangedAt_inRange b.words 4).2; omega⟩
      (rangedAt_inRange _ 9) (rangedAt_inRange _ 10)).1
  · rw [← settled_roles, ← settled_roster]; rfl

/-- The settled words are in range and consistent (R32, R33). -/
theorem paramsSettled (b : SetupBlock) (own : Fin 8) : ParamsSettled (settleWords b own).words own := by
  obtain ⟨ax, ay, az⟩ := settled_axes b own
  obtain ⟨-, ltx, x1, x2⟩ := boxAxis_settled ax (rangedAt_inRange _ 2) (rangedAt_inRange _ 5) (rangedAt_inRange _ 6)
  obtain ⟨-, lty, y1, y2⟩ := boxAxis_settled ay (rangedAt_inRange _ 3) (rangedAt_inRange _ 7) (rangedAt_inRange _ 8)
  obtain ⟨-, ltz, z1, z2⟩ := boxAxis_settled az ⟨(rangedAt_inRange _ 4).1, by have := (rangedAt_inRange b.words 4).2; omega⟩
    (rangedAt_inRange _ 9) (rangedAt_inRange _ 10)
  have r15 : 1 ≤ (rangedAt b.words 15).toNat ∧ (rangedAt b.words 15).toNat ≤ 32767 := rangedAt_inRange _ 15
  have r16 : 0 ≤ (rangedAt b.words 16).toNat ∧ (rangedAt b.words 16).toNat ≤ 32767 := rangedAt_inRange _ 16
  have r40 : 5 ≤ (rangedAt b.words 40).toNat ∧ (rangedAt b.words 40).toNat ≤ 50 := rangedAt_inRange _ 40
  have e15 := settled_word_other b own 15 (by decide)
  have e40 := settled_word_other b own 40 (by decide)
  have e16 := settled_tLoaded b own
  have e17 := settled_tUnload b own
  have e41 := settled_offset b own
  have lt41 := Nat.mod_lt (rangedAt b.words 41).toNat (show 0 < (rangedAt b.words 40).toNat by omega)
  have roles (n : Fin 8) : roleIn (settleWords b own).words[(1 : Fin 54)] n = settledRole b.words[1] own n := by
    rw [settled_roster, settled_roles]
  refine ⟨fun i => ?_, ⟨ltx, lty, ltz⟩, ⟨?_, ?_⟩, ?_, ?_, fun n m hn hm => ?_, fun n m hn hm => ?_⟩
  · by_cases hi : i.val ∈ [1, 5, 6, 7, 8, 9, 10, 16, 17, 41]
    · obtain rfl | rfl | rfl | rfl | rfl | rfl | rfl | rfl | rfl | rfl :
          i = 1 ∨ i = 5 ∨ i = 6 ∨ i = 7 ∨ i = 8 ∨ i = 9 ∨ i = 10 ∨ i = 16 ∨ i = 17 ∨ i = 41 := by
        simpa [Fin.ext_iff] using hi
      · trivial
      · exact x1
      · exact x2
      · exact y1
      · exact y2
      · exact z1
      · exact z2
      · exact (⟨Nat.zero_le _, by rw [e16]; omega⟩ :
          0 ≤ (settleWords b own).words[(16 : Fin 54)].toNat ∧ (settleWords b own).words[(16 : Fin 54)].toNat ≤ 32767)
      · exact (⟨Nat.zero_le _, by rw [e17]; omega⟩ :
          0 ≤ (settleWords b own).words[(17 : Fin 54)].toNat ∧ (settleWords b own).words[(17 : Fin 54)].toNat ≤ 32767)
      · exact (⟨Nat.zero_le _, by rw [e41]; omega⟩ :
          0 ≤ (settleWords b own).words[(41 : Fin 54)].toNat ∧ (settleWords b own).words[(41 : Fin 54)].toNat ≤ 49)
    · rw [settled_word_other b own i hi]; exact rangedAt_inRange _ i
  · exact (show (settleWords b own).words[(17 : Fin 54)].toNat ≤ (settleWords b own).words[(15 : Fin 54)].toNat by
      rw [e17, e15]; omega)
  · exact (show (settleWords b own).words[(15 : Fin 54)].toNat ≤ (settleWords b own).words[(16 : Fin 54)].toNat by
      rw [e16, e15]; omega)
  · exact (show (settleWords b own).words[(41 : Fin 54)].toNat < (settleWords b own).words[(40 : Fin 54)].toNat by
      rw [e41, e40]; exact lt41)
  · exact (roles own).trans (by simp [settledRole, ownLeg])
  · exact settledRole_lone (.inl rfl) ((roles n).symm.trans hn) ((roles m).symm.trans hm)
  · exact settledRole_lone (.inr rfl) ((roles n).symm.trans hn) ((roles m).symm.trans hm)

/-- Settles O30: `settledFrom` gives the words, `paramsSettled` what follows from them, and `adjusts_settleWords` the count,
the first index, and that no adjustment means no change. -/
theorem settledWords : Obligations.SettledWords := by
  intro b own
  dsimp only
  obtain ⟨l₀, h₀⟩ := adjusted_exists b.words own
  have adjusts := adjusts_settleWords b own h₀
  have sums : (settleWords b own).sumC2 = checkC2 (wordBytes (settleWords b own)) ∧
      (settleWords b own).sumC1 = checkC1 (wordBytes (settleWords b own)) := by
    rw [settleWords_eq]; simp only [storeSum, wordBytes, and_self]
  refine ⟨settledFrom b own, fun l hl hc hf => ?_, paramsSettled b own, sums.1, sums.2, adjusts.ptr, adjusts.refused,
    fun hc => adjusts.words ?_⟩
  · have h := adjusts_settleWords b own hl
    have hlen := adjusted_length hl
    refine ⟨?_, ?_⟩
    · rw [h.count, hc]; simp; omega
    · rw [h.first, hf, Option.none_or]
  · have hcount := adjusts.count
    rw [hc] at hcount
    simp only [BitVec.toNat_ofNat] at hcount
    exact List.length_eq_zero_iff.1 (by omega)

end Sys2Proof.SetupWords
end

section
/-! The Transmit Queue under its operations: what keeps a queue in claim order with one frame of each limited kind (R140,
R141), and which frames stay in it (R142). -/

-- Elaborated in order: elaborated at once, the many proofs here take more threads than the check has memory for.
set_option Elab.async false

namespace Sys2Proof.QueueRules
open Sys2Proof Sys2Proof.Machine Sys2Proof.Laws

/-! ## A queue in order -/

/-- `QueueOrdered`, of a list of frames of station `n`. -/
def Ordered (n : Fin 8) (l : List TxFrame) : Prop :=
  l.Pairwise (fun f g => f.claim.toNat ≤ g.claim.toNat) ∧
  (∀ f ∈ l, ∃ k, f.claim = claimByte k n) ∧
  (∀ k, k = .legReport ∨ k = .footDetail ∨ k = .alarm ∨ k = .event → kindCount l k ≤ 1) ∧
  (∀ b, blockCount l b ≤ 1)

theorem queueOrdered_iff (s : State) : QueueOrdered s ↔ Ordered s.sbi.station s.txq.frames := Iff.rfl

/-- What the order of the queue goes by: claim byte, and the block number of a Diagnostic. -/
def key (f : TxFrame) : Byte × Byte := (f.claim, if f.kind = some .diagnostic then byteAt f.payload 0 else 0#8)

theorem kindCount_eq_countP (l : List TxFrame) (k : FrameKind) :
    kindCount l k = (l.map key).countP fun c => kindOfCode (claimCode c.1) == some k := by
  rw [kindCount, ← List.countP_eq_length_filter, List.countP_map]; rfl

theorem blockCount_eq_countP (l : List TxFrame) (b : Byte) :
    blockCount l b = (l.map key).countP fun c => kindOfCode (claimCode c.1) == some .diagnostic && c.2 == b := by
  rw [blockCount, ← List.countP_eq_length_filter, List.countP_map]
  congr 1
  funext f
  by_cases h : f.kind = some .diagnostic
  · simp [key, h, show kindOfCode (claimCode f.claim) = some .diagnostic from h]
  · have h' : kindOfCode (claimCode f.claim) ≠ some .diagnostic := h
    simp [key, h, beq_false_of_ne h, beq_false_of_ne h']

/-- The order of the queue is settled by the keys of its frames. -/
theorem ordered_congr {n : Fin 8} {l m : List TxFrame} (h : m.map key = l.map key) (hl : Ordered n l) : Ordered n m := by
  obtain ⟨pair, own, kinds, blocks⟩ := hl
  have hclaim : m.map TxFrame.claim = l.map TxFrame.claim := by
    simpa [List.map_map, key, Function.comp_def] using congrArg (List.map Prod.fst) h
  refine ⟨?_, fun f hf => ?_, fun k hk => ?_, fun b => ?_⟩
  · have : (m.map TxFrame.claim).Pairwise (fun a b => a.toNat ≤ b.toNat) := by
      rw [hclaim]; exact List.pairwise_map.2 pair
    rwa [List.pairwise_map] at this
  · have : f.claim ∈ l.map TxFrame.claim := hclaim ▸ List.mem_map_of_mem hf
    obtain ⟨g, hg, e⟩ := List.mem_map.1 this
    obtain ⟨k, hk⟩ := own g hg
    exact ⟨k, e ▸ hk⟩
  · rw [kindCount_eq_countP, h, ← kindCount_eq_countP]; exact kinds k hk
  · rw [blockCount_eq_countP, h, ← blockCount_eq_countP]; exact blocks b

theorem ordered_sublist {n : Fin 8} {l m : List TxFrame} (h : m.Sublist l) (hl : Ordered n l) : Ordered n m := by
  obtain ⟨pair, own, kinds, blocks⟩ := hl
  exact ⟨pair.sublist h, fun f hf => own f (h.subset hf), fun k hk => ((h.filter _).length_le).trans (kinds k hk),
    fun b => ((h.filter _).length_le).trans (blocks b)⟩

/-- A kind of which the queue holds one frame at most, for a Diagnostic one of each block (R141, R159). -/
def limited : FrameKind → Bool
  | .legReport | .footDetail | .alarm | .event | .diagnostic => true
  | _ => false

theorem kind_of_claim {f : TxFrame} {k : FrameKind} {n : Fin 8} (h : f.claim = claimByte k n) : f.kind = some k := by
  rw [TxFrame.kind, h, kindOfCode_claimByte]

theorem sameSlot_iff {f g : TxFrame} : sameSlot f g = true ↔
    f.kind = g.kind ∧ (f.kind = some .diagnostic → byteAt f.payload 0 = byteAt g.payload 0) := by
  simp only [sameSlot, Bool.and_eq_true, beq_iff_eq, Bool.or_eq_true, bne_iff_ne]
  tauto

/-- A frame whose place is free enters in order (R140). -/
theorem ordered_insertFrame {n : Fin 8} {f : TxFrame} {k : FrameKind} {l : List TxFrame} (hf : f.claim = claimByte k n)
    (hfree : limited k = true → ∀ g ∈ l, sameSlot f g = false) (hl : Ordered n l) : Ordered n (insertFrame f l) := by
  have hkind := kind_of_claim hf
  obtain ⟨a, b, rfl, hins, ha, hb⟩ := insertFrame_split f l
  obtain ⟨pair, own, kinds, blocks⟩ := hl
  rw [hins]
  have count (p : TxFrame → Bool) :
      ((a ++ f :: b).filter p).length = ((a ++ b).filter p).length + if p f then 1 else 0 := by
    simp only [← List.countP_eq_length_filter, List.countP_append, List.countP_cons]; split <;> omega
  have none_of (p : TxFrame → Bool) (hp : p f = true) (h : ∀ g ∈ a ++ b, p g = false) :
      ((a ++ f :: b).filter p).length ≤ 1 := by
    rw [count, if_pos hp, List.filter_eq_nil_iff.2 (by simpa using h)]; simp
  refine ⟨?_, fun g hg => ?_, fun j hj => ?_, fun c => ?_⟩
  · rw [List.pairwise_append] at pair ⊢
    obtain ⟨pa, pb, pab⟩ := pair
    have below : ∀ x ∈ b, f.claim.toNat ≤ x.claim.toNat := by
      cases b with
      | nil => simp
      | cons y b =>
        have hy : f.claim.toNat < y.claim.toNat := hb y rfl
        intro x hx
        rcases List.mem_cons.1 hx with rfl | hx
        · omega
        · have := List.rel_of_pairwise_cons pb hx; omega
    refine ⟨pa, List.pairwise_cons.2 ⟨below, pb⟩, fun x hx y hy => ?_⟩
    rcases List.mem_cons.1 hy with rfl | hy
    · have := ha x hx; rw [BitVec.lt_def] at this; omega
    · exact pab x hx y hy
  · rcases List.mem_append.1 hg with hg | hg
    · exact own g (List.mem_append_left _ hg)
    · rcases List.mem_cons.1 hg with rfl | hg
      · exact ⟨k, hf⟩
      · exact own g (List.mem_append_right _ hg)
  · by_cases hjk : k = j
    · subst hjk
      have hlim : limited k = true := by rcases hj with rfl | rfl | rfl | rfl <;> rfl
      refine none_of (fun g => g.kind == some k) (by simp [hkind]) fun g hg => ?_
      by_contra hc
      have hgk : g.kind = some k := by simpa using hc
      refine absurd (sameSlot_iff.2 ⟨hkind.trans hgk.symm, fun hd => ?_⟩) (by simp [hfree hlim g hg])
      rw [hkind] at hd
      rcases hj with rfl | rfl | rfl | rfl <;> cases hd
    · have := count (fun g => g.kind == some j)
      rw [if_neg (by simp [hkind, hjk])] at this
      exact this.trans_le (kinds j hj)
  · by_cases hd : k = .diagnostic ∧ byteAt f.payload 0 = c
    · obtain ⟨rfl, rfl⟩ := hd
      refine none_of _ (by simp [hkind]) fun g hg => ?_
      by_contra hc
      have hc : g.kind = some .diagnostic ∧ byteAt g.payload 0 = byteAt f.payload 0 := by simpa using hc
      exact absurd (sameSlot_iff.2 ⟨hkind.trans hc.1.symm, fun _ => hc.2.symm⟩) (by simp [hfree rfl g hg])
    · have := count (fun g => g.kind == some .diagnostic && byteAt g.payload 0 == c)
      rw [if_neg (by simpa [hkind] using hd)] at this
      exact this.trans_le (blocks c)

/-- A frame that takes the place of the one held leaves the order as it is (R141). -/
theorem ordered_replace {n : Fin 8} {f : TxFrame} {k : FrameKind} {l : List TxFrame} (hf : f.claim = claimByte k n)
    (hl : Ordered n l) : Ordered n (l.map fun g => if sameSlot f g then f else g) := by
  refine ordered_congr ?_ hl
  rw [List.map_map]
  refine List.map_congr_left fun g hg => ?_
  by_cases h : sameSlot f g = true
  · obtain ⟨hkind, hblock⟩ := sameSlot_iff.1 h
    obtain ⟨j, hj⟩ := hl.2.1 g hg
    have hkj : k = j := by
      rw [kind_of_claim hf, kind_of_claim hj] at hkind; simpa using hkind
    have hclaim : f.claim = g.claim := by rw [hf, hj, hkj]
    simp only [Function.comp_def, h, if_true, key, hclaim, hkind]
    by_cases hd : g.kind = some .diagnostic
    · simp [hd, hblock (hkind.trans hd)]
    · simp [hd]
  · simp [h]

/-! ## Placing a frame (R140 to R142) -/

/-- Where no frame of its slot is held, or its kind is not limited, a frame is placed by R140 and R142. -/
theorem place_eq_takeIn {q : TxQueue} {f : TxFrame} {k : FrameKind} (hk : f.kind = some k)
    (h : limited k = true → k ≠ .event → ∀ g ∈ q.frames, sameSlot f g = false) : q.place f = q.takeIn f := by
  have hfind (hlim : limited k = true) (he : k ≠ .event) : q.frames.find? (sameSlot f) = none := by
    rw [List.find?_eq_none]; simpa using h hlim he
  have hany (hlim : limited k = true) (he : k ≠ .event) : q.frames.any (sameSlot f) = false := by
    simpa using h hlim he
  unfold TxQueue.place
  rw [hk]
  cases k with
  | alarm => rw [hany rfl (by decide)]; rfl
  | legReport => rw [hfind rfl (by decide)]
  | footDetail => rw [hfind rfl (by decide)]
  | diagnostic => rw [hfind rfl (by decide)]
  | _ => rfl

/-- What placing a frame can do, with the reason that R141 or R142 gives. -/
theorem place_split (q : TxQueue) (f : TxFrame) {k : FrameKind} (hk : f.kind = some k) :
    q.place f = (q, none) ∨
    (k ≠ .phaseNotice ∧ k ≠ .event ∧
      q.place f = ({ q with frames := q.frames.map fun g => if sameSlot f g then f else g }, none)) ∨
    ((limited k = true → k ≠ .event → ∀ g ∈ q.frames, sameSlot f g = false) ∧ q.place f = q.takeIn f) := by
  by_cases h : limited k = true → k ≠ .event → ∀ g ∈ q.frames, sameSlot f g = false
  · exact .inr (.inr ⟨h, place_eq_takeIn hk h⟩)
  · push Not at h
    obtain ⟨hlim, he, g, hg, hs⟩ := h
    have hs : sameSlot f g = true := by simpa using hs
    have renewed (h : q.place f = match q.frames.find? (sameSlot f) with
        | some held =>
          if held.locked then (q, none)
          else ({ q with frames := q.frames.map fun g => if sameSlot f g then f else g }, none)
        | none => q.takeIn f) (hn : k ≠ .phaseNotice) : q.place f = (q, none) ∨
        (k ≠ .phaseNotice ∧ k ≠ .event ∧
          q.place f = ({ q with frames := q.frames.map fun g => if sameSlot f g then f else g }, none)) := by
      cases hheld : q.frames.find? (sameSlot f) with
      | none => exact absurd hs (by simpa using List.find?_eq_none.1 hheld g hg)
      | some held =>
        rw [hheld] at h
        by_cases hlock : held.locked = true
        · exact .inl (h.trans (if_pos hlock))
        · exact .inr ⟨hn, he, h.trans (if_neg hlock)⟩
    unfold TxQueue.place at renewed ⊢
    rw [hk] at renewed ⊢
    rw [← or_assoc]
    refine .inl ?_
    cases k with
    | alarm => exact .inl (if_pos (List.any_eq_true.2 ⟨g, hg, hs⟩))
    | legReport => exact renewed rfl (by decide)
    | footDetail => exact renewed rfl (by decide)
    | diagnostic => exact renewed rfl (by decide)
    | event => exact absurd rfl he
    | phaseNotice => exact absurd hlim (by decide)
    | bodyReport => exact absurd hlim (by decide)
    | intent => exact absurd hlim (by decide)
    | control => exact absurd hlim (by decide)
    | setup => exact absurd hlim (by decide)

/-- Placing a frame of the node keeps the queue in order; an Event frame is placed only where none waits (R159). -/
theorem ordered_place {n : Fin 8} {q : TxQueue} {f : TxFrame} {k : FrameKind} (hf : f.claim = claimByte k n)
    (hevent : k = .event → ∀ g ∈ q.frames, g.isEvent = false) (hq : Ordered n q.frames) :
    Ordered n (q.place f).1.frames := by
  have hkind := kind_of_claim hf
  obtain h | ⟨-, -, h⟩ | ⟨hfree, h⟩ := place_split q f hkind
  · rw [h]; exact hq
  · rw [h]; exact ordered_replace hf hq
  · have free : limited k = true → ∀ g ∈ q.frames, sameSlot f g = false := by
      intro hlim g hg
      by_cases he : k = .event
      · by_contra hs
        have hs : sameSlot f g = true := by simpa using hs
        have : g.kind = some .event := by rw [← (sameSlot_iff.1 hs).1, hkind, he]
        simpa [TxFrame.isEvent, this] using hevent he g hg
      · exact hfree hlim he g hg
    rw [h]
    obtain ⟨-, ha⟩ | ⟨-, i, v, -, -, ha⟩ | ⟨-, ha⟩ := admit_cases q f
    · rw [ha]; exact ordered_insertFrame hf free hq
    · rw [ha]
      have hsub := List.eraseIdx_sublist q.frames i
      exact ordered_insertFrame hf (fun hl g hg => free hl g (hsub.subset hg)) (ordered_sublist hsub hq)
    · rw [ha]; exact hq

/-! ## Which frames stay (R141, R142) -/

theorem filter_insertFrame {p : TxFrame → Bool} {f : TxFrame} (h : p f = false) (l : List TxFrame) :
    (insertFrame f l).filter p = l.filter p := by
  obtain ⟨a, b, rfl, hins, -⟩ := insertFrame_split f l
  rw [hins]; simp [List.filter_append, h]

/-- Placing a frame adds none of those that `p` selects, where `p` does not select it. -/
theorem filter_place_sublist {p : TxFrame → Bool} {f : TxFrame} (h : p f = false) (q : TxQueue) :
    ((q.place f).1.frames.filter p).Sublist (q.frames.filter p) := by
  obtain hp | ⟨_, -, -, hp⟩ | hp := place_cases q f
  · rw [hp]
  · rw [hp]
    have : ∀ l : List TxFrame, ((l.map fun g => if sameSlot f g then f else g).filter p).Sublist (l.filter p) := by
      intro l
      induction l with
      | nil => simp
      | cons g l ih =>
        rw [List.map_cons, List.filter_cons, List.filter_cons]
        by_cases hs : sameSlot f g = true
        · rw [if_pos hs, h, if_neg (by decide)]
          split
          · exact ih.trans (List.sublist_cons_self _ _)
          · exact ih
        · rw [if_neg hs]
          split
          · exact ih.cons_cons g
          · exact ih
    exact this q.frames
  · rw [hp]
    obtain ⟨-, ha⟩ | ⟨-, i, v, -, -, ha⟩ | ⟨-, ha⟩ := admit_cases q f
    · rw [ha]; simp [filter_insertFrame h]
    · rw [ha]; simp only [filter_insertFrame h]; exact (List.eraseIdx_sublist _ _).filter _
    · rw [ha]

/-- A frame held that is neither renewed nor lost stays (R141, R142). -/
theorem mem_place_of_mem {q : TxQueue} {f g : TxFrame} {k : FrameKind} (hk : f.kind = some k) (hg : g ∈ q.frames)
    (hslot : k = .phaseNotice ∨ k = .event ∨ sameSlot f g = false) :
    g ∈ (q.place f).1.frames ∨ (q.place f).2 = some g := by
  obtain h | ⟨hn, he, h⟩ | ⟨-, h⟩ := place_split q f hk
  · rw [h]; exact .inl hg
  · rw [h]
    obtain hslot | hslot | hslot := hslot
    · exact absurd hslot hn
    · exact absurd hslot he
    · exact .inl (List.mem_map.2 ⟨g, hg, by simp [hslot]⟩)
  · rw [h]
    obtain ⟨-, ha⟩ | ⟨-, i, v, hv, -, ha⟩ | ⟨-, ha⟩ := admit_cases q f
    · rw [ha]; exact .inl (mem_insertFrame.2 (.inr hg))
    · rw [ha]
      by_cases hgv : g = v
      · exact .inr (by rw [hgv])
      · have hi := (victim_spec hv).1
        obtain ⟨j, hj, rfl⟩ := List.getElem_of_mem hg
        refine .inl (mem_insertFrame.2 (.inr (List.mem_eraseIdx_iff_getElem?.2 ⟨j, fun hji => hgv ?_, by simp [hj]⟩)))
        rw [← hji, List.getElem?_eq_getElem hj] at hi
        exact Option.some.inj hi
    · rw [ha]; exact .inl hg

/-- A frame that is dropped on placing leaves the others in the queue (R142). -/
theorem frames_of_lost_self {q : TxQueue} {f : TxFrame} (h : (q.place f).2 = some f) :
    (q.place f).1.frames = q.frames := by
  obtain hp | ⟨_, -, -, hp⟩ | hp := place_cases q f
  · rw [hp]
  · rw [hp] at h; cases h
  · rw [hp] at h ⊢
    obtain ⟨-, ha⟩ | ⟨-, i, v, -, hlt, ha⟩ | ⟨-, ha⟩ := admit_cases q f
    · rw [ha] at h; cases h
    · rw [ha] at h
      rw [Option.some.inj h, BitVec.lt_def] at hlt
      exact absurd hlt (lt_irrefl _)
    · rw [ha]

/-- Taking a frame in adds one Lift Notice at most to a queue that holds none. -/
theorem takeIn_lift_count {q : TxQueue} {f : TxFrame} (h : ∀ g ∈ q.frames, g.isLift = false) :
    ((q.takeIn f).1.frames.filter TxFrame.isLift).length ≤ 1 := by
  have insert (l : List TxFrame) (hl : ∀ g ∈ l, g.isLift = false) :
      ((insertFrame f l).filter TxFrame.isLift).length ≤ 1 := by
    obtain ⟨a, b, rfl, hins, -⟩ := insertFrame_split f l
    have ha : a.filter TxFrame.isLift = [] := by rw [List.filter_eq_nil_iff]; simpa using fun g hg => hl g (by simp [hg])
    have hb : b.filter TxFrame.isLift = [] := by rw [List.filter_eq_nil_iff]; simpa using fun g hg => hl g (by simp [hg])
    rw [hins, List.filter_append, List.filter_cons, ha, hb]
    split <;> simp
  obtain ⟨-, ha⟩ | ⟨-, i, v, -, -, ha⟩ | ⟨-, ha⟩ := admit_cases q f
  · rw [ha]; exact insert _ h
  · rw [ha]; exact insert _ fun g hg => h g (List.mem_of_mem_eraseIdx hg)
  · rw [ha, List.filter_eq_nil_iff.2 (by simpa using h)]; simp

/-- Of a kind that stands once at most in a list, two members are the same. -/
theorem eq_of_filter_length_le_one {l : List TxFrame} {p : TxFrame → Bool} (h : (l.filter p).length ≤ 1) {x y : TxFrame}
    (hx : x ∈ l) (hpx : p x = true) (hy : y ∈ l) (hpy : p y = true) : x = y := by
  have h1 := List.mem_filter.2 ⟨hx, hpx⟩
  have h2 := List.mem_filter.2 ⟨hy, hpy⟩
  obtain ⟨a, ha⟩ := List.length_eq_one_iff.1 (Nat.le_antisymm h (List.length_pos_of_mem h1))
  rw [ha] at h1 h2
  exact (List.mem_singleton.1 h1).trans (List.mem_singleton.1 h2).symm

/-- A Lift Notice is of the kind that is never renewed. -/
theorem kind_of_isLift {g : TxFrame} (h : g.isLift = true) : g.kind = some .phaseNotice := by
  simp only [TxFrame.isLift, Bool.and_eq_true, beq_iff_eq] at h; exact h.1

theorem kind_of_isEvent {g : TxFrame} (h : g.isEvent = true) : g.kind = some .event := by
  simpa [TxFrame.isEvent] using h

/-- A Phase Notice that R94 builds is a Lift Notice by its code alone. -/
@[simp] theorem noticeFrame_isLift (s : State) (n : Notice) (named : Byte) :
    (s.noticeFrame n named).isLift = decide (n = .lift) := by
  rw [TxFrame.isLift, State.noticeFrame, newFrame_kind, (newFrame_apply _ _ _).1]
  cases n <;> rfl

end Sys2Proof.QueueRules
end

section
/-! The relation that every step of an operation keeps, and the operations it is built from. `Keeps s t` says that each
invariant of the obligations that holds in `s` holds in `t`; it is transitive, so that an operation keeps the invariants
where each of its steps does. -/

-- Elaborated in order: elaborated at once, the many proofs here take more threads than the check has memory for.
set_option Elab.async false

namespace Sys2Proof.Keeping
open Sys2Proof Sys2Proof.Machine Sys2Proof.Laws Sys2Proof.QueueRules

/-! ## What the invariants go by -/

/-- The part of the state that the invariants speak of. -/
structure Core where
  us            : Micros
  pending       : List Instr
  station       : Fin 8
  rate          : Fin 4
  tx            : TxState
  attempt       : Option TxFrame
  words         : Vector Half 54
  ptr           : Nat
  records       : Vector (Option Record) 8
  outs          : Int × Int × Int
  refill        : Nat
  stuckRun      : Nat
  leg           : LegState
  claimPhase    : Option (BitVec 16 × Gait)
  setpoint      : Option Setpoint
  txq           : TxQueue
  flags         : Vector Bool 17
  conds         : Vector Bool 17
  clashStation  : Bool
  clashPosition : Bool
  ring          : List EventRecord
  retry         : Bool

/-- The phase and the gait of a leg in CLAIM. -/
def claimPhase (p : PhaseEngine) : Option (BitVec 16 × Gait) :=
  if p.leg = .claim then some (p.phi, p.applied.gait) else none

def core (s : State) : Core :=
  { us := s.time.us, pending := s.pending, station := s.sbi.station, rate := s.sbi.rateCode, tx := s.sbi.tx
    attempt := s.sbi.attempt, words := s.setup.words, ptr := s.setup.ptr, records := s.pt.records
    outs := (s.fsu.ax.out, s.fsu.ay.out, s.fsu.az.out), refill := s.fsu.refill, stuckRun := s.fsu.stuckRun
    leg := s.pe.leg, claimPhase := claimPhase s.pe, setpoint := s.tu.setpoint, txq := s.txq, flags := s.flt.flags
    conds := s.flt.conds, clashStation := s.flt.clashStation, clashPosition := s.flt.clashPosition, ring := s.flt.ring
    retry := s.flt.retry }

theorem claimAtBeta_iff (s : State) :
    ClaimAtBeta s ↔ ∀ v, claimPhase s.pe = some v → v.1 = BitVec.ofNat 16 v.2.beta := by
  unfold ClaimAtBeta claimPhase State.beta
  by_cases h : s.pe.leg = .claim
  · simp [h]
  · simp [h]

/-! ## The invariants, by the parts of the state that each goes by -/

theorem bounded_congr {s t : State} (hq : t.txq.frames.length ≤ s.txq.frames.length) (hr : t.flt.ring = s.flt.ring)
    (hp : t.setup.ptr = s.setup.ptr) (h : BuffersBounded s) : BuffersBounded t := by
  obtain ⟨h1, h2, h3⟩ := h
  exact ⟨hq.trans h1, hr ▸ h2, hp ▸ h3⟩

theorem sensing_congr {s t : State} (hf : t.fsu = s.fsu) (h : SensingInRange s) : SensingInRange t := by
  unfold SensingInRange at *; rwa [hf]

theorem clash_congr {s t : State} (hc : t.flt.conds = s.flt.conds) (hs : t.flt.clashStation = s.flt.clashStation)
    (hp : t.flt.clashPosition = s.flt.clashPosition) (h : ClashFromSources s) : ClashFromSources t := by
  unfold ClashFromSources at *; rwa [hc, hs, hp]

theorem held_congr {s t : State} (hf : t.flt.flags = s.flt.flags)
    (hl : t.pe.leg = s.pe.leg ∨ (s.pe.leg.walking = true ∧ s.pe.leg ≠ .hold) ∨ t.pe.leg.walking = false ∨
      t.pe.leg = .hold ∨ classALatched s = false) (h : HeldWhileFaulty s) : HeldWhileFaulty t := by
  intro ha hw
  have ha' : classALatched s = true := by rwa [classALatched, hf] at ha
  obtain hl | ⟨hw', hn⟩ | hl | hl | hl := hl
  · rw [hl] at hw ⊢; exact h ha' hw
  · exact absurd (h ha' hw') hn
  · rw [hl] at hw; cases hw
  · exact hl
  · rw [hl] at ha'; cases ha'

theorem distinct_congr {s t : State} (hr : t.pt.records = s.pt.records) (hn : t.sbi.station = s.sbi.station)
    (hw : t.setup.words = s.setup.words) (hl : t.pe.leg = .setup → s.pe.leg = .setup) (h : PositionsDistinct s) :
    PositionsDistinct t := by
  have record (n : Fin 8) : t.record n = s.record n := by simp only [State.record, hr]
  have legOf (n : Fin 8) : t.legOf n = s.legOf n := by simp only [State.legOf, record]
  have legPos : t.legPos = s.legPos := by simp only [State.legPos, State.uword, hw]
  obtain ⟨own, none, pos, pair⟩ := h
  refine ⟨by rw [hn, record, own], fun h n => by rw [record, none (hl h)], ?_, ?_⟩
  · simpa only [legOf, legPos] using pos
  · simpa only [legOf] using pair

theorem ordered_of {s t : State} (hn : t.sbi.station = s.sbi.station)
    (hq : t.txq.frames.map key = s.txq.frames.map key ∨ t.txq.frames.Sublist s.txq.frames) (h : QueueOrdered s) :
    QueueOrdered t := by
  rw [queueOrdered_iff, hn]
  obtain hq | hq := hq
  · exact ordered_congr hq h
  · exact ordered_sublist hq h

theorem setpointInBox_congr {s t : State} (hw : t.setup.words = s.setup.words) (hp : t.tu.setpoint = s.tu.setpoint)
    (hl : s.pe.leg = .setup → t.pe.leg = .setup) (h : SetpointInBox s) : SetpointInBox t := by
  intro ht
  have hs := h (mt hl ht)
  simp only [BoxSane, State.boxXMin, State.boxXMax, State.boxYMin, State.boxYMax, State.boxZMin, State.boxZMax,
    State.sword, hw, hp] at hs ⊢
  exact hs

theorem liftOnlyInClaim_congr {s t : State} (hq : t.txq.frames = s.txq.frames) (ha : t.sbi.attempt = s.sbi.attempt)
    (hl : t.pe.leg = s.pe.leg) (h : LiftOnlyInClaim s) : LiftOnlyInClaim t := by
  simp only [LiftOnlyInClaim, liftLocked, hq, ha, hl] at h ⊢
  exact h

/-! ## The relation -/

/-- What every command's time and operations keep but the rules of HOLD and of the ring. -/
structure Safe0 (s t : State) : Prop where
  us : t.time.us = s.time.us
  pending : t.pending = s.pending
  station : t.sbi.station = s.sbi.station
  rate : t.sbi.rateCode = s.sbi.rateCode
  bounded : BuffersBounded s → BuffersBounded t
  sensing : SensingInRange s → SensingInRange t
  clash : ClashFromSources s → ClashFromSources t
  beta : ClaimAtBeta s → ClaimAtBeta t
  distinct : PositionsDistinct s → PositionsDistinct t
  ordered : QueueOrdered s → QueueOrdered t
  lock : LockHeld s → LockHeld t
  lift : LockHeld s ∧ LiftOnlyInClaim s → LiftOnlyInClaim t
  box : SetpointInBox s → SetpointInBox t

/-- As `Safe0`, with the rule of the ring. -/
structure SafeRing (s t : State) : Prop extends Safe0 s t where
  ring : RingOffered s → RingOffered t

/-- From `s` to `t` every invariant is kept. -/
structure Safe (s t : State) : Prop extends SafeRing s t where
  held : HeldWhileFaulty s → HeldWhileFaulty t

/-- From `s` to `t` every invariant is kept, and every latched flag. -/
structure Keeps (s t : State) : Prop extends Safe s t where
  flags : ∀ i : Fin 17, s.flt.flags[i] = true → t.flt.flags[i] = true

theorem Safe0.trans {s t u : State} (h : Safe0 s t) (h' : Safe0 t u) : Safe0 s u where
  us := h'.us.trans h.us
  pending := h'.pending.trans h.pending
  station := h'.station.trans h.station
  rate := h'.rate.trans h.rate
  bounded := h'.bounded ∘ h.bounded
  sensing := h'.sensing ∘ h.sensing
  clash := h'.clash ∘ h.clash
  beta := h'.beta ∘ h.beta
  distinct := h'.distinct ∘ h.distinct
  ordered := h'.ordered ∘ h.ordered
  lock := h'.lock ∘ h.lock
  lift hs := h'.lift ⟨h.lock hs.1, h.lift hs⟩
  box := h'.box ∘ h.box

theorem SafeRing.trans {s t u : State} (h : SafeRing s t) (h' : SafeRing t u) : SafeRing s u where
  toSafe0 := h.toSafe0.trans h'.toSafe0
  ring := h'.ring ∘ h.ring

theorem Safe.trans {s t u : State} (h : Safe s t) (h' : Safe t u) : Safe s u where
  toSafeRing := h.toSafeRing.trans h'.toSafeRing
  held := h'.held ∘ h.held

theorem Keeps.trans {s t u : State} (h : Keeps s t) (h' : Keeps t u) : Keeps s u where
  toSafe := h.toSafe.trans h'.toSafe
  flags i hi := h'.flags i (h.flags i hi)

/-- Where nothing that the invariants speak of has moved, they are kept. -/
theorem quiet {s t : State} (h : core t = core s := by rfl) : Keeps s t := by
  simp only [core, Core.mk.injEq, Prod.mk.injEq] at h
  obtain ⟨us, pending, station, rate, tx, attempt, words, ptr, records, ⟨ox, oy, oz⟩, refill, stuck, leg, phase, setpoint,
    txq, flags, conds, cs, cp, ring, retry⟩ := h
  refine { us, pending, station, rate, bounded := ?_, sensing := ?_, clash := ?_, beta := ?_, distinct := ?_
           ordered := ?_, lock := ?_, lift := fun hs => ?_, box := ?_, held := ?_, ring := ?_, flags := ?_ }
  · exact bounded_congr (by rw [txq]) ring ptr
  · simp only [SensingInRange, ox, oy, oz, refill, stuck]; exact id
  · simp only [ClashFromSources, conds, cs, cp]; exact id
  · simp only [claimAtBeta_iff, phase]; exact id
  · exact distinct_congr records station words fun h => leg ▸ h
  · exact ordered_of station (.inl (by rw [txq]))
  · simp only [LockHeld, transmitting, tx, attempt, txq]; exact id
  · exact liftOnlyInClaim_congr (by rw [txq]) attempt leg hs.2
  · exact setpointInBox_congr words setpoint fun h => leg ▸ h
  · simp only [RingOffered, ring, retry, txq]; exact id
  · exact held_congr flags (.inl leg)
  · rw [flags]; exact fun i hi => hi

theorem Keeps.refl (s : State) : Keeps s s := quiet rfl

/-- A branch keeps the invariants where each side does. -/
theorem keeps_ite {s t u : State} {c : Prop} [Decidable c] (ht : c → Keeps s t) (hu : ¬ c → Keeps s u) :
    Keeps s (if c then t else u) := by
  split
  next h => exact ht h
  next h => exact hu h

/-! ## Placing a frame -/

section Place
variable {s : State} {f : TxFrame} {k : FrameKind}

/-- After a frame is placed that is no Lift Notice, the leg is in CLAIM only with the Lift Notices still held. -/
theorem lift_of_place (hk : f.kind = some k) (hlift : f.isLift = false)
    (hs : LiftOnlyInClaim s) : LiftOnlyInClaim (placeFrame s f) := by
  obtain ⟨one, claim, line⟩ := hs
  have hattempt : (placeFrame s f).sbi = s.sbi := (placeFrame_frame s f).2.1
  have hsub := filter_place_sublist hlift s.txq
  rw [LiftOnlyInClaim, placeFrame_txq, hattempt]
  have stay : ∀ g, g.isLift = true → g ∈ s.txq.frames →
      g ∈ (s.txq.place f).1.frames ∨ (s.txq.place f).2 = some g := by
    intro g hg hmem
    refine mem_place_of_mem hk hmem ?_
    by_cases hs : sameSlot f g = true
    · have hfk := (sameSlot_iff.1 hs).1.trans (kind_of_isLift hg)
      rw [hk] at hfk; exact .inl (Option.some.inj hfk)
    · exact .inr (.inr (by simpa using hs))
  have any_of : ((s.txq.place f).1.frames.any TxFrame.isLift) = true → s.txq.frames.any TxFrame.isLift = true := by
    intro h
    obtain ⟨g, hg, hl⟩ := List.any_eq_true.1 h
    have := hsub.subset (List.mem_filter.2 ⟨hg, hl⟩)
    exact List.any_eq_true.2 ⟨g, List.mem_of_mem_filter this, hl⟩
  obtain hpe | ⟨hleg, ⟨v, hv, hvl⟩, hpe⟩ := placeFrame_pe s f
  · rw [hpe]
    refine ⟨hsub.length_le.trans one, fun h => claim (any_of h), fun g hg hl => ?_⟩
    obtain ⟨hc, hlk⟩ | hh := line g hg hl
    · refine .inl ⟨hc, ?_⟩
      obtain ⟨x, hx, hxl⟩ := List.any_eq_true.1 hlk
      obtain ⟨hxl, hxk⟩ := Bool.and_eq_true_iff.1 hxl
      obtain hx' | hx' := stay x hxl hx
      · exact List.any_eq_true.2 ⟨x, by rwa [placeFrame_txq], by simp [hxl, hxk]⟩
      · obtain rfl | ⟨-, hu, -⟩ := place_lost hx'
        · rw [hlift] at hxl; cases hxl
        · rw [hxk] at hu; cases hu
    · exact .inr hh
  · -- the Lift Notice that was lost was the only one, and unlocked, so that no other is on the line
    have hvin : v ∈ s.txq.frames ∧ v.locked = false := by
      obtain rfl | ⟨hm, hu, -⟩ := place_lost hv
      · rw [hlift] at hvl; cases hvl
      · exact ⟨hm, hu⟩
    have gone : (s.txq.place f).1.frames.any TxFrame.isLift = false := by
      obtain hp | ⟨_, -, -, hp⟩ | hp := place_cases s.txq f
      · rw [hp] at hv; cases hv
      · rw [hp] at hv; cases hv
      · rw [hp] at hv ⊢
        obtain ⟨-, ha⟩ | ⟨-, i, w, hw, -, ha⟩ | ⟨-, ha⟩ := admit_cases s.txq f
        · rw [ha] at hv; cases hv
        · rw [ha] at hv ⊢
          obtain rfl := Option.some.inj hv
          obtain ⟨hi, hwi⟩ := List.getElem?_eq_some_iff.1 (victim_spec hw).1
          have hrest : ((s.txq.frames.eraseIdx i).filter TxFrame.isLift).length = 0 := by
            have hperm := (List.getElem_cons_eraseIdx_perm hi).countP_eq TxFrame.isLift
            rw [List.countP_cons, hwi, if_pos hvl, List.countP_eq_length_filter, List.countP_eq_length_filter] at hperm
            omega
          rw [List.any_eq_false]
          intro x hx hxl
          obtain rfl | hx := mem_insertFrame.1 hx
          · rw [hlift] at hxl; cases hxl
          · have := List.length_pos_of_mem (List.mem_filter.2 ⟨hx, hxl⟩); omega
        · rw [ha] at hv
          rw [← Option.some.inj hv, hlift] at hvl; cases hvl
    refine ⟨hsub.length_le.trans one, fun h => absurd (gone.symm.trans h) (by decide), fun g hg hl => ?_⟩
    exfalso
    obtain ⟨-, hlk⟩ | hh := line g hg hl
    · obtain ⟨x, hx, hxl⟩ := List.any_eq_true.1 hlk
      obtain ⟨hxl, hxk⟩ := Bool.and_eq_true_iff.1 hxl
      have hne : x ≠ v := fun e => by rw [e, hvin.2] at hxk; cases hxk
      exact hne (eq_of_filter_length_le_one one hx hxl hvin.1 hvl)
    · rw [hleg] at hh; cases hh

/-- Placing an unlocked frame of the node that is no Lift Notice, an Event frame only where none waits. -/
theorem safe0_placeFrame (hf : f.claim = claimByte k s.sbi.station) (hl : f.locked = false) (hlift : f.isLift = false)
    (hevent : k = .event → ∀ g ∈ s.txq.frames, g.isEvent = false) :
    Safe0 s (placeFrame s f) ∧ (HeldWhileFaulty s → HeldWhileFaulty (placeFrame s f)) ∧
      (placeFrame s f).flt.flags = s.flt.flags := by
  obtain ⟨htime, hsbi, hsetup, hpt, hfsu, hscu, htu, hpending⟩ := placeFrame_frame s f
  obtain ⟨hflags, hconds, hcs, hcp, -, -, hring, -⟩ := placeFrame_flt_apply s f
  have hleg := placeFrame_leg s f
  have htxq := placeFrame_txq s f
  refine ⟨{ us := by rw [htime], pending := hpending, station := by rw [hsbi], rate := by rw [hsbi]
            bounded := ?_, sensing := ?_, clash := ?_, beta := ?_, distinct := ?_, ordered := ?_, lock := ?_
            lift := fun hs => lift_of_place (kind_of_claim hf) hlift hs.2, box := ?_ }, ?_, hflags⟩
  · rintro ⟨h1, h2, h3⟩
    exact ⟨by rw [htxq]; exact place_length _ _ h1, by rwa [hring], by rwa [hsetup]⟩
  · exact sensing_congr hfsu
  · exact clash_congr hconds hcs hcp
  · intro h hc
    obtain hpe | ⟨-, -, hpe⟩ := placeFrame_pe s f
    · rw [hpe] at hc; rw [State.beta, hpe]; exact h hc
    · rw [hpe] at hc; cases hc
  · exact distinct_congr (by rw [hpt]) (by rw [hsbi]) (by rw [hsetup]) fun h => by
      obtain hl | ⟨-, hl⟩ := hleg
      · exact hl ▸ h
      · rw [hl] at h; cases h
  · intro h; rw [queueOrdered_iff, hsbi, htxq]; exact ordered_place hf hevent h
  · rintro ⟨h1, h2, h3⟩
    have hsub := filter_place_sublist (p := TxFrame.locked) hl s.txq
    rw [LockHeld, transmitting, hsbi, htxq]
    refine ⟨h1, hsub.length_le.trans h2, fun ht g hg => ?_⟩
    obtain rfl | hg := mem_place hg
    · exact hl
    · exact h3 ht g hg
  · refine setpointInBox_congr (by rw [hsetup]) (by rw [htu]) fun h => ?_
    obtain hl | ⟨hc, -⟩ := hleg
    · exact hl.trans h
    · rw [h] at hc; cases hc
  · refine held_congr hflags ?_
    obtain hl | ⟨hc, -⟩ := hleg
    · exact .inl hl
    · exact .inr (.inl (by rw [hc]; decide))

/-- An Event frame that waits is still there after another frame is placed, or the retry mark is set (R142, R159). -/
theorem ring_of_place (hk : f.kind = some k) (he : k ≠ .event) (h : RingOffered s) : RingOffered (placeFrame s f) := by
  intro hring hretry
  have hq : (s.txq.place f).2 = none ∧ placeFrame s f = { s with txq := (s.txq.place f).1 } ∨
      ∃ v, (s.txq.place f).2 = some v ∧ placeFrame s f = tellLost { s with txq := (s.txq.place f).1 } v := by
    unfold placeFrame
    split
    next e => exact .inl ⟨by rw [e], by rw [e]⟩
    next e => exact .inr ⟨_, by rw [e], by rw [e]⟩
  have kept : s.flt.retry = false ∧ ∀ g, g.isEvent = true → (s.txq.place f).2 ≠ some g := by
    obtain ⟨hn, e⟩ | ⟨v, hv, e⟩ := hq
    · rw [e] at hretry; exact ⟨hretry, fun g _ hg => by rw [hn] at hg; cases hg⟩
    · rw [e] at hretry
      by_cases hve : v.isEvent = true
      · exact absurd hretry (by simp [tellLost, not_isLift_of_isEvent hve, hve])
      · refine ⟨?_, fun g hg h => hve (by rw [hv] at h; cases h; exact hg)⟩
        have : (tellLost { s with txq := (s.txq.place f).1 } v).flt.retry = s.flt.retry := by
          unfold tellLost
          rw [if_neg hve]
          split
          · simp [claimFailed_frame]
          · rfl
        rw [← this]; exact hretry
  rw [(placeFrame_flt_apply s f).2.2.2.2.2.2.1] at hring
  obtain ⟨g, hg, hge⟩ := List.any_eq_true.1 (h hring kept.1)
  rw [placeFrame_txq]
  obtain hm | hm := mem_place_of_mem hk hg (.inr (.inr (by
    by_contra hs
    have hs : sameSlot f g = true := by simpa using hs
    have := (sameSlot_iff.1 hs).1
    rw [hk, kind_of_isEvent hge] at this
    exact he (Option.some.inj this))))
  · exact List.any_eq_true.2 ⟨g, hm, hge⟩
  · exact absurd hm (kept.2 g hge)

end Place

/-- A block places a frame that is neither an Event frame nor a Lift Notice. -/
theorem keeps_place (s : State) (k : FrameKind) (p : List Byte) (he : k ≠ .event)
    (hl : (s.newFrame k p).isLift = false) : Keeps s (placeFrame s (s.newFrame k p)) := by
  obtain ⟨h, held, flags⟩ := safe0_placeFrame (newFrame_apply s k p).2.2 (newFrame_apply s k p).2.1 hl
    fun e => absurd e he
  exact { toSafe0 := h, held, ring := ring_of_place (newFrame_kind s k p) he, flags := by rw [flags]; exact fun i hi => hi }

theorem newFrame_not_lift (s : State) {k : FrameKind} (h : k ≠ .phaseNotice) (p : List Byte) :
    (s.newFrame k p).isLift = false := by
  rw [TxFrame.isLift, newFrame_kind]; cases k <;> first | rfl | exact absurd rfl h

theorem keeps_handNotice (s : State) (n : Notice) (h : n ≠ .lift := by nofun) : Keeps s (handNotice s n) :=
  keeps_place s .phaseNotice _ (by decide) ((noticeFrame_isLift s n 0xFF#8).trans (decide_eq_false h))

/-! ## Events and faults -/

/-- A change of the Fault Unit alone, in which the ring keeps its bound and CLASH its sources. -/
theorem safe0_flt {s t : State} (ht : t = { s with flt := t.flt })
    (hr : s.flt.ring.length ≤ 16 → t.flt.ring.length ≤ 16) (hc : ClashFromSources s → ClashFromSources t) : Safe0 s t := by
  rw [ht] at hc ⊢
  exact { us := rfl, pending := rfl, station := rfl, rate := rfl, bounded := fun h => ⟨h.1, hr h.2.1, h.2.2⟩
          sensing := id, clash := hc, beta := id, distinct := id, ordered := id, lock := id, lift := fun h => h.2, box := id }

/-- After the ring has been offered, an Event frame waits or the retry mark is set (R159). -/
theorem ringOffered_offerEvent (s : State) : RingOffered (offerEvent s) := by
  unfold offerEvent
  split
  next hr => intro h; exact absurd hr h
  next r _ hr =>
    split
    next h =>
      intro _ hretry
      rw [Bool.or_eq_true] at h
      exact h.resolve_right (by rw [hretry]; decide)
    next h =>
      intro _ hretry
      have hk : (s.eventFrame r).kind = some .event := newFrame_kind _ _ _
      have hlost : (s.txq.place (s.eventFrame r)).2 ≠ some (s.eventFrame r) := by
        intro e
        have hp : placeFrame s (s.eventFrame r) = tellLost { s with txq := (s.txq.place (s.eventFrame r)).1 }
            (s.eventFrame r) := by
          unfold placeFrame
          split
          next e' => rw [e'] at e; cases e
          next e' => rw [e'] at e; cases e; rw [e']
        have he : (s.eventFrame r).isEvent = true := by simp [TxFrame.isEvent, hk]
        rw [hp] at hretry
        simp [tellLost, he, not_isLift_of_isEvent he] at hretry
      rw [placeFrame_txq]
      rw [place_eq_takeIn hk (fun _ h => absurd rfl h)] at hlost ⊢
      refine List.any_eq_true.2 ⟨s.eventFrame r, ?_, by simp [TxFrame.isEvent, hk]⟩
      obtain ⟨-, ha⟩ | ⟨-, i, v, -, -, ha⟩ | ⟨-, ha⟩ := admit_cases s.txq (s.eventFrame r)
      · rw [ha]; exact mem_insertFrame.2 (.inl rfl)
      · rw [ha]; exact mem_insertFrame.2 (.inl rfl)
      · rw [ha] at hlost; exact absurd rfl hlost

/-- Offering the ring keeps the invariants but that of the ring, which holds after it. -/
theorem safe0_offerEvent (s : State) : Safe0 s (offerEvent s) ∧
    (HeldWhileFaulty s → HeldWhileFaulty (offerEvent s)) ∧ (offerEvent s).flt.flags = s.flt.flags := by
  have unchanged : Safe0 s s := (Keeps.refl s).toSafe0
  unfold offerEvent
  split
  · exact ⟨unchanged, id, rfl⟩
  · split
    · exact ⟨unchanged, id, rfl⟩
    next r _ _ h =>
      refine safe0_placeFrame (k := .event) rfl rfl (newFrame_not_lift s (by decide) _) fun _ g hg => ?_
      rw [Bool.or_eq_true, not_or] at h
      simpa using List.any_eq_false.1 (by simpa using h.1) g hg

theorem keeps_recordEvent (s : State) (e : EventKind) (d : Byte) : Keeps s (recordEvent s e d) := by
  unfold recordEvent
  refine keeps_ite (fun _ => ?_) fun _ => .refl s
  have hadd : Safe0 s (addRecord s e d) ∧ (addRecord s e d).pe = s.pe := by
    unfold addRecord
    split
    next h =>
      have : s.flt.ring.length < 16 := h
      exact ⟨safe0_flt rfl (fun _ => by simp; omega) id, rfl⟩
    · exact ⟨safe0_flt rfl id id, rfl⟩
  obtain ⟨h0, hheld, hflags⟩ := safe0_offerEvent (addRecord s e d)
  have haf : (addRecord s e d).flt.flags = s.flt.flags := (addRecord_flt s e d).1
  exact {
    toSafe0 := hadd.1.trans h0
    ring := fun _ => ringOffered_offerEvent _
    held := fun h => hheld (held_congr haf (.inl (by rw [hadd.2])) h)
    flags := by rw [hflags, haf]; exact fun i hi => hi }

/-- The end of a condition other than CLASH. -/
theorem keeps_endFault (s : State) (c : FaultCode) (h : c ≠ .clash := by nofun) : Keeps s (endFault s c) := by
  have h0 : Safe0 s (endFault s c) := safe0_flt rfl id fun hs => by
    have : c.idx ≠ FaultCode.clash.idx := by revert h; cases c <;> decide
    unfold ClashFromSources endFault at *
    dsimp only
    rw [← hs]
    exact Vector.getElem_set_ne _ _ (fun e => this (Fin.ext e))
  exact { toSafe0 := h0, ring := id, held := id, flags := fun _ => id }

theorem keeps_endStationClash (s : State) : Keeps s (endStationClash s) :=
  { toSafe0 := safe0_flt rfl id fun _ => by simp [ClashFromSources, endStationClash]
    ring := id, held := id, flags := fun _ => id }

theorem keeps_endPositionClash (s : State) : Keeps s (endPositionClash s) :=
  { toSafe0 := safe0_flt rfl id fun _ => by simp [ClashFromSources, endPositionClash]
    ring := id, held := id, flags := fun _ => id }

/-! ## The leg -/

/-- The leg goes from a state other than SETUP and CLAIM to another such state. -/
theorem keeps_leg {s t : State} (h : core t = { core s with leg := t.pe.leg, claimPhase := none })
    (hs : s.pe.leg ≠ .claim ∧ s.pe.leg ≠ .setup) (ht : t.pe.leg ≠ .claim ∧ t.pe.leg ≠ .setup)
    (hhold : s.pe.leg = .hold → t.pe.leg = .hold ∨ transmitting s = false)
    (hfaults : (s.pe.leg.walking = true ∧ s.pe.leg ≠ .hold) ∨ t.pe.leg.walking = false ∨ t.pe.leg = .hold ∨
      classALatched s = false) : Keeps s t := by
  simp only [core, Core.mk.injEq, Prod.mk.injEq] at h
  obtain ⟨us, pending, station, rate, tx, attempt, words, ptr, records, ⟨ox, oy, oz⟩, refill, stuck, -, -, setpoint, txq,
    flags, conds, cs, cp, ring, retry⟩ := h
  refine { us, pending, station, rate, bounded := ?_, sensing := ?_, clash := clash_congr conds cs cp, beta := ?_
           distinct := ?_, ordered := ?_, lock := ?_, lift := ?_, box := ?_, held := ?_, ring := ?_, flags := ?_ }
  · exact bounded_congr (by rw [txq]) ring ptr
  · simp only [SensingInRange, ox, oy, oz, refill, stuck]; exact id
  · exact fun _ hc => absurd hc ht.1
  · exact distinct_congr records station words fun h => absurd h ht.2
  · exact ordered_of station (.inl (by rw [txq]))
  · simp only [LockHeld, transmitting, tx, attempt, txq]; exact id
  · rintro ⟨⟨hbusy, -, -⟩, one, claim, line⟩
    simp only [LiftOnlyInClaim, txq, attempt]
    refine ⟨one, fun hl => absurd (claim hl) hs.1, fun f hf hl => .inr ?_⟩
    obtain ⟨hc, -⟩ | hh := line f hf hl
    · exact absurd hc hs.1
    · refine (hhold hh).resolve_right fun hq => ?_
      rw [hf, hq] at hbusy; cases hbusy
  · exact setpointInBox_congr words setpoint fun h => absurd h hs.2
  · simp only [RingOffered, ring, retry, txq]; exact id
  · exact held_congr flags (.inr hfaults)
  · rw [flags]; exact fun i hi => hi

/-- A leg leaves CLAIM with its Lift Notice removed (R143): for HOLD, or with no Lift Notice on the line. -/
theorem keeps_leaveClaim {s t : State}
    (h : core t = { core s with leg := t.pe.leg, claimPhase := none, txq := withoutLift s.txq })
    (hs : s.pe.leg = .claim) (ht : t.pe.leg ≠ .claim ∧ t.pe.leg ≠ .setup)
    (hline : t.pe.leg = .hold ∨ transmitting s = false ∨ liftLocked s = false) : Keeps s t := by
  simp only [core, Core.mk.injEq, Prod.mk.injEq] at h
  obtain ⟨us, pending, station, rate, tx, attempt, words, ptr, records, ⟨ox, oy, oz⟩, refill, stuck, -, -, setpoint, txq,
    flags, conds, cs, cp, ring, retry⟩ := h
  have hframes : t.txq.frames = s.txq.frames.filter fun f => !f.isLift := by rw [txq]; rfl
  have hsub : t.txq.frames.Sublist s.txq.frames := by rw [hframes]; exact List.filter_sublist
  have none_left : t.txq.frames.filter TxFrame.isLift = [] := by
    rw [hframes, List.filter_filter, List.filter_eq_nil_iff]; simp
  refine { us, pending, station, rate, bounded := ?_, sensing := ?_, clash := clash_congr conds cs cp, beta := ?_
           distinct := ?_, ordered := ?_, lock := ?_, lift := ?_, box := ?_, held := ?_, ring := ?_, flags := ?_ }
  · exact bounded_congr hsub.length_le ring ptr
  · simp only [SensingInRange, ox, oy, oz, refill, stuck]; exact id
  · exact fun _ hc => absurd hc ht.1
  · exact distinct_congr records station words fun h => absurd h ht.2
  · exact ordered_of station (.inr hsub)
  · rintro ⟨hbusy, one, free⟩
    simp only [LockHeld, transmitting, tx, attempt] at hbusy free ⊢
    exact ⟨hbusy, ((hsub.filter _).length_le).trans one, fun hq f hf => free hq f (hsub.subset hf)⟩
  · rintro ⟨⟨hbusy, -, -⟩, one, claim, line⟩
    refine ⟨by rw [none_left]; simp, fun hl => ?_, fun f hf hl => .inr ?_⟩
    · obtain ⟨g, hg, hgl⟩ := List.any_eq_true.1 hl
      have := List.mem_filter.2 ⟨hg, hgl⟩
      rw [none_left] at this; cases this
    · rw [attempt] at hf
      obtain ⟨-, hlk⟩ | hh := line f hf hl
      · obtain h | h | h := hline
        · exact h
        · rw [hf, h] at hbusy; cases hbusy
        · rw [hlk] at h; cases h
      · rw [hs] at hh; cases hh
  · exact setpointInBox_congr words setpoint fun h => by rw [hs] at h; cases h
  · simp only [RingOffered, ring, retry, hframes]
    intro h hr hm
    obtain ⟨g, hg, hge⟩ := List.any_eq_true.1 (h hr hm)
    exact List.any_eq_true.2 ⟨g, List.mem_filter.2 ⟨hg, by simp [not_isLift_of_isEvent hge]⟩, hge⟩
  · exact held_congr flags (.inr (.inl (by rw [hs]; decide)))
  · rw [flags]; exact fun i hi => hi

theorem keeps_giveUpClaim (s : State) (h : s.pe.leg = .claim) (hline : transmitting s = false ∨ liftLocked s = false) :
    Keeps s (giveUpClaim s) :=
  keeps_leaveClaim rfl h ⟨nofun, nofun⟩ (.inr hline)

theorem keeps_directHold (s : State) : Keeps s (directHold s) := by
  unfold directHold
  refine keeps_ite (fun hw => ?_) fun _ => .refl s
  obtain ⟨hw, hh⟩ := Bool.and_eq_true_iff.1 hw
  refine keeps_ite (fun hc => ?_) fun hc => ?_
  · exact keeps_leaveClaim rfl hc ⟨nofun, nofun⟩ (.inl rfl)
  · exact keeps_leg rfl ⟨hc, fun h => by rw [h] at hw; cases hw⟩ ⟨nofun, nofun⟩ (fun _ => .inl rfl)
      (.inr (.inr (.inl rfl)))

/-- The leg in CLAIM, before its Lift Notice is placed (R89). -/
def claiming (s : State) : State :=
  { s with pe := ({ s.pe.enter .claim with claimT := some claimUs, timeoutPassed := false }).withWait .none }

/-- A leg in STANCE at β, with no class-A flag latched, enters CLAIM with its Lift Notice (R89). -/
theorem keeps_enterClaim (s : State) (hs : s.pe.leg = .stance) (hphi : s.pe.phi = s.beta)
    (hfaults : classALatched s = false) : Keeps s (enterClaim s) := by
  show Keeps s (placeFrame (claiming s) ((claiming s).noticeFrame .lift 0xFF#8))
  generalize hu : claiming s = u
  have hcore : core u = { core s with leg := .claim, claimPhase := some (s.pe.phi, s.pe.applied.gait) } := by
    rw [← hu]; rfl
  have hleg : u.pe.leg = .claim := by rw [← hu]; rfl
  have hbeta : ClaimAtBeta u := fun _ => by rw [← hu]; exact hphi
  generalize hf : u.noticeFrame .lift 0xFF#8 = f
  have hclaim : f.claim = claimByte .phaseNotice u.sbi.station := by rw [← hf]; rfl
  have hlock : f.locked = false := by rw [← hf]; rfl
  have hkind := kind_of_claim hclaim
  have hnoEvent : f.isEvent = false := by simp [TxFrame.isEvent, hkind]
  simp only [core, Core.mk.injEq, Prod.mk.injEq] at hcore
  obtain ⟨us, pending, station, rate, tx, attempt, words, ptr, records, ⟨ox, oy, oz⟩, refill, stuck, -, -, setpoint, txq,
    flags, conds, cs, cp, ring, retry⟩ := hcore
  obtain ⟨htime, hsbi, hsetup, hpt, hfsu, hscu, htu, hpending⟩ := placeFrame_frame u f
  obtain ⟨hflags, hconds, hcs, hcp, -, -, hring, -⟩ := placeFrame_flt_apply u f
  have hq : (placeFrame u f).txq = (s.txq.place f).1 := by rw [placeFrame_txq, txq]
  have hpe := placeFrame_pe u f
  have hnext : (placeFrame u f).pe.leg ≠ .setup := by
    obtain h | ⟨-, -, h⟩ := hpe
    · rw [h, hleg]; decide
    · rw [h]; nofun
  refine { us := by rw [htime, us], pending := hpending.trans pending, station := by rw [hsbi, station]
           rate := by rw [hsbi, rate], bounded := ?_, sensing := ?_, clash := ?_, beta := fun _ => ?_
           distinct := ?_, ordered := ?_, lock := ?_, lift := ?_, box := ?_, held := ?_, ring := ?_, flags := ?_ }
  · rintro ⟨h1, h2, h3⟩
    exact ⟨by rw [hq]; exact place_length _ _ h1, by rwa [hring, ring], by rwa [hsetup, ptr]⟩
  · simp only [SensingInRange, hfsu, ox, oy, oz, refill, stuck]; exact id
  · exact clash_congr (hconds.trans conds) (hcs.trans cs) (hcp.trans cp)
  · obtain h | ⟨-, -, h⟩ := hpe
    · rw [ClaimAtBeta, State.beta, h]; exact hbeta
    · intro hc; rw [h] at hc; cases hc
  · exact distinct_congr (by rw [hpt, records]) (by rw [hsbi, station]) (by rw [hsetup, words]) fun h => absurd h hnext
  · intro h
    rw [queueOrdered_iff, hsbi, hq]
    exact ordered_place hclaim nofun (station ▸ h)
  · rintro ⟨h1, h2, h3⟩
    have hsub := filter_place_sublist (p := TxFrame.locked) hlock s.txq
    rw [LockHeld, transmitting, hsbi, hq, tx, attempt]
    refine ⟨h1, hsub.length_le.trans h2, fun ht g hg => ?_⟩
    obtain rfl | hg := mem_place hg
    · exact hlock
    · exact h3 ht g hg
  · rintro ⟨-, one, claim, line⟩
    have noLift : ∀ g ∈ s.txq.frames, g.isLift = false := by
      intro g hg
      by_contra hl
      rw [claim (List.any_eq_true.2 ⟨g, hg, by simpa using hl⟩)] at hs; cases hs
    have only (g : TxFrame) (hg : g ∈ (s.txq.place f).1.frames) (hl : g.isLift = true) : g = f :=
      (mem_place hg).resolve_right fun h => by rw [noLift g h] at hl; cases hl
    rw [LiftOnlyInClaim, hq, hsbi, attempt]
    refine ⟨?_, fun hl => ?_, fun g hg hl => ?_⟩
    · have := takeIn_lift_count (q := s.txq) (f := f) noLift
      rwa [place_eq_takeIn hkind (fun h => absurd h (by decide))]
    · obtain h | ⟨-, ⟨v, hv, hvl⟩, -⟩ := hpe
      · rw [h, hleg]
      · exfalso
        rw [txq] at hv
        have hvf : v = f := (place_lost hv).resolve_right fun h => by rw [noLift v h.1] at hvl; cases hvl
        rw [frames_of_lost_self (hvf ▸ hv)] at hl
        obtain ⟨g, hg, hgl⟩ := List.any_eq_true.1 hl
        rw [noLift g hg] at hgl; cases hgl
    · exfalso
      obtain ⟨hc, -⟩ | hh := line g hg hl
      · rw [hs] at hc; cases hc
      · rw [hs] at hh; cases hh
  · exact setpointInBox_congr (by rw [hsetup, words]) (by rw [htu, setpoint]) fun h => by rw [hs] at h; cases h
  · intro h
    refine ring_of_place hkind (by decide) ?_
    simp only [RingOffered, ring, retry, txq]; exact h
  · intro _ ha
    have : classALatched s = true := by rwa [classALatched, hflags, flags] at ha
    rw [hfaults] at this; cases this
  · rw [hflags, flags]; exact fun i hi => hi

/-! ## Reports of faults -/

/-- An event that is recorded unless `c` holds. -/
theorem keeps_recordUnless (s : State) (c : Bool) (e : EventKind) (d : Byte) :
    Keeps s (if c then s else recordEvent s e d) :=
  keeps_ite (fun _ => .refl s) fun _ => keeps_recordEvent s e d

theorem keeps_reportEvents (b s : State) (r : Report) : Keeps s (reportEvents b s r) := by
  cases r with
  | peerSilent st => exact keeps_recordEvent s _ _
  | stationClash k _ => exact (keeps_recordUnless s _ _ _).trans (keeps_recordUnless _ _ _ _)
  | positionClash st _ => exact (keeps_recordUnless s _ _ _).trans (keeps_recordUnless _ _ _ _)
  | plain c => exact keeps_recordUnless s _ _ _
  | filterLimit _ => exact keeps_recordUnless s _ _ _
  | workspaceClamp _ => exact keeps_recordUnless s _ _ _
  | overlap _ => exact keeps_recordUnless s _ _ _
  | driveFault _ => exact keeps_recordUnless s _ _ _

theorem keeps_placeAlarm (s : State) (cause detail : Byte) : Keeps s (placeAlarm s cause detail) :=
  keeps_place s .alarm _ (by decide) (newFrame_not_lift s (by decide) _)

theorem keeps_classAConsequence (s : State) (c : FaultCode) : Keeps s (classAConsequence s c) := by
  unfold classAConsequence
  exact keeps_ite (fun _ => ((keeps_placeAlarm _ _ _).trans (keeps_directHold _)).trans (keeps_recordEvent _ _ _))
    fun _ => .refl s

/-- A report of a fault, for CLASH one that names its source (R150 to R152). -/
theorem keeps_reportFault (s : State) (r : Report) (h : r ≠ .plain .clash := by nofun) : Keeps s (reportFault s r) := by
  obtain ⟨hflags, -⟩ := reportFault_flt s r
  have raise : SafeRing s (raiseCondition s r) := {
    toSafe0 := safe0_flt rfl id fun hs => by
      unfold ClashFromSources raiseCondition at *
      dsimp only
      by_cases hc : r.fault = .clash
      · cases r with
        | plain c => exact absurd (congrArg Report.plain hc) h
        | stationClash => simp [Report.fault]
        | positionClash => simp [Report.fault]
        | _ => cases hc
      · have hi : r.fault.idx.val ≠ FaultCode.clash.idx.val := by
          revert hc; generalize r.fault = c; cases c <;> decide
        have hs' : (s.flt.conds.set r.fault.idx true)[FaultCode.clash.idx] = s.flt.conds[FaultCode.clash.idx] :=
          Vector.getElem_set_ne _ _ hi
        rw [hs', hs]
        cases r with
        | stationClash => exact absurd rfl hc
        | positionClash => exact absurd rfl hc
        | _ => simp
    ring := id }
  have latch : SafeRing (raiseCondition s r) (latchFlag (raiseCondition s r) r.fault) := by
    unfold latchFlag
    split
    · exact (Keeps.refl _).toSafeRing
    · exact { toSafe0 := safe0_flt rfl id id, ring := id }
  have events := keeps_reportEvents s (latchFlag (raiseCondition s r) r.fault) r
  have acts : Keeps (reportEvents s (latchFlag (raiseCondition s r) r.fault) r) (reportFault s r) := by
    unfold reportFault
    exact keeps_ite (fun _ => keeps_classAConsequence _ _) fun _ => .refl _
  refine {
    toSafeRing := ((raise.trans latch).trans events.toSafeRing).trans acts.toSafeRing
    held := fun hs ha hw => ?_
    flags := fun i hi => ?_ }
  · rw [reportFault_leg] at hw ⊢
    by_cases hA : (r.fault.classA && s.pe.leg.walking) = true
    · rw [if_pos hA]
    · rw [if_neg hA] at hw ⊢
      have hclass : r.fault.classA = false := by simpa [hw] using hA
      refine hs ?_ hw
      obtain ⟨i, hi, hb⟩ := List.any_eq_true.1 ha
      obtain ⟨hlt, hb⟩ := Bool.and_eq_true_iff.1 hb
      have hne : r.fault.idx.val ≠ i.val := by
        simp only [FaultCode.classA, decide_eq_false_iff_not] at hclass; simp at hlt; omega
      rw [hflags] at hb
      exact List.any_eq_true.2 ⟨i, hi, Bool.and_eq_true_iff.2
        ⟨hlt, (Vector.getElem_set_ne (xs := s.flt.flags) (hi := r.fault.idx.isLt) i.isLt hne).symm.trans hb⟩⟩
  · rw [hflags]
    show (s.flt.flags.set r.fault.idx.val true r.fault.idx.isLt)[i.val] = true
    rw [Vector.getElem_set]
    split
    · rfl
    · exact hi

theorem keeps_reportOccurrence (s : State) (r : Report) (h : r.fault ≠ .clash := by nofun) : Keeps s (reportOccurrence s r) :=
  (keeps_reportFault s r fun e => h (by rw [e]; rfl)).trans (keeps_endFault _ _ h)

/-! ## The Peer Table and the Foot Sense Unit -/

/-- The records change, and their positions stay distinct. -/
theorem keeps_records {s t : State} (h : core t = { core s with records := t.pt.records })
    (hd : PositionsDistinct s → PositionsDistinct t) : Keeps s t := by
  simp only [core, Core.mk.injEq, Prod.mk.injEq] at h
  obtain ⟨us, pending, station, rate, tx, attempt, words, ptr, -, ⟨ox, oy, oz⟩, refill, stuck, leg, phase, setpoint,
    txq, flags, conds, cs, cp, ring, retry⟩ := h
  refine { us, pending, station, rate, bounded := ?_, sensing := ?_, clash := clash_congr conds cs cp, beta := ?_
           distinct := hd, ordered := ?_, lock := ?_, lift := fun hs => ?_, box := ?_, held := ?_, ring := ?_
           flags := ?_ }
  · exact bounded_congr (by rw [txq]) ring ptr
  · simp only [SensingInRange, ox, oy, oz, refill, stuck]; exact id
  · simp only [claimAtBeta_iff, phase]; exact id
  · exact ordered_of station (.inl (by rw [txq]))
  · simp only [LockHeld, transmitting, tx, attempt, txq]; exact id
  · exact liftOnlyInClaim_congr (by rw [txq]) attempt leg hs.2
  · exact setpointInBox_congr words setpoint fun h => leg ▸ h
  · simp only [RingOffered, ring, retry, txq]; exact id
  · exact held_congr flags (.inl leg)
  · rw [flags]; exact fun i hi => hi

/-- The numbers of the Foot Sense Unit change within their ranges. -/
theorem keeps_sensing {s t : State}
    (h : core t = { core s with outs := (core t).outs, refill := t.fsu.refill, stuckRun := t.fsu.stuckRun })
    (hr : SensingInRange s → SensingInRange t) : Keeps s t := by
  simp only [core, Core.mk.injEq] at h
  obtain ⟨us, pending, station, rate, tx, attempt, words, ptr, records, -, -, -, leg, phase, setpoint,
    txq, flags, conds, cs, cp, ring, retry⟩ := h
  refine { us, pending, station, rate, bounded := ?_, sensing := hr, clash := clash_congr conds cs cp, beta := ?_
           distinct := ?_, ordered := ?_, lock := ?_, lift := fun hs => ?_, box := ?_, held := ?_, ring := ?_
           flags := ?_ }
  · exact bounded_congr (by rw [txq]) ring ptr
  · simp only [claimAtBeta_iff, phase]; exact id
  · exact distinct_congr records station words fun h => leg ▸ h
  · exact ordered_of station (.inl (by rw [txq]))
  · simp only [LockHeld, transmitting, tx, attempt, txq]; exact id
  · exact liftOnlyInClaim_congr (by rw [txq]) attempt leg hs.2
  · exact setpointInBox_congr words setpoint fun h => leg ▸ h
  · simp only [RingOffered, ring, retry, txq]; exact id
  · exact held_congr flags (.inl leg)
  · rw [flags]; exact fun i hi => hi

/-! ## The transmit side -/

/-- The transmit side changes while the node neither begins nor ends a frame. -/
theorem keeps_tx {s t : State} (h : core t = { core s with tx := t.sbi.tx }) (ht : transmitting t = transmitting s) :
    Keeps s t := by
  simp only [core, Core.mk.injEq, Prod.mk.injEq] at h
  obtain ⟨us, pending, station, rate, -, attempt, words, ptr, records, ⟨ox, oy, oz⟩, refill, stuck, leg, phase, setpoint,
    txq, flags, conds, cs, cp, ring, retry⟩ := h
  refine { us, pending, station, rate, bounded := ?_, sensing := ?_, clash := clash_congr conds cs cp, beta := ?_
           distinct := ?_, ordered := ?_, lock := ?_, lift := fun hs => ?_, box := ?_, held := ?_, ring := ?_
           flags := ?_ }
  · exact bounded_congr (by rw [txq]) ring ptr
  · simp only [SensingInRange, ox, oy, oz, refill, stuck]; exact id
  · simp only [claimAtBeta_iff, phase]; exact id
  · exact distinct_congr records station words fun h => leg ▸ h
  · exact ordered_of station (.inl (by rw [txq]))
  · rw [LockHeld, LockHeld, ht, attempt, txq]; exact id
  · exact liftOnlyInClaim_congr (by rw [txq]) attempt leg hs.2
  · exact setpointInBox_congr words setpoint fun h => leg ▸ h
  · simp only [RingOffered, ring, retry, txq]; exact id
  · exact held_congr flags (.inl leg)
  · rw [flags]; exact fun i hi => hi

/-- The head frame is begun (R19). -/
theorem keeps_beginFrame (s : State) (f : TxFrame) (rest : List TxFrame) (hq : s.txq.frames = f :: rest)
    (hidle : transmitting s = false) : Keeps s (beginFrame s f) := by
  have hframes : (beginFrame s f).txq.frames = { f with locked := true } :: rest := by
    simp only [beginFrame, hq, lockHead]
  have hmap : (beginFrame s f).txq.frames.map key = s.txq.frames.map key := by rw [hframes, hq]; rfl
  have hkind (p : TxFrame → Bool) (hp : p { f with locked := true } = p f) :
      (beginFrame s f).txq.frames.any p = s.txq.frames.any p ∧
      ((beginFrame s f).txq.frames.filter p).length = (s.txq.frames.filter p).length := by
    rw [hframes, hq, List.any_cons, List.any_cons, hp, List.filter_cons, List.filter_cons, hp]
    exact ⟨rfl, by split <;> rfl⟩
  refine { us := rfl, pending := rfl, station := rfl, rate := rfl, bounded := ?_, sensing := id, clash := id, beta := id
           distinct := id, ordered := ordered_of rfl (.inl hmap), lock := ?_, lift := ?_, box := id, held := id
           ring := ?_, flags := fun _ => id }
  · exact bounded_congr (by rw [hframes, hq]; rfl) rfl rfl
  · rintro ⟨-, -, free⟩
    have free := free hidle
    rw [hq] at free
    refine ⟨rfl, ?_, nofun⟩
    rw [hframes, List.filter_cons, if_pos rfl, List.filter_eq_nil_iff.2 fun g hg => by
      simp [free g (List.mem_cons_of_mem _ hg)]]
    rfl
  · rintro ⟨-, one, claim, -⟩
    obtain ⟨hany, hlen⟩ := hkind TxFrame.isLift rfl
    refine ⟨hlen.trans_le one, fun h => claim (hany ▸ h), fun g hg hl => .inl ⟨?_, ?_⟩⟩
    · obtain rfl := Option.some.inj hg
      exact claim (List.any_eq_true.2 ⟨f, by rw [hq]; exact List.mem_cons_self, hl⟩)
    · obtain rfl := Option.some.inj hg
      rw [liftLocked, hframes, List.any_cons, hl]; rfl
  · intro h hr hm
    rw [(hkind TxFrame.isEvent rfl).1]
    exact h hr hm

/-- An attempt ends, and no frame of the queue stays locked; a leg whose Lift Notice was on the line may leave CLAIM. -/
theorem safe0_endAttempt {s t : State} {f : TxFrame}
    (h : core t = { core s with tx := .idle, attempt := none, txq := t.txq, leg := t.pe.leg
                                claimPhase := claimPhase t.pe })
    (hq : t.txq.frames = unlockAll s.txq.frames ∨ t.txq.frames = dropLocked s.txq.frames)
    (hleg : (t.pe.leg = s.pe.leg ∧ claimPhase t.pe = claimPhase s.pe) ∨
      (t.txq.frames = dropLocked s.txq.frames ∧ s.sbi.attempt = some f ∧ f.isLift = true ∧ s.pe.leg = .claim ∧
        t.pe.leg ≠ .claim ∧ t.pe.leg ≠ .setup)) :
    Safe0 s t ∧ (HeldWhileFaulty s → HeldWhileFaulty t) ∧ (s.flt.flags = t.flt.flags) := by
  simp only [core, Core.mk.injEq, Prod.mk.injEq] at h
  obtain ⟨us, pending, station, rate, tx, attempt, words, ptr, records, ⟨ox, oy, oz⟩, refill, stuck, -, -, setpoint, -,
    flags, conds, cs, cp, ring, retry⟩ := h
  have hunlocked : ∀ g ∈ t.txq.frames, g.locked = false := by
    intro g hg
    obtain hq | hq := hq
    · rw [hq] at hg; obtain ⟨x, -, rfl⟩ := List.mem_map.1 hg; rfl
    · rw [hq] at hg; simpa using (List.mem_filter.1 hg).2
  have hidle : transmitting t = false := by rw [transmitting, tx]; rfl
  have hlifts : (t.txq.frames.filter TxFrame.isLift).length ≤ (s.txq.frames.filter TxFrame.isLift).length ∧
      (t.txq.frames.any TxFrame.isLift = true → s.txq.frames.any TxFrame.isLift = true) := by
    obtain hq | hq := hq
    · rw [hq, unlockAll, List.filter_map, List.length_map, List.any_map]; exact ⟨le_rfl, id⟩
    · rw [hq]
      refine ⟨(List.filter_sublist.filter _).length_le, fun h => ?_⟩
      obtain ⟨g, hg, hl⟩ := List.any_eq_true.1 h
      exact List.any_eq_true.2 ⟨g, List.mem_of_mem_filter hg, hl⟩
  refine ⟨{ us, pending, station, rate, bounded := ?_, sensing := ?_, clash := clash_congr conds cs cp, beta := ?_
            distinct := ?_, ordered := ?_, lock := fun _ => ?_, lift := ?_, box := ?_ }, ?_, flags.symm⟩
  · refine bounded_congr ?_ ring ptr
    obtain hq | hq := hq
    · rw [hq]; simp [unlockAll]
    · rw [hq]; exact List.length_filter_le _ _
  · simp only [SensingInRange, ox, oy, oz, refill, stuck]; exact id
  · obtain ⟨-, hp⟩ | ⟨-, -, -, -, h1, -⟩ := hleg
    · simp only [claimAtBeta_iff, hp]; exact id
    · exact fun _ hc => absurd hc h1
  · refine distinct_congr records station words fun h => ?_
    obtain ⟨hl, -⟩ | ⟨-, -, -, -, -, h2⟩ := hleg
    · exact hl ▸ h
    · exact absurd h h2
  · refine ordered_of station ?_
    obtain hq | hq := hq
    · exact .inl (by rw [hq, unlockAll, List.map_map]; rfl)
    · exact .inr (by rw [hq]; exact List.filter_sublist)
  · refine ⟨by rw [attempt, hidle]; rfl, ?_, fun _ => hunlocked⟩
    rw [List.filter_eq_nil_iff.2 fun g hg => by simp [hunlocked g hg]]; simp
  · rintro ⟨-, one, claim, line⟩
    refine ⟨hlifts.1.trans one, fun h => ?_, fun g hg => by rw [attempt] at hg; cases hg⟩
    obtain ⟨hl, -⟩ | ⟨hq, hf, hfl, hc, -, -⟩ := hleg
    · rw [hl]; exact claim (hlifts.2 h)
    · -- the only Lift Notice was the locked one, which has left
      exfalso
      obtain ⟨-, hlk⟩ | hh := line f hf hfl
      · obtain ⟨x, hx, hxl⟩ := List.any_eq_true.1 hlk
        obtain ⟨hxl, hxk⟩ := Bool.and_eq_true_iff.1 hxl
        obtain ⟨g, hg, hgl⟩ := List.any_eq_true.1 h
        have hgs : g ∈ s.txq.frames := by rw [hq] at hg; exact List.mem_of_mem_filter hg
        have hgu := hunlocked g hg
        rw [← eq_of_filter_length_le_one one hx hxl hgs hgl, hxk] at hgu; cases hgu
      · rw [hc] at hh; cases hh
  · refine setpointInBox_congr words setpoint fun h => ?_
    obtain ⟨hl, -⟩ | ⟨-, -, -, hc, -, -⟩ := hleg
    · exact hl.trans h
    · rw [h] at hc; cases hc
  · refine held_congr flags ?_
    obtain ⟨hl, -⟩ | ⟨-, -, -, hc, -, -⟩ := hleg
    · exact .inl hl
    · exact .inr (.inl (by rw [hc]; decide))

/-- The ring is offered at the end of a change that keeps all but its rule. -/
theorem keeps_offerEvent {s t : State} (h : Safe0 s t) (hheld : HeldWhileFaulty s → HeldWhileFaulty t)
    (hflags : s.flt.flags = t.flt.flags) : Keeps s (offerEvent t) := by
  obtain ⟨h0, hh, hf⟩ := safe0_offerEvent t
  exact { toSafe0 := h.trans h0, ring := fun _ => ringOffered_offerEvent t, held := hh ∘ hheld
          flags := fun i hi => by rw [hf, ← hflags]; exact hi }

theorem keeps_loseArbitration (s : State) (f : TxFrame) : Keeps s (loseArbitration s f) := by
  unfold loseArbitration
  have lost : Keeps s (countArbLost (endAttempt (withFrames s (unlockAll s.txq.frames)))) := by
    obtain ⟨h0, hh, hf⟩ := safe0_endAttempt (s := s) (t := countArbLost (endAttempt (withFrames s (unlockAll s.txq.frames))))
      (f := f) rfl (.inl rfl) (.inl ⟨rfl, rfl⟩)
    refine { toSafe0 := h0, ring := fun h hr hm => ?_, held := hh, flags := fun i hi => by rw [← hf]; exact hi }
    have := h hr hm
    rwa [show (countArbLost (endAttempt (withFrames s (unlockAll s.txq.frames)))).txq.frames.any TxFrame.isEvent =
      s.txq.frames.any TxFrame.isEvent by simp only [countArbLost_frame, endAttempt_frame]; exact List.any_map]
  refine keeps_ite (fun h => lost.trans (keeps_giveUpClaim _ h.2.1 (.inl rfl))) fun _ => lost

theorem core_followAborted (s : State) : core (followAborted s) = core s ∧ (followAborted s).pe = s.pe := by
  unfold followAborted; split <;> exact ⟨rfl, rfl⟩

/-- An attempt ends with its frame dropped; a Lift Notice that fails or completes takes a leg out of CLAIM. -/
theorem safe0_dropAttempt {s u t : State} {f : TxFrame} (ha : s.sbi.attempt = some f)
    (hu : core u = { core s with tx := .idle, attempt := none
                                 txq := { s.txq with frames := dropLocked s.txq.frames } })
    (ht : t = u ∨ (f.isLift = true ∧ s.pe.leg = .claim ∧ t.pe.leg ≠ .claim ∧ t.pe.leg ≠ .setup ∧
      core t = { core u with leg := t.pe.leg, claimPhase := none })) :
    Safe0 s t ∧ (HeldWhileFaulty s → HeldWhileFaulty t) ∧ s.flt.flags = t.flt.flags := by
  have hleg : u.pe.leg = s.pe.leg := congrArg Core.leg hu
  have hphase : claimPhase u.pe = claimPhase s.pe := congrArg Core.claimPhase hu
  have hq : u.txq = { s.txq with frames := dropLocked s.txq.frames } := congrArg Core.txq hu
  obtain rfl | ⟨hl, hc, h1, h2, hcore⟩ := ht
  · exact safe0_endAttempt (f := f) (by rw [hu, ← hq, hleg, hphase]; rfl) (.inr (by rw [hq])) (.inl ⟨hleg, hphase⟩)
  · have htq : t.txq = u.txq := congrArg Core.txq hcore
    refine safe0_endAttempt (f := f) ?_ (.inr (by rw [htq, hq])) (.inr ⟨by rw [htq, hq], ha, hl, hc, h1, h2⟩)
    rw [hcore, hu, htq, hq, claimPhase, if_neg h1]

theorem keeps_abortFrame (s : State) (f : TxFrame) (ha : s.sbi.attempt = some f) : Keeps s (abortFrame s f) := by
  unfold abortFrame tellAborted
  dsimp only
  generalize hv : ({ countTxError (endAttempt (withFrames s (dropLocked s.txq.frames))) with sbi := _ } : State) = v
  obtain ⟨hcore, hpe⟩ := core_followAborted v
  obtain ⟨h0, hh, hf⟩ := safe0_dropAttempt (s := s) (u := followAborted v)
    (t := if f.isLift then claimFailed (followAborted v) else followAborted v) ha (by rw [hcore, ← hv]; rfl) (by
      have hleg : (followAborted v).pe.leg = s.pe.leg := by rw [hpe, ← hv]; rfl
      split
      next hl =>
        unfold claimFailed
        split
        next hc => exact .inr ⟨hl, hleg.symm.trans hc, nofun, nofun, rfl⟩
        · exact .inl rfl
      · exact .inl rfl)
  exact keeps_offerEvent h0 hh hf

theorem keeps_completeFrame (s : State) (f : TxFrame) (ha : s.sbi.attempt = some f) : Keeps s (completeFrame s f) := by
  unfold completeFrame tellCompleted
  dsimp only
  generalize hu : countSent _ = u
  have hcore : core u = { core s with tx := .idle, attempt := none
                                      txq := { s.txq with frames := dropLocked s.txq.frames } } := by rw [← hu]; rfl
  have hleg : u.pe.leg = s.pe.leg := congrArg Core.leg hcore
  have told : ∀ t : State, Safe0 s t ∧ (HeldWhileFaulty s → HeldWhileFaulty t) ∧ s.flt.flags = t.flt.flags →
      ∀ v : State, v = { t with flt := v.flt } → v.flt.ring.length ≤ t.flt.ring.length →
        v.flt = { t.flt with ring := v.flt.ring, retry := v.flt.retry } → Keeps s (offerEvent v) := by
    intro t ⟨h0, hh, hf⟩ v hv hr hflt
    have hflags : v.flt.flags = t.flt.flags := by rw [hflt]
    refine keeps_offerEvent (h0.trans (safe0_flt hv (fun h => hr.trans h) (clash_congr ?_ ?_ ?_)))
      (fun h => held_congr hflags (.inl (by rw [hv])) (hh h)) (hf.trans hflags.symm)
    · rw [hflt]
    · rw [hflt]
    · rw [hflt]
  by_cases hl : f.isLift = true
  · rw [if_pos hl]
    refine told (claimCompleted u) (safe0_dropAttempt ha hcore ?_) _ rfl le_rfl rfl
    unfold claimCompleted
    split
    next hc => exact .inr ⟨hl, hleg.symm.trans hc, nofun, nofun, rfl⟩
    · exact .inl rfl
  · rw [if_neg hl]
    have same := safe0_dropAttempt (t := u) ha hcore (.inl rfl)
    split
    · exact told u same _ rfl (by simp) rfl
    · exact told u same _ rfl le_rfl rfl

/-! ## Setup, restart and the Setpoint -/

/-- Words are stored while the node is in SETUP. -/
theorem keeps_setupWords {s t : State} (h : core t = { core s with words := t.setup.words, ptr := t.setup.ptr })
    (hs : s.pe.leg = .setup) (hp : s.setup.ptr ≤ 54 → t.setup.ptr ≤ 54) : Keeps s t := by
  simp only [core, Core.mk.injEq, Prod.mk.injEq] at h
  obtain ⟨us, pending, station, rate, tx, attempt, -, -, records, ⟨ox, oy, oz⟩, refill, stuck, leg, phase, setpoint,
    txq, flags, conds, cs, cp, ring, retry⟩ := h
  refine { us, pending, station, rate, bounded := ?_, sensing := ?_, clash := clash_congr conds cs cp, beta := ?_
           distinct := ?_, ordered := ?_, lock := ?_, lift := fun hs => ?_, box := fun _ h => ?_, held := ?_, ring := ?_
           flags := ?_ }
  · rintro ⟨h1, h2, h3⟩; exact ⟨by rwa [txq], by rwa [ring], hp h3⟩
  · simp only [SensingInRange, ox, oy, oz, refill, stuck]; exact id
  · simp only [claimAtBeta_iff, phase]; exact id
  · rintro ⟨-, empty, -, -⟩
    have none (n : Fin 8) : t.record n = none := by rw [State.record, records]; exact empty hs n
    have noLeg (n : Fin 8) : t.legOf n = Option.none := by rw [State.legOf, none]; rfl
    exact ⟨none _, fun _ n => none n, fun n l hl => (by rw [noLeg] at hl; cases hl),
      fun n m l k _ hl => (by rw [noLeg] at hl; cases hl)⟩
  · exact ordered_of station (.inl (by rw [txq]))
  · simp only [LockHeld, transmitting, tx, attempt, txq]; exact id
  · exact liftOnlyInClaim_congr (by rw [txq]) attempt leg hs.2
  · exact absurd (leg.trans hs) h
  · simp only [RingOffered, ring, retry, txq]; exact id
  · exact held_congr flags (.inl leg)
  · rw [flags]; exact fun i hi => hi

/-- Every block at its values of setup completion, the box being sane (R35). -/
theorem keeps_releaseNode (s : State) (hs : s.pe.leg = .setup) (hbox : BoxSane s) : Keeps s (releaseNode s) := by
  refine { us := rfl, pending := rfl, station := rfl, rate := rfl, bounded := id, sensing := fun _ => ?_
           clash := id, beta := fun _ => nofun, distinct := ?_, ordered := id, lock := id, lift := ?_
           box := fun _ _ => ⟨hbox, nofun⟩, held := fun _ _ => nofun, ring := id, flags := fun _ => id }
  · simp [SensingInRange, outInRange, releaseNode, FootSense.reset, Axis.reset]
  · exact distinct_congr rfl rfl rfl nofun
  · rintro ⟨-, one, claim, line⟩
    refine ⟨one, fun h => ?_, fun f hf hl => ?_⟩
    · have := claim h; rw [hs] at this; cases this
    · obtain ⟨h, -⟩ | h := line f hf hl
      · rw [hs] at h; cases h
      · rw [hs] at h; cases h

/-- Every block at its values of RESTART, with nothing on the line (R38). -/
theorem safe_restartBlocks (s : State) (hs : s.pe.leg ≠ .setup) (hidle : transmitting s = false) :
    Safe s (restartBlocks s) := by
  have none (n : Fin 8) : (restartBlocks s).record n = Option.none := by
    simp [State.record, restartBlocks, PeerTable.reset]
  have noLeg (n : Fin 8) : (restartBlocks s).legOf n = Option.none := by rw [State.legOf, none]; rfl
  refine { us := rfl, pending := rfl, station := rfl, rate := rfl
           bounded := fun h => ⟨by simp [restartBlocks, TxQueue.reset], by simp [restartBlocks, FaultUnit.reset], h.2.2⟩
           sensing := fun _ => ?_, clash := fun _ => by simp [ClashFromSources, restartBlocks, FaultUnit.reset]
           beta := fun _ => nofun, distinct := fun _ => ?_, ordered := fun _ => ?_
           lock := fun h => ⟨h.1, Nat.zero_le _, fun _ _ h => nomatch h⟩, lift := ?_
           box := fun h _ => h hs, held := fun _ _ => nofun, ring := fun _ h => absurd rfl h }
  · simp [SensingInRange, outInRange, restartBlocks, FootSense.reset, Axis.reset]
  · exact ⟨none _, nofun, fun n l hl => (by rw [noLeg] at hl; cases hl), fun n m l k _ hl => (by rw [noLeg] at hl; cases hl)⟩
  · exact ⟨List.Pairwise.nil, nofun, fun _ _ => Nat.zero_le _, fun _ => Nat.zero_le _⟩
  · rintro ⟨⟨hbusy, -, -⟩, -⟩
    refine ⟨Nat.zero_le _, nofun, fun f hf _ => ?_⟩
    rw [show s.sbi.attempt = some f from hf, hidle] at hbusy; cases hbusy

/-- A Setpoint is sent whose point lies in the box (R136). -/
theorem keeps_setpoint {s t : State} {p : Setpoint} (h : core t = { core s with setpoint := some p })
    (hp : BoxSane s → (s.boxXMin * 10 ≤ p.x.toInt ∧ p.x.toInt ≤ s.boxXMax * 10) ∧
      (s.boxYMin * 10 ≤ p.y.toInt ∧ p.y.toInt ≤ s.boxYMax * 10) ∧
      (s.boxZMin * 10 ≤ p.z.toInt ∧ p.z.toInt ≤ s.boxZMax * 10)) : Keeps s t := by
  simp only [core, Core.mk.injEq, Prod.mk.injEq] at h
  obtain ⟨us, pending, station, rate, tx, attempt, words, ptr, records, ⟨ox, oy, oz⟩, refill, stuck, leg, phase, setpoint,
    txq, flags, conds, cs, cp, ring, retry⟩ := h
  refine { us, pending, station, rate, bounded := ?_, sensing := ?_, clash := clash_congr conds cs cp, beta := ?_
           distinct := ?_, ordered := ?_, lock := ?_, lift := fun hs => ?_, box := fun hb ht => ?_, held := ?_, ring := ?_
           flags := ?_ }
  · exact bounded_congr (by rw [txq]) ring ptr
  · simp only [SensingInRange, ox, oy, oz, refill, stuck]; exact id
  · simp only [claimAtBeta_iff, phase]; exact id
  · exact distinct_congr records station words fun h => leg ▸ h
  · exact ordered_of station (.inl (by rw [txq]))
  · simp only [LockHeld, transmitting, tx, attempt, txq]; exact id
  · exact liftOnlyInClaim_congr (by rw [txq]) attempt leg hs.2
  · obtain ⟨sane, -⟩ := hb (leg ▸ ht)
    have hp := hp sane
    simp only [BoxSane, State.boxXMin, State.boxXMax, State.boxYMin, State.boxYMax, State.boxZMin, State.boxZMax,
      State.sword, words, setpoint] at sane hp ⊢
    exact ⟨sane, fun q hq => by obtain rfl := Option.some.inj hq; exact hp⟩
  · simp only [RingOffered, ring, retry, txq]; exact id
  · exact held_congr flags (.inl leg)
  · rw [flags]; exact fun i hi => hi

/-- CLEAR_FAULTS latches no flag (R157). -/
theorem safe_dropFlags (s : State) : Safe s (dropFlags s) := by
  obtain ⟨hring, hconds, hcs, hcp, hretry, hq⟩ : (dropFlags s).flt.ring = s.flt.ring ∧ (dropFlags s).flt.conds = s.flt.conds ∧
      (dropFlags s).flt.clashStation = s.flt.clashStation ∧ (dropFlags s).flt.clashPosition = s.flt.clashPosition ∧
      (dropFlags s).flt.retry = s.flt.retry ∧ (dropFlags s).txq = s.txq := by
    simp only [dropFlags, and_self]
  refine { toSafe0 := safe0_flt rfl (fun h => by rwa [hring]) (clash_congr hconds hcs hcp)
           ring := by simp only [RingOffered, hring, hretry, hq]; exact id, held := fun h ha hw => h ?_ hw }
  obtain ⟨i, hi, hb⟩ := List.any_eq_true.1 ha
  obtain ⟨hlt, hb⟩ := Bool.and_eq_true_iff.1 hb
  refine List.any_eq_true.2 ⟨i, hi, Bool.and_eq_true_iff.2 ⟨hlt, ?_⟩⟩
  have : (s.flt.flags[i] && s.flt.conds[i]) = true := by simpa [dropFlags] using hb
  exact (Bool.and_eq_true_iff.1 this).1

end Sys2Proof.Keeping
end

section
/-! Every operation of the Peer Table, the Phase Engine and the Foot Sense Unit keeps the invariants. -/

-- Elaborated in order: elaborated at once, the many proofs here take more threads than the check has memory for.
set_option Elab.async false

namespace Sys2Proof.Keeping
open Sys2Proof Sys2Proof.Machine Sys2Proof.Laws Sys2Proof.QueueRules

/-! ## Outside CLAIM and SETUP -/

/-- Outside CLAIM the invariants do not speak of the phase and the gait. -/
theorem quiet_of_ne {s t : State} (h : { core t with claimPhase := none } = { core s with claimPhase := none })
    (hs : s.pe.leg ≠ .claim) : Keeps s t := by
  have hleg : t.pe.leg = s.pe.leg := congrArg Core.leg h
  have phase (u : State) (hu : u.pe.leg ≠ .claim) : core u = { core u with claimPhase := none } := by
    simp only [core, claimPhase, if_neg hu]
  exact quiet (by rw [phase t (hleg ▸ hs), h, ← phase s hs])

/-- A walking leg other than in CLAIM and HOLD goes to another such state, or to HOLD. -/
theorem keeps_walk {s t : State} (h : core t = { core s with leg := t.pe.leg, claimPhase := none })
    (hs : s.pe.leg ≠ .claim ∧ s.pe.leg ≠ .hold ∧ s.pe.leg.walking = true)
    (ht : t.pe.leg ≠ .claim ∧ t.pe.leg ≠ .setup := by exact ⟨nofun, nofun⟩) : Keeps s t := by
  obtain ⟨hc, hh, hw⟩ := hs
  exact keeps_leg h ⟨hc, fun e => by rw [e] at hw; cases hw⟩ ht (fun e => absurd e hh) (.inl ⟨hw, hh⟩)

/-! ## The Peer Table -/

theorem legOf_setRecord (s : State) (n m : Fin 8) (r : Option Record) :
    (setRecord s n r).legOf m = if n = m then r.bind Record.legPart else s.legOf m := by
  simp only [State.legOf, State.record, setRecord]
  by_cases h : n = m
  · subst h; simp
  · rw [if_neg h]
    have : n.val ≠ m.val := fun e => h (Fin.ext e)
    congr 1
    exact Vector.getElem_set_ne _ _ this

theorem record_setRecord (s : State) (n m : Fin 8) (r : Option Record) :
    (setRecord s n r).record m = if n = m then r else s.record m := by
  simp only [State.record, setRecord]
  by_cases h : n = m
  · subst h; simp
  · rw [if_neg h]; exact Vector.getElem_set_ne _ _ fun e => h (Fin.ext e)

/-- A record is stored whose leg position, if it has one, no other holds. -/
theorem distinct_setRecord {s : State} {src : Fin 8} {r : Record} (hsrc : src ≠ s.sbi.station) (hleg : s.pe.leg ≠ .setup)
    (hpos : ∀ l, r.legPart = some l → l.pos ≠ s.legPos ∧
      ∀ n k, n ≠ src → n ≠ s.sbi.station → s.legOf n = some k → k.pos ≠ l.pos)
    (h : PositionsDistinct s) : PositionsDistinct (setRecord s src (some r)) := by
  obtain ⟨own, none, pos, pair⟩ := h
  have ownLeg : s.legOf s.sbi.station = Option.none := by rw [State.legOf, own]; rfl
  have other {n : Fin 8} {k : LegPart} (hn : n ≠ src) (hk : s.legOf n = some k) {l : LegPart}
      (hl : r.legPart = some l) : k.pos ≠ l.pos :=
    (hpos l hl).2 n k hn (fun e => by rw [e, ownLeg] at hk; cases hk) hk
  refine ⟨?_, fun e => absurd e hleg, fun n l hl => ?_, fun n m l k hne hl hk => ?_⟩
  · show (setRecord s src (some r)).record s.sbi.station = Option.none
    rw [record_setRecord, if_neg hsrc, own]
  · show l.pos ≠ s.legPos
    rw [legOf_setRecord] at hl
    split at hl
    · exact (hpos l hl).1
    · exact pos n l hl
  · rw [legOf_setRecord] at hl hk
    split at hl
    next hn =>
      rw [if_neg fun e => hne (hn.symm.trans e)] at hk
      exact (other (fun e => hne (hn.symm.trans e.symm)) hk hl).symm
    next hn =>
      split at hk
      next hm => exact other (fun e => hn e.symm) hl hk
      · exact pair n m l k hne hl hk

/-- A record that is marked keeps its part. -/
theorem distinct_mark {s : State} {n : Fin 8} {r : Record} (hr : s.record n = some r) (h : PositionsDistinct s) :
    PositionsDistinct (setRecord s n (some { r with stale := true })) := by
  obtain ⟨own, none, pos, pair⟩ := h
  have hlegs (m : Fin 8) : (setRecord s n (some { r with stale := true })).legOf m = s.legOf m := by
    rw [legOf_setRecord]
    split
    next e => rw [← e, State.legOf, hr]; rfl
    · rfl
  have hne : n ≠ s.sbi.station := fun e => by rw [e, own] at hr; cases hr
  refine ⟨?_, fun e => ?_, fun m l hl => pos m l (hlegs m ▸ hl), fun m k l l' hmk hl hk =>
    pair m k l l' hmk (hlegs m ▸ hl) (hlegs k ▸ hk)⟩
  · show (setRecord s n (some { r with stale := true })).record s.sbi.station = Option.none
    rw [record_setRecord, if_neg hne, own]
  · rw [none e n] at hr; cases hr

theorem keeps_raiseSilence (s : State) (n : Fin 8) (p : Part) : Keeps s (raiseSilence s n p) := by
  cases p with
  | leg _ => exact Keeps.trans quiet (keeps_reportFault { s with pt := { s.pt with peerSilent := true } } (.peerSilent n))
  | body _ =>
    exact Keeps.trans quiet (keeps_reportFault { s with pt := { s.pt with bodySilent := true } } (.plain .bodySilent))
  | mission _ =>
    exact Keeps.trans quiet (keeps_reportFault { s with pt := { s.pt with intentSilent := true } } (.plain .intentSilent))

theorem keeps_judge (s : State) (n : Fin 8) : Keeps s (judge s n) := by
  unfold judge
  split
  · exact .refl s
  next r hr =>
    refine keeps_ite (fun _ => .refl s) fun _ => keeps_ite (fun _ => ?_) fun _ => .refl s
    exact (keeps_records (by rfl) (distinct_mark hr)).trans (keeps_raiseSilence _ _ _)

theorem keeps_foldl {α : Type} {f : State → α → State} (hf : ∀ s a, Keeps s (f s a)) (l : List α) (s : State) :
    Keeps s (l.foldl f s) := by
  induction l generalizing s with
  | nil => exact .refl s
  | cons a l ih => exact (hf s a).trans (ih _)

theorem keeps_judgeAt (s : State) (p : LegPos) : Keeps s (judgeAt s p) := by
  unfold judgeAt
  split
  · exact keeps_judge _ _
  · exact .refl s

theorem keeps_judgeLegs (s : State) : Keeps s (judgeLegs s) :=
  keeps_foldl (fun _ _ => keeps_ite (fun _ => keeps_judge _ _) fun _ => .refl _) _ s

theorem keeps_judgeRole (s : State) (r : Role) : Keeps s (judgeRole s r) := by
  unfold judgeRole
  split
  · exact keeps_judge _ _
  · exact .refl s

theorem keeps_positionClash (s : State) (src : Fin 8) (p : LegPos) : Keeps s (positionClash s src p) := by
  have reported : Keeps s (if s.pt.clashWatch.isNone then reportFault s (.positionClash src p) else s) :=
    keeps_ite (fun _ => keeps_reportFault _ _) fun _ => .refl s
  exact reported.trans quiet

theorem keeps_silenceEnd (s : State) (r : Role) : Keeps s (silenceEnd s r) := by
  unfold silenceEnd
  cases r with
  | absent => exact .refl s
  | leg =>
    exact keeps_ite (fun _ => Keeps.trans quiet
      (keeps_endFault _ _)) fun _ => .refl s
  | body =>
    exact keeps_ite (fun _ => Keeps.trans quiet
      (keeps_endFault _ _)) fun _ => .refl s
  | mission =>
    exact keeps_ite (fun _ => Keeps.trans quiet
      (keeps_endFault _ _)) fun _ => .refl s

/-! ### Storing (R43 to R49): a frame of another station, after setup -/

/-- The LEG part that a Leg Report leaves: what it carries, but for the fields that a set notice guard keeps (R43, R45). -/
def reportPart (s : State) (src : Fin 8) (f : RxFrame) : LegPart :=
  match s.record src with
  | some r =>
    if r.guard then (match r.legPart with | some old => (decodeLegReport f).keepHeld old | none => decodeLegReport f)
    else decodeLegReport f
  | none => decodeLegReport f

theorem storeLegReport_eq (s : State) (src : Fin 8) (f : RxFrame) :
    storeLegReport s src f = storePart s src false (.leg (reportPart s src f)) .leg := rfl

theorem reportPart_pos (s : State) (src : Fin 8) (f : RxFrame) : (reportPart s src f).pos = carriedPos f := by
  unfold reportPart
  split
  · split
    · split <;> rfl
    · rfl
  · rfl

theorem keeps_tiltTest (s : State) (b : BodyPart) : Keeps s (tiltTest s b) := by
  unfold tiltTest
  exact keeps_ite (fun _ => keeps_ite (fun _ => .refl s) fun _ => Keeps.trans quiet (keeps_reportFault _ _))
    fun _ => keeps_ite (fun _ => Keeps.trans quiet (keeps_endFault _ _)) fun _ => .refl s

section Store
variable {s : State} {src : Fin 8} (hsrc : src ≠ s.sbi.station) (hleg : s.pe.leg ≠ .setup)
include hsrc hleg

/-- A LEG part is stored whose position no other record holds. -/
theorem keeps_storePart_leg (g : Bool) (l : LegPart) (role : Role)
    (hpos : PositionsDistinct s → l.pos ≠ s.legPos ∧
      ∀ n k, n ≠ src → n ≠ s.sbi.station → s.legOf n = some k → k.pos ≠ l.pos) :
    Keeps s (storePart s src g (.leg l) role) := by
  refine (keeps_records (t := setRecord s src _) (by rfl) fun hd =>
    distinct_setRecord hsrc hleg (fun k hk => ?_) hd).trans (keeps_silenceEnd _ _)
  obtain rfl : l = k := by simpa [Record.legPart] using hk
  exact hpos hd

theorem keeps_storePart_body (g : Bool) (b : BodyPart) (role : Role) : Keeps s (storePart s src g (.body b) role) :=
  (keeps_records (t := setRecord s src _) (by rfl) fun hd =>
    distinct_setRecord hsrc hleg (fun k hk => by simp [Record.legPart] at hk) hd).trans (keeps_silenceEnd _ _)

theorem keeps_storePart_mission (g : Bool) (m : MissionPart) (role : Role) :
    Keeps s (storePart s src g (.mission m) role) :=
  (keeps_records (t := setRecord s src _) (by rfl) fun hd =>
    distinct_setRecord hsrc hleg (fun k hk => by simp [Record.legPart] at hk) hd).trans (keeps_silenceEnd _ _)

omit hsrc hleg in
/-- A position that does not clash is neither the own one nor another peer's (R51). -/
theorem free_of_not_clashes {p : LegPos} (h : positionClashes s src p = false) :
    p ≠ s.legPos ∧ ∀ n k, n ≠ src → n ≠ s.sbi.station → s.legOf n = some k → k.pos ≠ p := by
  simp only [positionClashes, Bool.or_eq_false_iff, beq_eq_false_iff_ne] at h
  obtain ⟨hown, hpeers⟩ := h
  refine ⟨hown, fun n k hn hst hk e => ?_⟩
  have hmem : n ∈ s.peers := by simp [State.peers, stations, hst]
  have := List.any_eq_false.1 hpeers n hmem
  rw [hk] at this
  simp [hn, e] at this

theorem keeps_takeLegReport (f : RxFrame) : Keeps s (takeLegReport s src f) := by
  unfold takeLegReport
  refine keeps_ite (fun _ => keeps_positionClash _ _ _) fun hc => ?_
  rw [storeLegReport_eq]
  refine keeps_storePart_leg hsrc hleg _ _ _ fun _ => ?_
  rw [reportPart_pos]
  exact free_of_not_clashes (by simpa using hc)

theorem keeps_storeNotice (f : RxFrame) (hc : positionClashes s src (carriedPos f) = false) :
    Keeps s (storeNotice s src f) := by
  refine keeps_storePart_leg hsrc hleg _ _ _ fun hd => ?_
  cases ho : s.legOf src with
  | none => exact free_of_not_clashes hc
  | some l => exact ⟨hd.2.2.1 src l ho, fun n k hn _ hk => hd.2.2.2 n src k l hn hk ho⟩

theorem keeps_storeBody (f : RxFrame) : Keeps s (storeBody s src f) :=
  (keeps_storePart_body hsrc hleg false (decodeBody f) .body).trans (keeps_tiltTest _ _)

theorem keeps_storeIntent (f : RxFrame) : Keeps s (storeIntent s src f) := by
  have stored := keeps_storePart_mission hsrc hleg false (decodeIntent f) .mission
  exact keeps_ite (fun _ => stored.trans (keeps_recordEvent _ _ _)) fun _ => stored

end Store

/-! ## The Phase Engine -/

theorem keeps_changePoint (s : State) (h : s.pe.leg ≠ .claim) : Keeps s (changePoint s) :=
  (keeps_judgeRole s .mission).trans (quiet_of_ne (by rfl) (by rwa [judgeRole_pe]))

theorem keeps_recordTurn (s : State) : Keeps s (recordTurn s) := by
  unfold recordTurn
  split
  · exact quiet
  · exact (keeps_judgeAt s _).trans quiet

theorem keeps_fillTurn (s : State) : Keeps s (fillTurn s) :=
  keeps_ite (fun _ => keeps_recordTurn s) fun _ => .refl s

theorem keeps_cancelUnload (s : State) (h : s.pe.leg = .unload) : Keeps s (cancelUnload s) :=
  (keeps_walk (by rfl) (by rw [h]; decide)).trans (keeps_handNotice _ _)

theorem keeps_enterSwing (s : State) (h : s.pe.leg = .unload) : Keeps s (enterSwing s) :=
  (keeps_judgeRole s .mission).trans (keeps_walk (by rfl) (by rw [judgeRole_pe, h]; decide))

theorem keeps_enterLoad (s : State) (h : s.pe.leg = .swing ∨ s.pe.leg = .search) : Keeps s (enterLoad s) := by
  have entered : Keeps s { s with pe := ({ s.pe.enter .load with
      steps := s.pe.steps + 1#8, phi := 0#16, footholdT := none, stubRise := false, watchArmed := false
      replacing := false, loadT := msTimer s.loadMs, loadPending := false }).withWait .none } :=
    keeps_walk (by rfl) (by rcases h with h | h <;> rw [h] <;> decide)
  exact ((entered.trans (keeps_endFault _ .weakFoothold)).trans (keeps_handNotice _ .touchdown)).trans quiet

theorem recordTurn_leg (s : State) : (recordTurn s).pe.leg = s.pe.leg := by
  unfold recordTurn
  split
  · rfl
  next p _ => show (judgeAt s p).pe.leg = s.pe.leg; rw [judgeAt_pe]

theorem changePoint_leg (s : State) : (changePoint s).pe.leg = s.pe.leg := by
  show (judgeRole s .mission).pe.leg = s.pe.leg
  rw [judgeRole_pe]

theorem keeps_enterStance (s : State) (notice : Bool) (h : s.pe.leg = .load) : Keeps s (enterStance s notice) := by
  have entered : Keeps s { s with pe := ({ s.pe.enter .stance with loadT := none }).withWait .none } :=
    keeps_walk (by rfl) (by rw [h]; decide)
  have turned := (entered.trans (keeps_changePoint _ nofun)).trans (keeps_recordTurn _)
  exact keeps_ite (fun _ => turned.trans (keeps_handNotice _ .loaded)) fun _ => turned

theorem keeps_lateLoaded (s : State) : Keeps s (lateLoaded s) := by
  have handed : Keeps s (if s.pe.leg = .stance then handNotice s .loaded else s) :=
    keeps_ite (fun _ => keeps_handNotice _ _) fun _ => .refl s
  exact (handed.trans (keeps_endFault _ .weakFoothold)).trans quiet

theorem lateLoaded_leg (s : State) (h : s.pe.leg ≠ .claim) : (lateLoaded s).pe.leg = s.pe.leg := by
  unfold lateLoaded
  dsimp only
  split
  · exact congrArg PhaseEngine.leg (placeFrame_pe_of_ne s _ h)
  · rfl

theorem keeps_exhaustSearch (s : State) : Keeps s (exhaustSearch s) := by
  unfold exhaustSearch
  exact keeps_ite (fun _ => Keeps.trans quiet (keeps_recordEvent _ _ _))
    fun _ => Keeps.trans quiet (keeps_reportOccurrence _ _)

theorem keeps_enterSearch (s : State) (h : s.pe.leg = .swing) : Keeps s (enterSearch s) := by
  have entered : Keeps s { s with pe := ({ s.pe.enter .search with replacing := false }).withWait .none } :=
    keeps_walk (by rfl) (by rw [h]; decide)
  exact keeps_ite (fun _ => entered.trans (keeps_enterLoad _ (.inr rfl)))
    fun _ => keeps_ite (fun _ => entered.trans (keeps_exhaustSearch _)) fun _ => entered

theorem keeps_swingContact (s : State) (h : s.pe.leg = .swing) : Keeps s (swingContact s) :=
  keeps_ite (fun _ => quiet) fun _ => keeps_enterLoad s (.inl h)

theorem keeps_holdContact (s : State) (new : Contact) : Keeps s (holdContact s new) :=
  keeps_ite (fun _ => keeps_ite (fun _ => .refl s) fun _ => quiet)
    fun _ => keeps_ite (fun _ => quiet) fun _ => .refl s

theorem keeps_classChange (s : State) (old new : Contact) : Keeps s (classChange s old new) := by
  have late : Keeps s (if s.pe.loadPending && new == .loaded then lateLoaded s else s) :=
    keeps_ite (fun _ => keeps_lateLoaded s) fun _ => .refl s
  have hleg (h : s.pe.leg ≠ .claim) :
      (if s.pe.loadPending && new == .loaded then lateLoaded s else s).pe.leg = s.pe.leg := by
    split
    · exact lateLoaded_leg s h
    · rfl
  unfold classChange
  dsimp only
  generalize (if s.pe.loadPending && new == .loaded then lateLoaded s else s) = t at late hleg ⊢
  refine late.trans ?_
  split
  next h =>
    have ht := (hleg (by rw [h]; nofun)).trans h
    refine keeps_ite (fun _ => quiet) fun _ => keeps_ite (fun _ => ?_) fun _ => .refl t
    exact Keeps.trans quiet (keeps_swingContact _ ht)
  next h =>
    have ht := (hleg (by rw [h]; nofun)).trans h
    exact keeps_ite (fun _ => .refl t) fun _ => keeps_ite (fun _ => quiet)
      fun _ => keeps_ite (fun _ => keeps_enterLoad t (.inr ht)) fun _ => .refl t
  next h =>
    have ht := (hleg (by rw [h]; nofun)).trans h
    exact keeps_ite (fun _ => keeps_enterStance t true ht) fun _ => .refl t
  · exact keeps_holdContact t new
  · exact .refl t

theorem keeps_slipStart (s : State) : Keeps s (slipStart s) :=
  keeps_ite (fun _ => (keeps_handNotice s .slip).trans quiet) fun _ => .refl s

theorem keeps_endSlipPersist (s : State) : Keeps s (endSlipPersist s) :=
  keeps_ite (fun _ => (keeps_endFault s .slipPersist).trans quiet) fun _ => .refl s

theorem keeps_slipEnd (s : State) : Keeps s (slipEnd s) :=
  keeps_ite (fun _ => Keeps.trans quiet (keeps_endSlipPersist _)) fun _ => keeps_ite
    (fun _ => ((keeps_handNotice s .slipEnd).trans quiet).trans (keeps_endSlipPersist _)) fun _ => .refl s

/-! ## The Foot Sense Unit -/

theorem keeps_judgeLimit (s : State) (a : Axes) : Keeps s (judgeLimit s a) :=
  keeps_ite (fun _ => keeps_ite (fun _ => .refl s) fun _ => Keeps.trans quiet (keeps_reportFault _ _))
    fun _ => keeps_ite (fun _ => Keeps.trans quiet (keeps_endFault _ _)) fun _ => .refl s

theorem outInRange_zero : outInRange 0 := ⟨by decide, by decide⟩

theorem limitOut_inRange (v : Int) : outInRange (limitOut v) := by
  obtain ⟨h1, h2, -⟩ := clampInt_spec (-32768) 32767 v (by decide)
  exact ⟨h1, h2⟩

theorem keeps_enterSample (s : State) (fx fy fz : Half) : Keeps s (enterSample s fx fy fz) := by
  refine (keeps_sensing ?_ ?_).trans (keeps_judgeLimit _ _)
  · rfl
  · rintro ⟨-, -, -, -, hstuck⟩
    exact ⟨limitOut_inRange _, limitOut_inRange _, limitOut_inRange _, Nat.min_le_left _ _, hstuck⟩

theorem keeps_setContact (s : State) (new : Contact) : Keeps s (setContact s new) :=
  keeps_ite (fun _ => .refl s) fun _ => Keeps.trans quiet (keeps_classChange _ _ _)

theorem keeps_leaveSlip (s : State) : Keeps s (leaveSlip s) := Keeps.trans quiet (keeps_slipEnd _)

theorem keeps_judgeSlip (s : State) : Keeps s (judgeSlip s) :=
  keeps_ite (fun _ => keeps_ite (fun _ => keeps_leaveSlip s) fun _ => quiet) fun _ =>
    keeps_ite (fun _ => keeps_ite (fun _ => quiet)
      fun _ => keeps_ite (fun _ => keeps_leaveSlip s) fun _ => quiet) fun _ =>
    keeps_ite (fun _ => keeps_ite (fun _ => Keeps.trans quiet (keeps_slipStart _)) fun _ => quiet) fun _ => quiet

theorem keeps_degrade (s : State) (c : Cause) : Keeps s (degrade s c) := by
  refine keeps_ite (fun _ => quiet) fun _ => ?_
  have left : Keeps s (let t : State := { s with fsu := { s.fsu.addCause c with degraded := true } }
      if t.fsu.slipping then leaveSlip t else { t with fsu := { t.fsu with slipRun := 0, okRun := 0 } }) :=
    keeps_ite (fun _ => Keeps.trans quiet (keeps_leaveSlip _)) fun _ => quiet
  exact (left.trans quiet).trans (keeps_recordEvent _ _ _)

theorem keeps_restartWatch (s : State) : Keeps s (restartWatch s) :=
  keeps_ite (fun _ => Keeps.trans quiet (keeps_endFault _ _)) fun _ => quiet

theorem keeps_stuckStep (s : State) (fz : Half) : Keeps s (stuckStep s fz) := by
  have first : Keeps s { s with fsu := { s.fsu with stuckRun := 1 } } :=
    keeps_sensing (by rfl) fun ⟨hx, hy, hz, hr, _⟩ => ⟨hx, hy, hz, hr, show 1 ≤ 512 by decide⟩
  unfold stuckStep
  split
  · exact first
  · refine keeps_ite (fun _ => ?_) fun _ => keeps_ite
      (fun _ => (first.trans quiet).trans (keeps_endFault _ _)) fun _ => first
    exact keeps_sensing (by rfl) fun ⟨hx, hy, hz, hr, _⟩ => ⟨hx, hy, hz, hr, Nat.min_le_left _ _⟩

theorem keeps_judgeStuck (s : State) : Keeps s (judgeStuck s) :=
  keeps_ite (fun _ => (Keeps.trans quiet (keeps_reportFault _ _)).trans (keeps_degrade _ _)) fun _ => .refl s

theorem keeps_restoreContact (s : State) (fx fy fz : Half) : Keeps s (restoreContact s fx fy fz) := by
  have zeroed : Keeps s { s with fsu := { zeroLines s.fsu with
      degraded := false, causeLink := false, causeStuck := false, recovery := recoverAt } } :=
    keeps_sensing (by rfl) fun ⟨_, _, _, _, h⟩ =>
      ⟨outInRange_zero, outInRange_zero, outInRange_zero, Nat.zero_le _, h⟩
  exact (zeroed.trans (keeps_enterSample _ _ _ _)).trans (keeps_recordEvent _ _ _)

theorem keeps_recoveryStep (s : State) (fx fy fz : Half) : Keeps s (recoveryStep s fx fy fz) :=
  keeps_ite (fun _ => keeps_ite (fun _ => keeps_ite (fun _ => keeps_restoreContact _ _ _ _) fun _ => quiet)
    fun _ => quiet) fun _ => .refl s

theorem keeps_judgeSample (s : State) : Keeps s (judgeSample s) :=
  keeps_ite (fun _ => (keeps_setContact _ _).trans (keeps_judgeSlip _)) fun _ => .refl s

theorem keeps_takeSample (s : State) (fx fy fz : Half) : Keeps s (takeSample s fx fy fz) :=
  ((((((keeps_enterSample s fx fy fz).trans (keeps_restartWatch _)).trans (keeps_stuckStep _ fz)).trans
    (keeps_judgeStuck _)).trans (keeps_recoveryStep _ fx fy fz)).trans (keeps_judgeSample _)).trans quiet

theorem keeps_loseLink (s : State) : Keeps s (loseLink s) := by
  have lost : Keeps s (let t : State := { s with fsu := { s.fsu with watch := none } }
      if s.fsu.linkCond then t
      else degrade (reportFault { t with fsu := { t.fsu with linkCond := true } } (.plain .footLinkLost)) .link) :=
    keeps_ite (fun _ => quiet) fun _ =>
      (Keeps.trans quiet (keeps_reportFault _ _)).trans (keeps_degrade _ _)
  exact lost.trans quiet

theorem keeps_degradedJudge (s : State) (z setZ : Int) (pressing : Bool) : Keeps s (degradedJudge s z setZ pressing) :=
  keeps_ite (fun _ => keeps_ite (fun _ => Keeps.trans quiet (keeps_setContact _ _))
    fun _ => keeps_ite (fun _ => keeps_setContact _ _) fun _ => .refl s) fun _ => .refl s

end Sys2Proof.Keeping
end

section
/-! Every operation of the Trajectory Unit, the control period, the reports and the stride bus keeps the invariants. -/

-- Elaborated in order: elaborated at once, the many proofs here take more threads than the check has memory for.
set_option Elab.async false

namespace Sys2Proof.Keeping
open Sys2Proof Sys2Proof.Machine Sys2Proof.Laws Sys2Proof.QueueRules

/-! ## The Trajectory Unit -/

theorem keeps_moveStanding (s : State) (before : LegState) : Keeps s (moveStanding s before) :=
  ((keeps_judgeLegs s).trans (keeps_judgeRole _ .mission)).trans quiet

theorem keeps_moveSwing (s : State) (before : LegState) : Keeps s (moveSwing s before).1 := by
  unfold moveSwing
  split
  · exact .refl s
  · split <;> exact quiet

theorem keeps_moveSearch (s : State) : Keeps s (moveSearch s).1 := by
  unfold moveSearch
  split <;> exact quiet

theorem keeps_moveHold (s : State) : Keeps s (moveHold s) := by
  unfold moveHold
  split <;> exact quiet

theorem keeps_motion (s : State) (before : LegState) : Keeps s (motion s before).1 := by
  unfold motion
  split
  · exact keeps_moveStanding s before
  · exact keeps_moveStanding s before
  · exact keeps_moveStanding s before
  · exact keeps_moveSwing s before
  · exact keeps_moveSearch s
  · exact quiet
  · exact keeps_moveHold s
  · exact .refl s
  · exact .refl s

theorem keeps_watchClamp (s : State) (a : Axes) : Keeps s (watchClamp s a) := by
  have marked : Keeps s { s with tu := { s.tu with stanceLimit := a.any } } := quiet
  exact keeps_ite (fun _ => keeps_ite (fun _ => marked)
      fun _ => (marked.trans quiet).trans (keeps_reportFault _ (.workspaceClamp a)))
    fun _ => keeps_ite (fun _ => (marked.trans quiet).trans (keeps_endFault _ .workspaceClamp)) fun _ => marked

theorem keeps_clampFoot (s : State) : Keeps s (clampFoot s) :=
  keeps_ite (fun _ => .refl s) fun _ => keeps_ite (fun _ => Keeps.trans quiet (keeps_watchClamp _ _)) fun _ => quiet

/-- A coordinate inside the box, in 0.1 mm (R136). -/
theorem tenths_inBox {lo hi v : Int} (hlo : -1500 ≤ lo) (hlt : lo < hi) (hhi : hi ≤ 1500) :
    let h := BitVec.ofInt 16 (tenths (clampInt (lo * 1000) (hi * 1000) v))
    lo * 10 ≤ h.toInt ∧ h.toInt ≤ hi * 10 := by
  obtain ⟨h1, h2, -⟩ := clampInt_spec (lo * 1000) (hi * 1000) v (by omega)
  obtain ⟨hr, -⟩ := tenths_tenthsOf (clampInt (lo * 1000) (hi * 1000) v) (by omega)
  dsimp only
  omega

theorem keeps_sendSetpoint (s : State) : Keeps s (sendSetpoint s) := by
  refine keeps_setpoint (by rfl) fun ⟨hx, hy, hz⟩ => ⟨?_, ?_, ?_⟩
  · exact tenths_inBox hx.1 hx.2.1 hx.2.2
  · exact tenths_inBox hy.1 hy.2.1 hy.2.2
  · exact tenths_inBox hz.1 hz.2.1 hz.2.2

/-! ## The lift conditions -/

/-- A class-B report leaves the class-A flags. -/
theorem classALatched_reportFault (s : State) (r : Report) (h : r.fault.classA = false) :
    classALatched (reportFault s r) = classALatched s := by
  have hidx : 8 ≤ r.fault.idx.val := by simpa [FaultCode.classA] using h
  unfold classALatched
  rw [(reportFault_flt s r).1]
  congr 1
  funext i
  by_cases hi : i.val < 8
  · rw [decide_eq_true hi, Bool.true_and, Bool.true_and]
    exact Vector.getElem_set_ne _ _ (by omega)
  · rw [decide_eq_false hi, Bool.false_and, Bool.false_and]

theorem classALatched_judge (s : State) (n : Fin 8) : classALatched (judge s n) = classALatched s := by
  unfold judge
  split
  · rfl
  · split
    · rfl
    · split
      next r _ _ _ =>
        unfold raiseSilence
        cases r.part <;> exact classALatched_reportFault _ _ rfl
      · rfl

theorem classALatched_judgeAt (s : State) (p : LegPos) : classALatched (judgeAt s p) = classALatched s := by
  unfold judgeAt
  split
  · exact classALatched_judge _ _
  · rfl

theorem classALatched_judgeRole (s : State) (r : Role) : classALatched (judgeRole s r) = classALatched s := by
  unfold judgeRole
  split
  · exact classALatched_judge _ _
  · rfl

theorem classALatched_judgeLegs (s : State) : classALatched (judgeLegs s) = classALatched s :=
  foldl_keeps _ classALatched (fun s a => by split <;> simp [classALatched_judge]) _ s

theorem classALatched_judgeExclusive (s : State) : classALatched (judgeExclusive s) = classALatched s :=
  foldl_keeps _ classALatched classALatched_judgeAt _ s

theorem andThen_eq_none {c : State × Bool} {w : WaitReason} {rest : State → State × Option WaitReason} {u : State}
    (h : andThen c w rest = (u, none)) : c.2 = true ∧ rest c.1 = (u, none) := by
  unfold andThen at h
  split at h
  next hc => exact ⟨hc, h⟩
  · cases h

/-- When all nine conditions hold, φ is at β and no class-A flag is latched after the reads (R86). -/
theorem liftConditions_none {s u : State} (h : liftConditions s = (u, none)) :
    s.pe.phi = s.beta ∧ classALatched u = false := by
  have hpe : u.pe = s.pe := by rw [← liftConditions_pe s, h]
  obtain ⟨-, h⟩ := andThen_eq_none h
  obtain ⟨hphi, h⟩ := andThen_eq_none h
  obtain ⟨-, h⟩ := andThen_eq_none h
  obtain ⟨-, h⟩ := andThen_eq_none h
  obtain ⟨hfault, h⟩ := andThen_eq_none h
  obtain ⟨-, h⟩ := andThen_eq_none h
  obtain ⟨-, h⟩ := andThen_eq_none h
  obtain ⟨-, h⟩ := andThen_eq_none h
  obtain ⟨-, h⟩ := andThen_eq_none h
  dsimp only at hphi hfault h
  refine ⟨?_, ?_⟩
  · simpa only [State.beta, judgeRole_pe, beq_iff_eq] using hphi
  · obtain rfl : _ = u := congrArg Prod.fst h
    simp only [condBody, condSlip, condNeighbour, condFresh, classALatched_judgeRole, classALatched_judgeLegs,
      classALatched_judgeExclusive]
    simpa using hfault

/-- Reads of the Peer Table keep the invariants through the conditions, whichever fails. -/
theorem keeps_andThen {s : State} {c : State × Bool} {w : WaitReason} {rest : State → State × Option WaitReason}
    (hc : Keeps s c.1) (hr : ∀ t, Keeps t (rest t).1) : Keeps s (andThen c w rest).1 := by
  unfold andThen
  split
  · exact hc.trans (hr _)
  · exact hc

theorem keeps_judgeExclusive (s : State) : Keeps s (judgeExclusive s) := keeps_foldl keeps_judgeAt _ s

theorem keeps_condTurn (s : State) : Keeps s (condTurn s).1 := by
  unfold condTurn
  split
  · exact .refl s
  · split
    · exact keeps_judgeAt s _
    · exact .refl s

theorem keeps_liftConditions (s : State) : Keeps s (liftConditions s).1 := by
  unfold liftConditions
  exact keeps_andThen (keeps_judgeRole s .mission) fun s =>
    keeps_andThen (.refl s) fun s =>
    keeps_andThen (keeps_condTurn s) fun s =>
    keeps_andThen (.refl s) fun s =>
    keeps_andThen (.refl s) fun s =>
    keeps_andThen (keeps_judgeExclusive s) fun s =>
    keeps_andThen (keeps_judgeExclusive s) fun s =>
    keeps_andThen (keeps_judgeLegs s) fun s =>
    keeps_andThen (keeps_judgeRole s .body) fun s => .refl s

theorem keeps_nearbyTests (s : State) : Keeps s (nearbyTests s).1 := by
  unfold nearbyTests
  dsimp only
  split
  · exact (keeps_judgeLegs s).trans (keeps_judgeRole _ .body)
  · exact keeps_judgeLegs s

theorem keeps_requestCheck (s : State) : Keeps s (requestCheck s) :=
  ((keeps_judgeLegs s).trans (keeps_judgeRole _ .body)).trans quiet

/-! ## The control period -/

theorem keeps_advancePhase (s : State) : Keeps s (advancePhase s) := by
  by_cases h : s.pe.leg = .claim
  · exact quiet (by simp [core, claimPhase, advancePhase, nextPhi, h])
  · exact quiet_of_ne rfl h

theorem keeps_decideStance (s : State) (h : s.pe.leg = .stance) : Keeps s (decideStance s) := by
  unfold decideStance
  have changed : Keeps s (if s.pe.applied.gait = .stand then changePoint s else s) :=
    keeps_ite (fun _ => keeps_changePoint s (by rw [h]; nofun)) fun _ => .refl s
  dsimp only
  refine (changed.trans (keeps_fillTurn _)).trans (keeps_ite (fun _ => .refl _) fun _ => ?_)
  generalize fillTurn _ = t
  have lifted := keeps_liftConditions t
  split
  next e => rw [e] at lifted; exact lifted.trans quiet
  next e => rw [e] at lifted; exact lifted.trans (keeps_requestCheck _)

theorem keeps_decideUnload (s : State) (h : s.pe.leg = .unload) : Keeps s (decideUnload s) :=
  keeps_ite (fun _ => keeps_enterSwing s h) fun _ => keeps_ite (fun _ => .refl s) fun _ =>
    keeps_ite (fun _ => (keeps_nearbyTests s).trans (keeps_requestCheck _))
      fun _ => (keeps_nearbyTests s).trans (keeps_cancelUnload _ (by rw [nearbyTests_pe, h]))

theorem keeps_decide2 (s : State) : Keeps s (decide2 s) := by
  unfold decide2
  split
  next h => exact keeps_decideStance s h
  next h => exact keeps_decideUnload s h
  next h => exact keeps_ite (fun _ => keeps_enterStance s true h) fun _ => .refl s
  next h => exact keeps_ite (fun _ => quiet) fun _ => .refl s
  · exact .refl s

/-- The leg state in which each motion can end (R79). -/
def endsIn : MotionEnd → LegState → Prop
  | .swingEnd, l => l = .swing
  | .stubRiseEnd, l => l = .swing
  | .searchBottom, l => l = .search
  | .replaceEnd, l => l = .search

theorem motion_end {s : State} {before : LegState} {m : MotionEnd} (h : (motion s before).2 = some m) :
    endsIn m s.pe.leg ∧ (motion s before).1.pe = s.pe := by
  unfold motion at h ⊢
  split at h
  · cases h
  · cases h
  · cases h
  next hl =>
    rw [hl]
    refine ⟨?_, (moveSwing_frame s before).2.2.2.2.2.1⟩
    unfold moveSwing at h
    split at h
    · cases h
    · split at h <;> (dsimp only at h; split at h <;> cases h; rfl)
  next hl =>
    rw [hl]
    refine ⟨?_, (moveSearch_frame s).2.2.2.2.2.1⟩
    unfold moveSearch at h
    split at h <;> (dsimp only at h; split at h <;> cases h; rfl)
  · cases h
  · cases h
  · cases h
  · cases h

theorem keeps_endStubRise (s : State) (h : s.pe.leg = .swing) : Keeps s (endStubRise s) :=
  keeps_ite (fun _ => quiet) fun _ => keeps_enterLoad s (.inl h)

theorem keeps_endReplace (s : State) (h : s.pe.leg = .search) : Keeps s (endReplace s) :=
  keeps_ite (fun _ => Keeps.trans quiet (keeps_enterLoad _ (.inr h))) fun _ => quiet

theorem keeps_actOnEnd (s : State) (m : MotionEnd) (h : endsIn m s.pe.leg) : Keeps s (actOnEnd s (some m)) := by
  cases m with
  | swingEnd => exact keeps_enterSearch s h
  | stubRiseEnd => exact keeps_endStubRise s h
  | searchBottom => exact keeps_exhaustSearch s
  | replaceEnd => exact keeps_endReplace s h

theorem clampFoot_pe (s : State) : (clampFoot s).pe = s.pe := by
  have class_b (a : Axes) : (watchClamp { s with tu := { s.tu with p := clampBox s s.tu.p } } a).pe = s.pe := by
    unfold watchClamp
    dsimp only
    split
    · split
      · rfl
      · rw [reportFault_pe _ _ rfl]
    · split <;> rfl
  unfold clampFoot
  split
  · rfl
  · dsimp only
    split
    · exact class_b _
    · rfl

theorem keeps_controlPeriod (s : State) : Keeps s (controlPeriod s) := by
  unfold controlPeriod
  dsimp only
  have decided := (keeps_advancePhase s).trans (keeps_decide2 _)
  generalize decide2 (advancePhase s) = t at decided ⊢
  have sent := (decided.trans (keeps_motion t s.pe.leg)).trans ((keeps_clampFoot _).trans (keeps_sendSetpoint _))
  cases hm : (motion t s.pe.leg).2 with
  | none => exact sent
  | some m =>
    obtain ⟨hend, hpe⟩ := motion_end hm
    refine sent.trans (keeps_actOnEnd _ m ?_)
    rwa [show (sendSetpoint (clampFoot (motion t s.pe.leg).1)).pe = t.pe from (clampFoot_pe _).trans hpe]

/-! ## The result of a check -/

theorem keeps_passLift (s : State) (h : s.pe.leg = .stance) : Keeps s (passLift s) := by
  unfold passLift
  have lifted := keeps_liftConditions s
  have hpe := liftConditions_pe s
  split
  next e => rw [e] at lifted; exact lifted.trans quiet
  next u e =>
    obtain ⟨hphi, hfault⟩ := liftConditions_none e
    rw [e] at lifted hpe
    refine lifted.trans (keeps_enterClaim u (by rw [hpe]; exact h) ?_ hfault)
    rw [State.beta, hpe]; exact hphi

theorem keeps_actOnResult (s : State) (r : CheckResult) : Keeps s (actOnResult s r) := by
  unfold actOnResult
  refine keeps_ite (fun _ => ?_) fun _ => .refl s
  dsimp only
  split
  next h => exact keeps_ite (fun _ => Keeps.trans quiet (keeps_passLift _ h)) fun _ => quiet
  next h => exact keeps_ite (fun _ => quiet) fun _ => Keeps.trans quiet (keeps_cancelUnload _ h)
  · exact quiet

theorem keeps_completeCheck (s : State) (sn : Snapshot) : Keeps s (completeCheck s sn) :=
  Keeps.trans quiet (keeps_actOnResult _ _)

/-! ## The reports -/

theorem keeps_placeDiagnostic (s : State) (block : Nat) : Keeps s (placeDiagnostic s block) := by
  have read : Keeps s (if block = 3 then judgeRole s .mission else s) :=
    keeps_ite (fun _ => keeps_judgeRole s _) fun _ => .refl s
  exact read.trans (keeps_place _ .diagnostic _ (by decide) (newFrame_not_lift _ (by decide) _))

theorem keeps_examineSchedule (s : State) : Keeps s (examineSchedule s) := by
  have report : Keeps s (if legReportDue s then placeLegReport s else s) :=
    keeps_ite (fun _ => keeps_place s .legReport _ (by decide) (newFrame_not_lift _ (by decide) _)) fun _ => .refl s
  exact report.trans (keeps_ite (fun _ => keeps_place _ .footDetail _ (by decide) (newFrame_not_lift _ (by decide) _))
    fun _ => .refl _)

/-! ## Setup and restart -/

/-- The settled words give a sane box (R32, R33). -/
theorem boxSane_of_settled {s : State} {own : Fin 8} (h : ParamsSettled s.setup.words own) : BoxSane s := by
  obtain ⟨range, ⟨hx, hy, hz⟩, -⟩ := h
  exact ⟨⟨(range 5).1, hx, (range 6).2⟩, ⟨(range 7).1, hy, (range 8).2⟩, ⟨(range 9).1, hz, (range 10).2⟩⟩

/-- Setup completion after the words have been settled (R32 to R34). -/
def settledState (s : State) : State := { s with setup := settleWords s.setup s.sbi.station }

/-- SETUP_CLAMPED is reported where a word was adjusted (R35). -/
def reportClamped (s : State) : State :=
  if s.setup.clampCount = 0#8 then s else reportOccurrence s (.plain .setupClamped)

theorem completeSetup_eq (s : State) : completeSetup s =
    placeDiagnostic (examineSchedule (releaseNode (reportClamped (settledState s)))) 0 := by
  rfl

theorem reportClamped_setup (s : State) : (reportClamped s).setup = s.setup := by
  unfold reportClamped
  split
  · rfl
  · exact (reportFault_frame s (.plain .setupClamped)).2.2.1

theorem reportClamped_pe (s : State) : (reportClamped s).pe = s.pe := by
  unfold reportClamped
  split
  · rfl
  · exact reportFault_pe s (.plain .setupClamped) rfl

theorem keeps_settledState (s : State) (h : s.pe.leg = .setup) : Keeps s (settledState s) := by
  obtain ⟨l, hl⟩ := SetupWords.adjusted_exists s.setup.words s.sbi.station
  have hptr := (SetupWords.adjusts_settleWords s.setup s.sbi.station hl).ptr
  exact keeps_setupWords (by simp only [core, settledState]) h fun h => by rw [settledState, hptr]; exact h

theorem boxSane_reportClamped (s : State) : BoxSane (reportClamped (settledState s)) :=
  boxSane_of_settled (own := s.sbi.station) (by
    rw [reportClamped_setup, settledState]; exact SetupWords.paramsSettled s.setup s.sbi.station)

theorem keeps_completeSetup (s : State) (h : s.pe.leg = .setup) : Keeps s (completeSetup s) := by
  rw [completeSetup_eq]
  have reported : Keeps (settledState s) (reportClamped (settledState s)) :=
    keeps_ite (fun _ => .refl _) fun _ => keeps_reportOccurrence _ _
  have hleg : (reportClamped (settledState s)).pe.leg = .setup := by rw [reportClamped_pe]; exact h
  exact (((keeps_settledState s h).trans reported).trans (keeps_releaseNode _ hleg (boxSane_reportClamped s))).trans
    ((keeps_examineSchedule _).trans (keeps_placeDiagnostic _ 0))

theorem keeps_handSetup (s : State) (f : RxFrame) : Keeps s (handSetup s f) := by
  unfold handSetup
  refine keeps_ite (fun _ => keeps_ite (fun hleg => ?_) fun _ => quiet) fun _ => .refl s
  unfold takeSetup
  split
  next hi =>
    refine keeps_ite (fun hptr => ?_) fun _ => keeps_ite (fun _ => ?_) fun _ => quiet
    · have stored : Keeps s { s with setup := { s.setup with
          words := s.setup.words.set (f.b 1).toNat (halfAt f.payload 2) hi, ptr := s.setup.ptr + 1 } } :=
        keeps_setupWords rfl hleg fun _ => by dsimp only; omega
      exact keeps_ite (fun _ => stored.trans (keeps_completeSetup _ hleg)) fun _ => stored
    · exact keeps_setupWords rfl hleg fun _ => by dsimp only; omega
  · exact quiet

/-! ## The frames of the stride bus -/

theorem keeps_stationClash (s : State) (k : FrameKind) : Keeps s (stationClash s k) :=
  (keeps_reportFault s (.stationClash k s.time.us)).trans quiet

/-- What a frame command does: its frame is handed to its owner by a node that is not transmitting, the sender being another
station, and in SETUP only a Setup frame or an Alarm (R13 to R16, R23); or it ends before. -/
theorem receive_kept (s : State) (ok : Bool) (f : RxFrame) (k : FrameKind) (deliver : State → State) :
    ∃ u, Keeps s u ∧ (receive s ok f k deliver = u ∨
      (receive s ok f k deliver = deliver u ∧ transmitting u = false ∧ f.source ≠ u.sbi.station ∧
        (u.pe.leg = .setup → takenInSetup k = true) ∧ u.pe = s.pe)) := by
  unfold receive
  split
  · exact ⟨s, .refl s, .inl rfl⟩
  next hb =>
    have hidle : transmitting s = false := by
      rw [Bool.or_eq_true, not_or] at hb; simpa using hb.1
    split
    · exact ⟨notHeard s 0, quiet, .inl rfl⟩
    · unfold screen
      have counted : Keeps s (countGood (endReception s 0)) := quiet
      split
      · exact ⟨_, counted.trans (keeps_stationClash _ k), .inl rfl⟩
      next hs =>
        split
        next hleg =>
          split
          next hk => exact ⟨_, counted, .inr ⟨rfl, hidle, hs, fun _ => hk, rfl⟩⟩
          · exact ⟨_, counted, .inl rfl⟩
        next hleg =>
          split
          · exact ⟨_, counted, .inr ⟨rfl, hidle, hs, fun h => absurd h hleg, rfl⟩⟩
          · exact ⟨_, counted.trans quiet, .inl rfl⟩

theorem keeps_receive {s : State} {ok : Bool} {f : RxFrame} {k : FrameKind} {deliver : State → State}
    (h : ∀ u, transmitting u = false → f.source ≠ u.sbi.station → (u.pe.leg = .setup → takenInSetup k = true) →
      Keeps u (deliver u)) : Keeps s (receive s ok f k deliver) := by
  obtain ⟨u, hu, e | ⟨e, hidle, hsrc, hleg, -⟩⟩ := receive_kept s ok f k deliver
  · rw [e]; exact hu
  · rw [e]; exact hu.trans (h u hidle hsrc hleg)

theorem keeps_failReception {s : State} {ok : Bool} {n : Nat} {count : State → State} (h : ∀ t, Keeps t (count t)) :
    Keeps s (failReception s ok n count) :=
  keeps_ite (fun _ => .refl s) fun _ => keeps_ite (fun _ => quiet) fun _ => Keeps.trans quiet (h _)

theorem keeps_failUncounted {s : State} {ok : Bool} {n : Nat} {count : State → State} (h : ∀ t, Keeps t (count t)) :
    Keeps s (failUncounted s ok n count) := by
  refine keeps_failReception fun t => ?_
  split
  · exact .refl t
  · exact h t

theorem keeps_passGlitch (s : State) (got : List Byte) : Keeps s (passGlitch s got) :=
  keeps_ite (fun _ => .refl s) fun _ => keeps_ite (fun _ => quiet) fun _ => quiet

theorem keeps_takeAlarm (s : State) (src : Fin 8) (cause : Byte) : Keeps s (takeAlarm s src cause) := by
  refine keeps_ite (fun _ => quiet) fun _ => ?_
  have recorded := keeps_recordEvent s (.alarmFrom src) cause
  exact keeps_ite (fun _ => (recorded.trans (keeps_directHold _)).trans (keeps_recordEvent _ _ _)) fun _ => recorded

theorem keeps_placeConflict (s : State) (named : Byte) : Keeps s (placeFrame s (s.noticeFrame .conflict named)) :=
  keeps_place s .phaseNotice _ (by decide) ((noticeFrame_isLift s .conflict named).trans (by decide))

theorem keeps_hearNotice (s : State) (src : Fin 8) (f : RxFrame) (hidle : transmitting s = false) :
    Keeps s (hearNotice s src f) := by
  refine keeps_ite (fun _ => ?_) fun _ => keeps_ite (fun _ => ?_) fun _ => .refl s
  · exact keeps_ite (fun _ => keeps_ite (fun h => keeps_giveUpClaim s h (.inl hidle))
      fun _ => keeps_ite (fun _ => keeps_placeConflict s _) fun _ => .refl s) fun _ => .refl s
  · unfold namedInConflict
    split
    next h => exact keeps_giveUpClaim s h (.inl hidle)
    next h => exact keeps_cancelUnload s h
    · exact keeps_reportOccurrence s (.overlap src)
    · exact keeps_reportOccurrence s (.overlap src)
    · exact keeps_reportOccurrence s (.overlap src)
    · exact keeps_recordEvent s _ _
    · exact keeps_recordEvent s _ _
    · exact .refl s
    · exact .refl s

theorem keeps_takeNotice {s : State} {src : Fin 8} (f : RxFrame) (hidle : transmitting s = false)
    (hsrc : src ≠ s.sbi.station) (hleg : s.pe.leg ≠ .setup) : Keeps s (takeNotice s src f) := by
  refine keeps_ite (fun _ => keeps_positionClash s src _) fun hc => ?_
  refine (keeps_storeNotice hsrc hleg f (by simpa using hc)).trans (keeps_hearNotice _ src f ?_)
  rw [transmitting, (storeNotice_frame s src f).2.1]; exact hidle

end Sys2Proof.Keeping
end

section
/-! Every command keeps the invariants, and the obligations that say so. -/

-- Elaborated in order: elaborated at once, the many proofs here take more threads than the check has memory for.
set_option Elab.async false

namespace Sys2Proof.Keeping
open Sys2Proof Sys2Proof.Machine Sys2Proof.Laws Sys2Proof.QueueRules

/-! ## The passing of time -/

/-- Time that passes moves none of what the invariants speak of, but the transmit side from ARBITRATING to SENDING. -/
theorem core_elapse (s : State) (dt : Nat) :
    core (elapse s dt) = { core s with us := s.time.us + BitVec.ofNat 32 dt, tx := (elapse s dt).sbi.tx } := by
  simp only [core, claimPhase, elapse_frame, elapse_apply, after_apply, sbi_after_apply]

/-- The microseconds aside, a state is what it was. -/
def timed (s : State) (us : Micros) : State := { s with time := { s.time with us := us } }

/-- The passing of time keeps the invariants. -/
theorem keeps_elapse (s : State) (dt : Nat) :
    Keeps (timed s (s.time.us + BitVec.ofNat 32 dt)) (elapse s dt) :=
  keeps_tx (core_elapse s dt) (transmitting_elapse s dt)

/-! ## The commands of the Control frames -/

section Receive
variable {s : State} {f : RxFrame} {code : Nat} {act : State → State}

/-- A Control frame's command reaches a node that is not transmitting and not in SETUP (R16, R17). -/
theorem keeps_receiveControl
    (h : ∀ t, transmitting t = false → t.pe.leg ≠ .setup → Keeps t (act t)) : Keeps s (receiveControl s f code act) :=
  keeps_receive fun u hidle _ hleg =>
    keeps_ite (fun _ => keeps_ite (fun _ => h u hidle fun e => absurd (hleg e) (by decide)) fun _ => quiet)
      fun _ => keeps_ite (fun _ => quiet) fun _ => .refl u

theorem safe_receiveControl
    (h : ∀ t, transmitting t = false → t.pe.leg ≠ .setup → Safe t (act t)) : Safe s (receiveControl s f code act) := by
  obtain ⟨u, hu, e | ⟨e, hidle, -, hleg, -⟩⟩ := receive_kept s (controlOf code f) f .control fun t => command t f code act
  · rw [receiveControl, e]; exact hu.toSafe
  · rw [receiveControl, e]
    refine hu.toSafe.trans ?_
    unfold command
    dsimp only
    split
    · split
      · exact h u hidle fun e => absurd (hleg e) (by decide)
      · exact (quiet (t := countUnknown u)).toSafe
    · split
      · exact (quiet (t := countUnknown u)).toSafe
      · exact (Keeps.refl u).toSafe

end Receive

/-- START in READY, with no class-A flag latched (R37). -/
theorem keeps_takeStart (s : State) : Keeps s (takeStart s) := by
  refine keeps_ite (fun hleg => ?_) fun _ => .refl s
  refine keeps_ite (fun _ => keeps_recordEvent s _ _) fun hfault => ?_
  refine keeps_ite (fun _ => ?_) fun _ => keeps_recordEvent s _ _
  have hfault : classALatched s = false := by simpa using hfault
  have entered : Keeps s { s with
      pe := { s.pe.enter .stance with phi := 0#16, steps := 0#8 }, tu := { s.tu with p := s.tu.measured } } :=
    keeps_leg (by rfl) (by rw [hleg]; decide) ⟨nofun, nofun⟩ (fun h => by rw [hleg] at h; cases h)
      (.inr (.inr (.inr hfault)))
  exact (entered.trans (keeps_changePoint _ nofun)).trans quiet

theorem keeps_recordHeldAlarms (s : State) : Keeps s (recordHeldAlarms s) :=
  keeps_ite (fun _ => .refl s) fun _ => (keeps_recordEvent s _ _).trans quiet

theorem recordHeldAlarms_pe (s : State) :
    (recordHeldAlarms s).pe = s.pe ∧ (recordHeldAlarms s).flt.flags = s.flt.flags ∧
      (recordHeldAlarms s).sbi = s.sbi := by
  unfold recordHeldAlarms
  split
  · exact ⟨rfl, rfl, rfl⟩
  · obtain ⟨hpe, hflags, -⟩ := recordEvent_keeps s .alarmsDuringHold s.flt.alarmsInHold
    exact ⟨hpe, hflags, (recordEvent_frame s .alarmsDuringHold s.flt.alarmsInHold).2.1⟩

/-- The part of a taken RESUME before the new state is entered keeps the leg in HOLD and the class-A flags (R155). -/
theorem leaveHold_hold {s : State} (hleg : s.pe.leg = .hold) :
    Keeps s (leaveHold s) ∧ (leaveHold s).pe.leg = .hold ∧ classALatched (leaveHold s) = classALatched s ∧
      (leaveHold s).sbi = s.sbi := by
  have phased : Keeps s { s with pe := { s.pe with phi := 0#16 } } := quiet_of_ne (by rfl) (by rw [hleg]; nofun)
  refine ⟨(phased.trans (keeps_changePoint _ (by show s.pe.leg ≠ _; rw [hleg]; nofun))).trans quiet, ?_, ?_, ?_⟩
  · exact (changePoint_leg { s with pe := { s.pe with phi := 0#16 } }).trans hleg
  · exact classALatched_judgeRole { s with pe := { s.pe with phi := 0#16 } } .mission
  · exact (changePoint_frame { s with pe := { s.pe with phi := 0#16 } }).2.1

/-- RESUME in HOLD, the node not transmitting (R155, R156). -/
theorem keeps_takeResume (s : State) (hidle : transmitting s = false) : Keeps s (takeResume s) := by
  refine keeps_ite (fun hleg => ?_) fun _ => .refl s
  refine keeps_ite (fun _ => (keeps_placeAlarm s _ _).trans (keeps_recordEvent _ _ _)) fun hfault => ?_
  obtain ⟨hpe, hflags, hsbi⟩ := recordHeldAlarms_pe s
  obtain ⟨left, hleg', hfault', hsbi'⟩ := leaveHold_hold (s := recordHeldAlarms s) (by rw [hpe]; exact hleg)
  have hfault'' : classALatched (leaveHold (recordHeldAlarms s)) = false := by
    have clear : classALatched s = false := by simpa using hfault
    rw [hfault']
    rw [classALatched, ← hflags] at clear
    exact clear
  have hidle' : transmitting (leaveHold (recordHeldAlarms s)) = false := by
    rw [transmitting, hsbi', hsbi]; exact hidle
  have walked := (keeps_recordHeldAlarms s).trans left
  unfold resumeWalk
  dsimp only
  generalize leaveHold (recordHeldAlarms s) = t at walked hleg' hfault'' hidle'
  have entered : Keeps t (resumeEnter t) := by
    have resumed {u : State} (h : core u = { core t with leg := u.pe.leg, claimPhase := none })
        (hu : u.pe.leg ≠ .claim ∧ u.pe.leg ≠ .setup) : Keeps t u :=
      keeps_leg h (by rw [hleg']; decide) hu (fun _ => .inr hidle') (.inr (.inr (.inr hfault'')))
    unfold resumeEnter
    split
    · exact resumed rfl ⟨nofun, nofun⟩
    · exact resumed rfl ⟨nofun, nofun⟩
    · exact resumed rfl ⟨nofun, nofun⟩
  exact (walked.trans entered).trans (keeps_recordEvent _ _ _)

theorem safe_restartNode (s : State) (hidle : transmitting s = false) : Safe s (restartNode s) := by
  unfold restartNode
  split
  · exact (Keeps.refl s).toSafe
  next h => exact (safe_restartBlocks s h hidle).trans (keeps_examineSchedule _).toSafe

theorem safe_takeClear (s : State) : Safe s (takeClear s) :=
  (safe_dropFlags s).trans (keeps_recordEvent _ _ _).toSafe

/-! ## The local links -/

theorem keeps_footFrame {s : State} {ok : Bool} {take : State → State} (h : ∀ t, Keeps t (take t)) :
    Keeps s (footFrame s ok take) :=
  keeps_ite (fun _ => Keeps.trans quiet (h _)) fun _ => .refl s

theorem keeps_closeReply (s : State) : Keeps s (closeReply s) :=
  keeps_ite (fun _ => Keeps.trans quiet (keeps_endFault _ .driveLost)) fun _ => quiet

theorem keeps_raiseDriveFault (s : State) (off : Bool) : Keeps s (raiseDriveFault s off) :=
  keeps_ite (fun _ => .refl s) fun _ => Keeps.trans quiet (keeps_reportFault _ (.driveFault off))

theorem keeps_endDriveFault (s : State) : Keeps s (endDriveFault s) :=
  keeps_ite (fun _ => Keeps.trans quiet (keeps_endFault _ .driveFault)) fun _ => .refl s

theorem keeps_driveReply (s : State) (d : DriveState) (q : P3) : Keeps s (driveReply s d q) := by
  have measured (b : Bool) : Keeps s (setDriveLimit (takeMeasured s q) b) := quiet
  have handed (t : State) : Keeps t (handStatus t q) := keeps_degradedJudge t _ _ _
  have set (t : State) : Keeps t (setStarted t) := quiet
  cases d with
  | ok => exact (((measured false).trans (keeps_endDriveFault _)).trans (set _)).trans (handed _)
  | limit => exact (((measured true).trans (keeps_endDriveFault _)).trans (set _)).trans (handed _)
  | fault => exact ((measured false).trans (keeps_raiseDriveFault _ false)).trans (handed _)
  | off =>
    have limited : Keeps s (setDriveLimit s false) := quiet
    exact keeps_ite (fun _ => limited.trans (keeps_raiseDriveFault _ true)) fun _ => limited

theorem keeps_missReply (s : State) : Keeps s (missReply s) := by
  have missed : Keeps s { s with tu := { s.tu with window := none, misses := satInc s.tu.misses } } := quiet
  exact keeps_ite (fun _ => (missed.trans quiet).trans (keeps_reportFault _ (.plain .driveLost))) fun _ => missed

/-! ## The node's own clock -/

theorem keeps_expireClaim (s : State) (h : s.pe.leg = .claim) : Keeps s (expireClaim s) :=
  keeps_ite (fun _ => quiet) fun hl => Keeps.trans quiet (keeps_giveUpClaim _ h (.inr (by simpa using hl)))

theorem keeps_expireFoothold (s : State) : Keeps s (expireFoothold s) := by
  unfold expireFoothold
  dsimp only
  split
  · exact quiet
  · exact keeps_ite (fun _ => quiet) fun _ => Keeps.trans quiet (keeps_exhaustSearch _)
  · exact quiet

theorem keeps_expireLoad (s : State) (h : s.pe.leg = .load) : Keeps s (expireLoad s) :=
  ((keeps_enterStance s false h).trans (keeps_reportFault _ (.plain .weakFoothold))).trans quiet

theorem keeps_expireSlip (s : State) : Keeps s (expireSlip s) :=
  Keeps.trans quiet (keeps_reportFault _ (.plain .slipPersist))

theorem keeps_tickEpoch (s : State) : Keeps s (tickEpoch s) := Keeps.trans quiet (keeps_examineSchedule _)

/-! ## The line -/

theorem keeps_interframe (s : State) : Keeps s (enterIdle s) := by
  unfold enterIdle recoverLine
  have free : Keeps s (lineFree s) := quiet
  refine free.trans (keeps_ite (fun h => ?_) fun _ => .refl _)
  have idle : Keeps (lineFree s) { lineFree s with sbi := { (lineFree s).sbi with tx := .idle } } :=
    keeps_tx (by rfl) (by rw [transmitting, transmitting, h]; rfl)
  exact (idle.trans (keeps_endFault _ .busStuck)).trans (keeps_recordEvent _ _ _)

theorem keeps_busStuck (s : State) (h : transmitting s = false) :
    Keeps s (reportFault { s with sbi := { s.sbi with
      rx := .waitIdle, recessive := 0, rxAborted := false, dominant := stuckBits, tx := .stuck } } (.plain .busStuck)) :=
  (keeps_tx (by rfl) (by rw [h]; rfl)).trans (keeps_reportFault _ (.plain .busStuck))

/-! ## The commands -/

/-- The commands that can clear a latched flag: RESTART and CLEAR_FAULTS (R38, R157). -/
def clears : Instr → Bool
  | .restart _ _ | .clearFaults _ _ => true
  | _ => false

/-- A command answers a state that has kept the invariants, and but for RESTART and CLEAR_FAULTS the latched flags. -/
def KeptBy (c : Instr) (s : State) : Prop :=
  ∃ t, exec c s = .next t ∧ ∀ dt, dtOf c = some dt →
    Safe (elapse s dt) t ∧ (clears c = false → Keeps (elapse s dt) t)

theorem keptBy_of_keeps {c : Instr} {s t : State} {dt : Nat} (hdt : dtOf c = some dt) (h : exec c s = .next t)
    (hk : Keeps (elapse s dt) t) : KeptBy c s :=
  ⟨t, h, fun d hd => by rw [hdt] at hd; obtain rfl := Option.some.inj hd; exact ⟨hk.toSafe, fun _ => hk⟩⟩

theorem keptBy_of_safe {c : Instr} {s t : State} {dt : Nat} (hdt : dtOf c = some dt) (hc : clears c = true)
    (h : exec c s = .next t) (hk : Safe (elapse s dt) t) : KeptBy c s :=
  ⟨t, h, fun d hd => by
    rw [hdt] at hd; obtain rfl := Option.some.inj hd; exact ⟨hk, fun e => by rw [hc] at e; cases e⟩⟩

/-- A frame of another station is handed to its owner after setup only. -/
theorem not_setup {u : State} {k : FrameKind} (hk : takenInSetup k = false)
    (h : u.pe.leg = .setup → takenInSetup k = true) : u.pe.leg ≠ .setup :=
  fun e => by rw [hk] at h; cases h e

/-- Every command keeps the invariants. -/
theorem exec_keptBy (c : Instr) (s : State) : KeptBy c s := by
  cases c with
  | fullReset n r => exact ⟨_, rfl, nofun⟩
  | interframeSpace dt =>
    exact keptBy_of_keeps rfl rfl (keeps_ite (fun _ => keeps_interframe _) fun _ => .refl _)
  | txBegin dt deferred =>
    refine keptBy_of_keeps rfl rfl (keeps_ite (fun h => ?_) fun _ => .refl _)
    split
    · exact .refl _
    next f rest hq =>
      exact keeps_ite (fun _ => quiet) fun _ => keeps_beginFrame _ f rest hq (by rw [transmitting, h.1]; rfl)
  | arbitrationLoss dt bit =>
    refine keptBy_of_keeps rfl rfl ?_
    split
    · exact keeps_ite (fun _ => keeps_loseArbitration _ _) fun _ => .refl _
    · exact .refl _
  | txAbort dt level =>
    refine keptBy_of_keeps rfl rfl ?_
    split
    next f hf => exact keeps_ite (fun _ => keeps_abortFrame _ f hf) fun _ => .refl _
    · exact .refl _
  | txCompletion dt =>
    refine keptBy_of_keeps rfl rfl ?_
    split
    next f hf => exact keeps_ite (fun _ => keeps_completeFrame _ f hf) fun _ => .refl _
    · exact .refl _
  | framingError dt got field =>
    exact keptBy_of_keeps rfl rfl
      (keeps_ite (fun _ => keeps_passGlitch _ _) fun _ => keeps_failUncounted fun _ => quiet)
  | truncation dt got => exact keptBy_of_keeps rfl rfl (keeps_failUncounted fun _ => quiet)
  | claimParityError dt claim => exact keptBy_of_keeps rfl rfl (keeps_failReception fun _ => quiet)
  | unknownKind dt claim => exact keptBy_of_keeps rfl rfl (keeps_failReception fun _ => quiet)
  | checkError dt frame => exact keptBy_of_keeps rfl rfl (keeps_failUncounted fun _ => quiet)
  | stationClash dt frame =>
    refine keptBy_of_keeps rfl rfl ?_
    split
    · exact keeps_receive fun u _ _ _ => .refl u
    · exact .refl _
  | sbiClashWatchExpiry dt =>
    exact keptBy_of_keeps rfl rfl (keeps_ite (fun _ => Keeps.trans quiet (keeps_endStationClash _)) fun _ => .refl _)
  | busStuck dt =>
    exact keptBy_of_keeps rfl rfl (keeps_ite (fun _ => .refl _) fun h => keeps_busStuck _ (by simpa using h))
  | setupFrame dt frame => exact keptBy_of_keeps rfl rfl (keeps_receive fun u _ _ _ => keeps_handSetup u frame)
  | alarmReceived dt frame => exact keptBy_of_keeps rfl rfl (keeps_receive fun u _ _ _ => keeps_takeAlarm u _ _)
  | phaseNoticeReceived dt frame =>
    exact keptBy_of_keeps rfl rfl
      (keeps_receive fun u hidle hsrc hleg => keeps_takeNotice frame hidle hsrc (not_setup rfl hleg))
  | legReportReceived dt frame =>
    exact keptBy_of_keeps rfl rfl
      (keeps_receive fun u _ hsrc hleg => keeps_takeLegReport hsrc (not_setup rfl hleg) frame)
  | bodyReportReceived dt frame =>
    exact keptBy_of_keeps rfl rfl (keeps_receive fun u _ hsrc hleg => keeps_storeBody hsrc (not_setup rfl hleg) frame)
  | intentReceived dt frame =>
    exact keptBy_of_keeps rfl rfl (keeps_receive fun u _ hsrc hleg => keeps_storeIntent hsrc (not_setup rfl hleg) frame)
  | infoFrameReceived dt frame =>
    refine keptBy_of_keeps rfl rfl ?_
    split
    · exact keeps_receive fun u _ _ _ => .refl u
    · exact .refl _
  | start dt frame => exact keptBy_of_keeps rfl rfl (keeps_receiveControl fun t _ _ => keeps_takeStart t)
  | restart dt frame => exact keptBy_of_safe rfl rfl rfl (safe_receiveControl fun t hidle _ => safe_restartNode t hidle)
  | resume dt frame => exact keptBy_of_keeps rfl rfl (keeps_receiveControl fun t hidle _ => keeps_takeResume t hidle)
  | clearFaults dt frame => exact keptBy_of_safe rfl rfl rfl (safe_receiveControl fun t _ _ => safe_takeClear t)
  | query dt frame =>
    exact keptBy_of_keeps rfl rfl (keeps_receiveControl fun t _ _ =>
      keeps_ite (fun _ => keeps_placeDiagnostic t _) fun _ => .refl t)
  | eventTest dt frame => exact keptBy_of_keeps rfl rfl (keeps_receiveControl fun t _ _ => keeps_recordEvent t _ _)
  | ageingRead dt =>
    exact keptBy_of_keeps rfl rfl (keeps_ite (fun _ => keeps_foldl keeps_judge _ _) fun _ => .refl _)
  | ptClashWatchExpiry dt =>
    exact keptBy_of_keeps rfl rfl (keeps_ite (fun _ => Keeps.trans quiet (keeps_endPositionClash _)) fun _ => .refl _)
  | forceSampleGood dt bytes =>
    exact keptBy_of_keeps rfl rfl (keeps_footFrame fun t =>
      keeps_ite (fun _ => .refl t) fun _ => keeps_takeSample t _ _ _)
  | forceSampleBad dt ended => exact keptBy_of_keeps rfl rfl (keeps_footFrame fun t => quiet)
  | forceSampleUnfit dt bytes => exact keptBy_of_keeps rfl rfl (keeps_footFrame fun t => .refl t)
  | footLinkLost dt => exact keptBy_of_keeps rfl rfl (keeps_ite (fun _ => keeps_loseLink _) fun _ => .refl _)
  | statusReply dt bytes =>
    refine keptBy_of_keeps rfl rfl (keeps_ite (fun _ => ?_) fun _ => .refl _)
    split
    · exact (Keeps.trans quiet (keeps_closeReply _)).trans (keeps_driveReply _ _ _)
    · exact .refl _
  | badReply dt ended => exact keptBy_of_keeps rfl rfl (keeps_ite (fun _ => quiet) fun _ => .refl _)
  | setpointEnd dt => exact keptBy_of_keeps rfl rfl (keeps_ite (fun _ => quiet) fun _ => .refl _)
  | answerWindowClose dt => exact keptBy_of_keeps rfl rfl (keeps_ite (fun _ => keeps_missReply _) fun _ => .refl _)
  | controlPeriodExpiry dt =>
    exact keptBy_of_keeps rfl rfl
      (keeps_ite (fun _ => Keeps.trans quiet (keeps_controlPeriod _)) fun _ => .refl _)
  | supportCheckResult dt =>
    refine keptBy_of_keeps rfl rfl ?_
    split
    · exact keeps_completeCheck _ _
    · exact .refl _
  | claimTimerExpiry dt =>
    exact keptBy_of_keeps rfl rfl (keeps_ite (fun h => keeps_expireClaim _ h.2) fun _ => .refl _)
  | unloadTimerExpiry dt =>
    refine keptBy_of_keeps rfl rfl (keeps_ite (fun h => ?_) fun _ => .refl _)
    exact (keeps_recordEvent _ .unloadStuck 0#8).trans (keeps_cancelUnload _ (by
      rw [(recordEvent_keeps _ _ _).1]; exact h.2))
  | footholdTimerExpiry dt =>
    exact keptBy_of_keeps rfl rfl (keeps_ite (fun _ => keeps_expireFoothold _) fun _ => .refl _)
  | loadTimerExpiry dt =>
    exact keptBy_of_keeps rfl rfl (keeps_ite (fun h => keeps_expireLoad _ h.2) fun _ => .refl _)
  | slipTimerExpiry dt => exact keptBy_of_keeps rfl rfl (keeps_ite (fun _ => keeps_expireSlip _) fun _ => .refl _)
  | epochTick dt => exact keptBy_of_keeps rfl rfl (keeps_ite (fun _ => keeps_tickEpoch _) fun _ => .refl _)
  | footLinkIdle dt => exact keptBy_of_keeps rfl rfl (keeps_ite (fun _ => quiet) fun _ => .refl _)
  | driveLinkIdle dt => exact keptBy_of_keeps rfl rfl (keeps_ite (fun _ => quiet) fun _ => .refl _)

end Sys2Proof.Keeping
end

section
/-! The invariants of every step, from what every command keeps. -/

-- Elaborated in order: elaborated at once, the many proofs here take more threads than the check has memory for.
set_option Elab.async false

namespace Sys2Proof.Keeping
open Sys2Proof Sys2Proof.Machine Sys2Proof.Laws Sys2Proof.QueueRules

/-- A rule that a full reset brings about, that does not speak of the time or the waiting commands, and that every other
command keeps, is kept by every step. -/
theorem step_keeps {I : State → Prop} (reset : ∀ n r p, I { State.resetWith n r with pending := p })
    (loose : ∀ s us p, I s → I { timed s us with pending := p }) (kept : ∀ {s t}, Safe s t → I s → I t) (s t : State)
    (hs : I s) (h : step s = .next t) : I t := by
  unfold step at h
  split at h
  · exact Host.Outcome.next.inj h ▸ hs
  next c rest hq =>
    obtain ⟨u, hu, keep⟩ := exec_keptBy c { s with pending := rest }
    obtain rfl := Host.Outcome.next.inj (hu.symm.trans h)
    cases hc : dtOf c with
    | none =>
      cases c with
      | fullReset n r => exact Host.Outcome.next.inj h ▸ reset n r rest
      | _ => nomatch hc
    | some dt =>
      exact kept (keep dt hc).1 (kept (keeps_elapse _ dt).toSafe (loose s _ rest hs))

section Reset
variable (n : Fin 8) (r : Fin 4) (p : List Instr)

/-- The state after full reset, with the commands that wait. -/
def fresh : State := { State.resetWith n r with pending := p }

theorem fresh_record (m : Fin 8) : (fresh n r p).record m = none := by
  simp [State.record, fresh, State.resetWith, PeerTable.reset]

theorem fresh_legOf (m : Fin 8) : (fresh n r p).legOf m = none := by
  rw [State.legOf, fresh_record]; rfl

theorem fresh_bounded : BuffersBounded (fresh n r p) :=
  ⟨Nat.zero_le 8, Nat.zero_le 16, Nat.zero_le 54⟩

theorem fresh_sensing : SensingInRange (fresh n r p) := by
  simp [SensingInRange, outInRange, fresh, State.resetWith, FootSense.reset, Axis.reset]

theorem fresh_clash : ClashFromSources (fresh n r p) := by
  simp [ClashFromSources, fresh, State.resetWith, FaultUnit.reset]

theorem fresh_distinct : PositionsDistinct (fresh n r p) :=
  ⟨fresh_record n r p _, fun _ => fresh_record n r p, fun m l h => (by rw [fresh_legOf] at h; cases h),
    fun m _ l _ _ h => (by rw [fresh_legOf] at h; cases h)⟩

theorem fresh_ordered : QueueOrdered (fresh n r p) :=
  ⟨List.Pairwise.nil, nofun, fun _ _ => Nat.zero_le 1, fun _ => Nat.zero_le 1⟩

theorem fresh_lock : LockHeld (fresh n r p) := ⟨rfl, Nat.zero_le 1, fun _ => nofun⟩

theorem fresh_lift : LiftOnlyInClaim (fresh n r p) := ⟨Nat.zero_le 1, nofun, fun _ => nofun⟩

end Reset

end Sys2Proof.Keeping

namespace Sys2Proof.StepKeeps
open Sys2Proof Sys2Proof.Machine Sys2Proof.Laws Sys2Proof.Keeping

/-- Settles O5: the bounds of the buffers and the ranges of the sensing numbers, command by command. -/
theorem boundsKept : Obligations.BoundsKept :=
  ⟨step_keeps fresh_bounded (fun _ _ _ => id) fun h => h.bounded,
    step_keeps fresh_sensing (fun _ _ _ => id) fun h => h.sensing⟩

/-- Settles O6: HOLD under a class-A flag, CLASH by its sources, φ at β in CLAIM, command by command. -/
theorem holdAndClaimKept : Obligations.HoldAndClaimKept :=
  ⟨step_keeps (fun _ _ _ _ => nofun) (fun _ _ _ => id) fun h => h.held,
    step_keeps fresh_clash (fun _ _ _ => id) fun h => h.clash,
    step_keeps (fun _ _ _ => nofun) (fun _ _ _ => id) fun h => h.beta⟩

/-- Settles O7: what is stored under a leg position has been tested against all the others (R51). -/
theorem positionsDistinctKept : Obligations.PositionsDistinctKept :=
  step_keeps fresh_distinct (fun _ _ _ => id) fun h => h.distinct

/-- Settles O8: every placement keeps the claim order and the limited kinds (R140, R141), and every record is offered (R159). -/
theorem queueOrderedKept : Obligations.QueueOrderedKept :=
  ⟨step_keeps fresh_ordered (fun _ _ _ => id) fun h => h.ordered,
    step_keeps (fun _ _ _ h => absurd rfl h) (fun _ _ _ => id) fun h => h.ring⟩

/-- Settles O9: one frame is locked while the node sends, and a leg that leaves CLAIM takes its Lift Notice back. -/
theorem liftHeldOnlyInClaim : Obligations.LiftHeldOnlyInClaim :=
  ⟨step_keeps fresh_lock (fun _ _ _ => id) fun h => h.lock, fun s t hs h =>
    (step_keeps (I := fun s => LockHeld s ∧ LiftOnlyInClaim s) (fun n r p => ⟨fresh_lock n r p, fresh_lift n r p⟩)
      (fun _ _ _ => id) (fun h hs => ⟨h.lock hs.1, h.lift hs⟩) s t hs h).2⟩

/-- Settles O10: every Setpoint is built from a point clamped to the box, which settling leaves sane. -/
theorem setpointInBoxKept : Obligations.SetpointInBoxKept :=
  step_keeps (fun _ _ _ h => absurd rfl h) (fun _ _ _ => id) fun h => h.box

/-- Settles O1: the step's own equations. -/
theorem stepRunsTheFrontCommand : Obligations.StepRunsTheFrontCommand :=
  ⟨fun c rest s h => by rw [step, h], fun s h => by rw [step, h]⟩

/-- Settles O2: what every command keeps, and the passing of its time. -/
theorem everyCommandAnswers : Obligations.EveryCommandAnswers := by
  intro c s
  obtain ⟨t, ht, kept⟩ := exec_keptBy c s
  refine ⟨t, ht, ?_, fun dt hdt => ?_⟩
  · cases hc : dtOf c with
    | none =>
      cases c with
      | fullReset n r => exact Host.Outcome.next.inj ht ▸ rfl
      | _ => nomatch hc
    | some dt => exact (kept dt hc).1.pending.trans (keeps_elapse s dt).pending
  · obtain ⟨safe, -⟩ := kept dt hdt
    exact ⟨safe.us.trans (keeps_elapse s dt).us, safe.station.trans (keeps_elapse s dt).station,
      safe.rate.trans (keeps_elapse s dt).rate⟩

/-- Settles O3: the one state that a full reset answers, block by block. -/
theorem fullResetValues : Obligations.FullResetValues := by
  intro n r s
  have words (i : Fin 54) : SetupBlock.reset.words[i] = 0#16 := by simp [SetupBlock.reset]
  have lines (k : Fin 16) : Axis.reset.line[k] = 0#16 := by simp [Axis.reset]
  have faults (i : Fin 17) : FaultUnit.reset.flags[i] = false ∧ FaultUnit.reset.conds[i] = false := by
    simp [FaultUnit.reset]
  have sensing := fun k => And.intro (lines k) (And.intro (lines k) (lines k))
  refine ⟨_, rfl, rfl, ⟨rfl, rfl, rfl⟩, ⟨rfl, rfl, rfl, rfl, rfl, rfl, rfl, rfl, rfl, rfl⟩, ⟨words, ?_⟩,
    ⟨fresh_record n r s.pending, ?_⟩, ⟨sensing, ?_⟩, ?_, ?_, ?_, ⟨rfl, rfl⟩, faults, ?_⟩
  · exact ⟨rfl, rfl, rfl, rfl, rfl, rfl⟩
  · exact ⟨rfl, rfl, rfl, rfl, rfl⟩
  · exact ⟨rfl, rfl, rfl, rfl, rfl, rfl, rfl, rfl, rfl, rfl, rfl, rfl, rfl, rfl, rfl, rfl, rfl, rfl, rfl, rfl, rfl, rfl, rfl⟩
  · exact ⟨rfl, rfl, rfl, rfl, rfl, rfl, rfl, rfl, rfl, rfl, rfl, rfl, rfl, rfl, rfl, rfl, rfl, rfl, rfl, rfl, rfl, rfl, rfl, rfl⟩
  · exact ⟨rfl, rfl, rfl, rfl, rfl, rfl⟩
  · exact ⟨rfl, rfl, rfl, rfl, rfl, rfl, rfl, rfl, rfl, rfl, rfl, rfl, rfl, rfl, rfl, rfl, rfl, rfl, rfl, rfl, rfl⟩
  · exact ⟨rfl, rfl, rfl, rfl, rfl, rfl, rfl⟩

/-- Settles O4: State.reset is a fresh state under the straps of Config. -/
theorem resetMeetsInvariants : Obligations.ResetMeetsInvariants :=
  ⟨fresh_bounded _ _ [], fresh_sensing _ _ [], fun _ => nofun, fresh_clash _ _ [], fresh_distinct _ _ [],
    fresh_ordered _ _ [], fun h => absurd rfl h, fresh_lock _ _ [], fresh_lift _ _ [], nofun, fun h => absurd rfl h⟩

end Sys2Proof.StepKeeps
end

section
/-! How each command moves the leg state and the step count. -/

-- Elaborated in order: elaborated at once, the many proofs here take more threads than the check has memory for.
set_option Elab.async false

namespace Sys2Proof.LegMoves
open Sys2Proof Sys2Proof.Machine Sys2Proof.Laws Sys2Proof.QueueRules Sys2Proof.Keeping

/-! ## Moves of the leg -/

/-- The leg and its step count stay, but that a claim may be given up (R106, R107). -/
def Still (s t : State) : Prop :=
  t.pe.steps = s.pe.steps ∧ (t.pe.leg = s.pe.leg ∨ (s.pe.leg = .claim ∧ t.pe.leg = .stance))

/-- A class-A fault may besides take a walking leg to HOLD (R152). -/
def Yields (s t : State) : Prop :=
  t.pe.steps = s.pe.steps ∧
    (t.pe.leg = s.pe.leg ∨ (s.pe.leg = .claim ∧ t.pe.leg = .stance) ∨ (s.pe.leg.walking = true ∧ t.pe.leg = .hold))

/-- A leg that is touching down enters LOAD, which counts the step (R83, R101). -/
def Lands (s t : State) : Prop :=
  (s.pe.leg = .swing ∨ s.pe.leg = .search) ∧ t.pe.leg = .load ∧ t.pe.steps = s.pe.steps + 1#8

/-- A leg that is unloading or loading comes to stand (R92, R102). -/
def Stands (s t : State) : Prop :=
  (s.pe.leg = .unload ∨ s.pe.leg = .load) ∧ t.pe.leg = .stance ∧ t.pe.steps = s.pe.steps

/-- The moves that the outside, or the foot, can bring about at any command after setup. -/
def Acts (s t : State) : Prop := Yields s t ∨ Lands s t ∨ Stands s t

section Rules
variable {s t u : State}

theorem Still.of (hs : t.pe.steps = s.pe.steps) (hl : t.pe.leg = s.pe.leg) : Still s t := ⟨hs, .inl hl⟩

theorem Still.of_pe (h : t.pe = s.pe) : Still s t := .of (by rw [h]) (by rw [h])

theorem same (hs : t.pe.steps = s.pe.steps := by rfl) (hl : t.pe.leg = s.pe.leg := by rfl) : Still s t := .of hs hl

theorem Still.refl (s : State) : Still s s := .of rfl rfl

theorem Still.trans (h : Still s t) (h' : Still t u) : Still s u := by
  obtain ⟨hs, hl⟩ := h
  obtain ⟨hs', hl'⟩ := h'
  refine ⟨hs'.trans hs, ?_⟩
  obtain hl | ⟨hl, hl₂⟩ := hl
  · rwa [← hl]
  · obtain hl' | ⟨hl', -⟩ := hl'
    · exact .inr ⟨hl, hl'.trans hl₂⟩
    · rw [hl₂] at hl'; cases hl'

theorem Still.leg (h : Still s t) (hs : s.pe.leg ≠ .claim) : t.pe.leg = s.pe.leg :=
  h.2.resolve_right fun e => hs e.1

theorem Still.yields (h : Still s t) : Yields s t := ⟨h.1, h.2.imp_right .inl⟩

theorem Yields.trans (h : Yields s t) (h' : Yields t u) : Yields s u := by
  obtain ⟨hs, hl⟩ := h
  obtain ⟨hs', hl'⟩ := h'
  refine ⟨hs'.trans hs, ?_⟩
  obtain hl | ⟨hl, hl₂⟩ | ⟨hl, hl₂⟩ := hl
  · rwa [← hl]
  · obtain hl' | ⟨hl', -⟩ | ⟨-, hl'⟩ := hl'
    · exact .inr (.inl ⟨hl, hl'.trans hl₂⟩)
    · rw [hl₂] at hl'; cases hl'
    · exact .inr (.inr ⟨by rw [hl]; rfl, hl'⟩)
  · obtain hl' | ⟨hl', -⟩ | ⟨-, hl'⟩ := hl'
    · exact .inr (.inr ⟨hl, hl'.trans hl₂⟩)
    · rw [hl₂] at hl'; cases hl'
    · exact .inr (.inr ⟨hl, hl'⟩)

theorem Still.acts (h : Still s t) : Acts s t := .inl h.yields

/-- What a leg does after it has given up its claim, or gone to HOLD, is part of the same move. -/
theorem Yields.trans_acts (h : Yields s t) (h' : Acts t u) : Acts s u := by
  obtain h' | h' | h' := h'
  · exact .inl (h.trans h')
  · obtain ⟨hl, hu, hs⟩ := h'
    have hst : t.pe.leg = s.pe.leg := by
      obtain ⟨-, e | ⟨-, e⟩ | ⟨-, e⟩⟩ := h
      · exact e
      · rw [e] at hl; exact absurd hl (by decide)
      · rw [e] at hl; exact absurd hl (by decide)
    exact .inr (.inl ⟨hst ▸ hl, hu, by rw [hs, h.1]⟩)
  · obtain ⟨hl, hu, hs⟩ := h'
    have hst : t.pe.leg = s.pe.leg := by
      obtain ⟨-, e | ⟨-, e⟩ | ⟨-, e⟩⟩ := h
      · exact e
      · rw [e] at hl; exact absurd hl (by decide)
      · rw [e] at hl; exact absurd hl (by decide)
    exact .inr (.inr ⟨hst ▸ hl, hu, by rw [hs, h.1]⟩)

theorem Still.trans_acts (h : Still s t) (h' : Acts t u) : Acts s u := h.yields.trans_acts h'

/-- A leg that has landed or come to stand holds no claim. -/
theorem Acts.trans_still (h : Acts s t) (h' : Still t u) : Acts s u := by
  obtain h | ⟨hl, ht, hs⟩ | ⟨hl, ht, hs⟩ := h
  · exact .inl (h.trans h'.yields)
  · exact .inr (.inl ⟨hl, (h'.leg (by rw [ht]; nofun)).trans ht, h'.1.trans hs⟩)
  · exact .inr (.inr ⟨hl, (h'.leg (by rw [ht]; nofun)).trans ht, h'.1.trans hs⟩)

theorem acts_ite {p : Prop} [Decidable p] (ht : p → Acts s t) (hu : ¬ p → Acts s u) : Acts s (if p then t else u) := by
  split
  next h => exact ht h
  next h => exact hu h

theorem still_ite {p : Prop} [Decidable p] (ht : p → Still s t) (hu : ¬ p → Still s u) : Still s (if p then t else u) := by
  split
  next h => exact ht h
  next h => exact hu h

end Rules

/-! ## The Transmit Queue and the Fault Unit -/

theorem still_claimFailed (s : State) : Still s (claimFailed s) := by
  unfold claimFailed
  split
  next h => exact ⟨rfl, .inr ⟨h, rfl⟩⟩
  · exact .refl s

theorem still_tellLost (s : State) (f : TxFrame) : Still s (tellLost s f) :=
  still_ite (fun _ => still_claimFailed s) fun _ => still_ite (fun _ => same) fun _ => .refl s

theorem still_placeFrame (s : State) (f : TxFrame) : Still s (placeFrame s f) := by
  unfold placeFrame
  split
  · exact same
  · exact Still.trans same (still_tellLost _ _)

theorem still_handNotice (s : State) (n : Notice) : Still s (handNotice s n) := still_placeFrame s _

theorem recordEvent_pe (s : State) (e : EventKind) (d : Byte) : (recordEvent s e d).pe = s.pe :=
  (recordEvent_keeps s e d).1

theorem still_recordEvent (s : State) (e : EventKind) (d : Byte) : Still s (recordEvent s e d) :=
  .of_pe (recordEvent_pe s e d)

theorem still_placeAlarm (s : State) (c d : Byte) : Still s (placeAlarm s c d) := still_placeFrame s _

theorem yields_directHold (s : State) : Yields s (directHold s) := by
  unfold directHold
  split
  next h =>
    have walking : s.pe.leg.walking = true := by simp_all
    split <;> exact ⟨rfl, .inr (.inr ⟨walking, rfl⟩)⟩
  · exact (Still.refl s).yields

theorem yields_classAConsequence (s : State) (c : FaultCode) : Yields s (classAConsequence s c) := by
  unfold classAConsequence
  split
  · exact ((still_placeAlarm s _ _).yields.trans (yields_directHold _)).trans (still_recordEvent _ _ _).yields
  · exact (Still.refl s).yields

theorem still_recordUnless (s : State) (c : Bool) (e : EventKind) (d : Byte) :
    Still s (if c then s else recordEvent s e d) := still_ite (fun _ => .refl s) fun _ => still_recordEvent s e d

theorem still_reportEvents (b s : State) (r : Report) : Still s (reportEvents b s r) := by
  cases r with
  | peerSilent st => exact still_recordEvent s _ _
  | stationClash k _ => exact (still_recordUnless s _ _ _).trans (still_recordUnless _ _ _ _)
  | positionClash st _ => exact (still_recordUnless s _ _ _).trans (still_recordUnless _ _ _ _)
  | plain c => exact still_recordUnless s _ _ _
  | filterLimit _ => exact still_recordUnless s _ _ _
  | workspaceClamp _ => exact still_recordUnless s _ _ _
  | overlap _ => exact still_recordUnless s _ _ _
  | driveFault _ => exact still_recordUnless s _ _ _

theorem yields_reportFault (s : State) (r : Report) : Yields s (reportFault s r) := by
  have reported : Still s (reportEvents s (latchFlag (raiseCondition s r) r.fault) r) :=
    Still.trans (.of_pe (by rw [(latchFlag_frame _ _).2.2.2.2.2.1]; rfl)) (still_reportEvents _ _ _)
  unfold reportFault
  split
  · exact reported.yields.trans (yields_classAConsequence _ _)
  · exact reported.yields

theorem still_reportFault (s : State) (r : Report) (h : r.fault.classA = false := by rfl) : Still s (reportFault s r) :=
  .of_pe (reportFault_pe s r h)

theorem yields_reportOccurrence (s : State) (r : Report) : Yields s (reportOccurrence s r) :=
  (yields_reportFault s r).trans (Still.yields same)

/-! ## The Peer Table -/

theorem yields_positionClash (s : State) (src : Fin 8) (p : LegPos) : Yields s (positionClash s src p) := by
  have reported : Yields s (if s.pt.clashWatch.isNone then reportFault s (.positionClash src p) else s) := by
    split
    · exact yields_reportFault s _
    · exact (Still.refl s).yields
  exact reported.trans (Still.yields same)

theorem silenceEnd_pe (s : State) (r : Role) : (silenceEnd s r).pe = s.pe := by
  unfold silenceEnd
  split
  · split <;> rfl
  · split <;> rfl
  · split <;> rfl
  · rfl

theorem storePart_pe (s : State) (src : Fin 8) (g : Bool) (p : Part) (r : Role) : (storePart s src g p r).pe = s.pe :=
  silenceEnd_pe _ r

theorem yields_storeBody (s : State) (src : Fin 8) (f : RxFrame) : Yields s (storeBody s src f) := by
  have tested (t : State) (b : BodyPart) : Yields t (tiltTest t b) := by
    unfold tiltTest
    split
    · split
      · exact (Still.refl t).yields
      · exact Yields.trans (Still.yields same) (yields_reportFault _ _)
    · split
      · exact (Still.yields same)
      · exact (Still.refl t).yields
  exact (Still.of_pe (storePart_pe s src _ _ _)).yields.trans (tested _ _)

theorem still_storeIntent (s : State) (src : Fin 8) (f : RxFrame) : Still s (storeIntent s src f) := by
  have stored := Still.of_pe (storePart_pe s src false (.mission (decodeIntent f)) .mission)
  exact still_ite (fun _ => stored.trans (still_recordEvent _ _ _)) fun _ => stored

/-! ## The Phase Engine -/

theorem still_changePoint (s : State) : Still s (changePoint s) := by
  have h := judgeRole_pe s .mission
  exact .of (by simp only [changePoint, h]) (by simp only [changePoint, h])

theorem still_recordTurn (s : State) : Still s (recordTurn s) := by
  unfold recordTurn
  split
  · exact same
  next p _ =>
    have h := judgeAt_pe s p
    exact (Still.of_pe h).trans same

theorem still_fillTurn (s : State) : Still s (fillTurn s) :=
  still_ite (fun _ => still_recordTurn s) fun _ => .refl s

theorem still_giveUpClaim (s : State) (h : s.pe.leg = .claim) : Still s (giveUpClaim s) := ⟨rfl, .inr ⟨h, rfl⟩⟩

theorem stands_cancelUnload (s : State) (h : s.pe.leg = .unload) : Stands s (cancelUnload s) := by
  unfold cancelUnload
  have handed := still_handNotice { s with
      pe := ({ s.pe.enter .stance with phi := s.beta, unloadT := none }).withWait .claimLost
      tu := { s.tu with lowering := true } } .withdraw
  exact ⟨.inl h, handed.leg nofun, handed.1⟩

theorem lands_enterLoad {s : State} (h : s.pe.leg = .swing ∨ s.pe.leg = .search) : Lands s (enterLoad s) := by
  unfold enterLoad
  dsimp only
  have handed := still_handNotice (endFault { s with pe := ({ s.pe.enter .load with
    steps := s.pe.steps + 1#8, phi := 0#16, footholdT := none, stubRise := false, watchArmed := false
    replacing := false, loadT := msTimer s.loadMs, loadPending := false }).withWait .none } .weakFoothold) .touchdown
  exact ⟨h, handed.leg nofun, handed.1⟩

theorem stands_enterStance (s : State) (notice : Bool) (h : s.pe.leg = .load) : Stands s (enterStance s notice) := by
  unfold enterStance
  dsimp only
  have turned := (still_changePoint { s with pe := ({ s.pe.enter .stance with loadT := none }).withWait .none }).trans
    (still_recordTurn _)
  have stance := turned.leg nofun
  split
  · have handed := still_handNotice (recordTurn (changePoint
      { s with pe := ({ s.pe.enter .stance with loadT := none }).withWait .none })) .loaded
    exact ⟨.inr h, (handed.leg (by rw [stance]; nofun)).trans stance, handed.1.trans turned.1⟩
  · exact ⟨.inr h, stance, turned.1⟩

theorem still_lateLoaded (s : State) : Still s (lateLoaded s) := by
  have handed : Still s (if s.pe.leg = .stance then handNotice s .loaded else s) :=
    still_ite (fun _ => still_handNotice s _) fun _ => .refl s
  exact handed.trans same

theorem yields_exhaustSearch (s : State) : Yields s (exhaustSearch s) := by
  unfold exhaustSearch
  dsimp only
  split
  · exact (Still.trans same (still_recordEvent _ _ _)).yields
  · exact Yields.trans (Still.yields same) (yields_reportOccurrence _ _)

theorem acts_swingContact {s : State} (h : s.pe.leg = .swing) : Acts s (swingContact s) :=
  acts_ite (fun _ => (Still.acts same)) fun _ => .inr (.inl (lands_enterLoad (.inl h)))

theorem acts_classChange (s : State) (old new : Contact) : Acts s (classChange s old new) := by
  have late : Still s (if s.pe.loadPending && new == .loaded then lateLoaded s else s) :=
    still_ite (fun _ => still_lateLoaded s) fun _ => .refl s
  unfold classChange
  dsimp only
  generalize (if s.pe.loadPending && new == .loaded then lateLoaded s else s) = t at late ⊢
  have kept (h : s.pe.leg ≠ .claim) : t.pe.leg = s.pe.leg := late.leg h
  split
  next h =>
    have ht : t.pe.leg = .swing := (kept (by rw [h]; nofun)).trans h
    exact late.trans_acts (acts_ite (fun _ => (Still.acts same)) fun _ =>
      acts_ite (fun _ => Still.trans_acts same (acts_swingContact ht)) fun _ => (Still.refl t).acts)
  next h =>
    have ht : t.pe.leg = .search := (kept (by rw [h]; nofun)).trans h
    exact late.trans_acts (acts_ite (fun _ => (Still.refl t).acts) fun _ =>
      acts_ite (fun _ => (Still.acts same)) fun _ =>
      acts_ite (fun _ => .inr (.inl (lands_enterLoad (.inr ht)))) fun _ => (Still.refl t).acts)
  next h =>
    have ht : t.pe.leg = .load := (kept (by rw [h]; nofun)).trans h
    exact late.trans_acts (acts_ite (fun _ => .inr (.inr (stands_enterStance t true ht))) fun _ => (Still.refl t).acts)
  · exact late.trans_acts (Still.of_pe (holdContact_frame t new).2.2.2.2.2.1).acts
  · exact late.acts

theorem still_slipStart (s : State) : Still s (slipStart s) :=
  still_ite (fun _ => (still_handNotice s .slip).trans same) fun _ => .refl s

theorem still_endSlipPersist (s : State) : Still s (endSlipPersist s) :=
  still_ite (fun _ => same) fun _ => .refl s

theorem still_slipEnd (s : State) : Still s (slipEnd s) :=
  still_ite (fun _ => Still.trans same (still_endSlipPersist _)) fun _ =>
    still_ite (fun _ => ((still_handNotice s .slipEnd).trans same).trans (still_endSlipPersist _)) fun _ => .refl s

/-! ## The Foot Sense Unit -/

theorem enterSample_pe (s : State) (x y z : Half) : (enterSample s x y z).pe = s.pe := by
  unfold enterSample judgeLimit
  dsimp only
  split
  · split
    · rfl
    · exact reportFault_pe _ _ rfl
  · split <;> rfl

theorem acts_setContact (s : State) (new : Contact) : Acts s (setContact s new) :=
  acts_ite (fun _ => (Still.refl s).acts) fun _ => Still.trans_acts same (acts_classChange _ _ _)

theorem still_leaveSlip (s : State) : Still s (leaveSlip s) := Still.trans same (still_slipEnd _)

theorem still_judgeSlip (s : State) : Still s (judgeSlip s) := by
  have moved {f : FootSense} : Still s { s with fsu := f } := same
  refine still_ite (fun _ => still_ite (fun _ => still_leaveSlip s) fun _ => moved) fun _ =>
    still_ite (fun _ => still_ite (fun _ => moved) fun _ => still_ite (fun _ => still_leaveSlip s) fun _ => moved) fun _ =>
    still_ite (fun _ => still_ite (fun _ => moved.trans (still_slipStart _)) fun _ => moved) fun _ => moved

theorem still_degrade (s : State) (c : Cause) : Still s (degrade s c) := by
  refine still_ite (fun _ => same) fun _ => ?_
  have slipped : Still s (if s.fsu.slipping then
      leaveSlip { s with fsu := { s.fsu.addCause c with degraded := true } }
      else { s with fsu := { s.fsu.addCause c with degraded := true, slipRun := 0, okRun := 0 } }) :=
    still_ite (fun _ => Still.trans same (still_leaveSlip _)) fun _ => same
  exact slipped.trans (Still.trans same (still_recordEvent _ _ _))

theorem still_judgeStuck (s : State) : Still s (judgeStuck s) :=
  still_ite (fun _ => (Still.trans same (still_reportFault _ (.plain .forceStuck))).trans (still_degrade _ _)) fun _ => .refl s

theorem still_recoveryStep (s : State) (x y z : Half) : Still s (recoveryStep s x y z) := by
  have restored : Still s (restoreContact s x y z) :=
    (Still.trans same (Still.of_pe (enterSample_pe _ x y z))).trans (still_recordEvent _ _ _)
  unfold recoveryStep
  dsimp only
  refine still_ite (fun _ => still_ite (fun _ => ?_) fun _ => same) fun _ => .refl s
  exact still_ite (fun _ => restored) fun _ => same

theorem acts_judgeSample (s : State) : Acts s (judgeSample s) :=
  acts_ite (fun _ => (acts_setContact s _).trans_still (still_judgeSlip _)) fun _ => (Still.refl s).acts

theorem acts_takeSample (s : State) (x y z : Half) : Acts s (takeSample s x y z) := by
  have entered : Still s (enterSample s x y z) := .of_pe (enterSample_pe s x y z)
  have watched (t : State) : Still t (stuckStep (restartWatch t) z) :=
    .of_pe ((stuckStep_frame _ z).2.2.2.2.1.trans (restartWatch_frame t).2.2.2.2.1)
  have judged := ((entered.trans (watched _)).trans (still_judgeStuck _)).trans (still_recoveryStep _ x y z)
  exact (judged.trans_acts (acts_judgeSample _)).trans_still same

theorem still_loseLink (s : State) : Still s (loseLink s) := by
  have lost : Still s (if s.fsu.linkCond then { s with fsu := { s.fsu with watch := none } } else
      degrade (reportFault { s with fsu := { s.fsu with watch := none, linkCond := true } } (.plain .footLinkLost)) .link) :=
    still_ite (fun _ => same) fun _ =>
      (Still.trans same (still_reportFault _ (.plain .footLinkLost))).trans (still_degrade _ _)
  exact lost.trans same

theorem acts_degradedJudge (s : State) (z w : Int) (p : Bool) : Acts s (degradedJudge s z w p) :=
  acts_ite (fun _ => acts_ite (fun _ => Still.trans_acts same (acts_setContact _ _)) fun _ =>
    acts_ite (fun _ => acts_setContact s _) fun _ => (Still.refl s).acts) fun _ => (Still.refl s).acts

/-! ## The control period -/

/-- At a control period a leg besides lifts off, or begins to search at a swing end (R93, R97). -/
def Periodic (s t : State) : Prop :=
  Acts s t ∨ (t.pe.steps = s.pe.steps ∧
    ((s.pe.leg = .unload ∧ t.pe.leg = .swing) ∨ (s.pe.leg = .swing ∧ t.pe.leg = .search)))

theorem Acts.periodic {s t : State} (h : Acts s t) : Periodic s t := .inl h

theorem still_requestCheck (s : State) : Still s (requestCheck s) := by
  have h : (judgeRole (judgeLegs s) .body).pe = s.pe := (judgeRole_pe _ _).trans (judgeLegs_pe s)
  exact .of (by simp only [requestCheck, h]) (by simp only [requestCheck, h])

theorem still_decideStance (s : State) : Still s (decideStance s) := by
  have changed : Still s (if s.pe.applied.gait = .stand then changePoint s else s) :=
    still_ite (fun _ => still_changePoint s) fun _ => .refl s
  refine (changed.trans (still_fillTurn _)).trans (still_ite (fun _ => .refl _) fun _ => ?_)
  generalize fillTurn _ = t
  have lifted := liftConditions_pe t
  split
  next e => rw [e] at lifted; exact (Still.of_pe lifted).trans same
  next e => rw [e] at lifted; exact (Still.of_pe lifted).trans (still_requestCheck _)

theorem enterSwing_leg (s : State) : (enterSwing s).pe.leg = .swing ∧ (enterSwing s).pe.steps = s.pe.steps :=
  ⟨rfl, by show (judgeRole s .mission).pe.steps = s.pe.steps; rw [judgeRole_pe]⟩

theorem periodic_decideUnload (s : State) (h : s.pe.leg = .unload) : Periodic s (decideUnload s) := by
  unfold decideUnload
  split
  · exact .inr ⟨(enterSwing_leg s).2, .inl ⟨h, (enterSwing_leg s).1⟩⟩
  · split
    · exact (Still.refl s).acts.periodic
    · have tested := nearbyTests_pe s
      refine Acts.periodic (acts_ite (fun _ => ((Still.of_pe tested).trans (still_requestCheck _)).acts) fun _ => ?_)
      exact (Still.of_pe tested).trans_acts (.inr (.inr (stands_cancelUnload _ (by rw [tested, h]))))

/-- A decision moves the leg from UNLOAD or LOAD alone, and from UNLOAD to SWING or STANCE (R79). -/
theorem periodic_decide2 (s : State) : Periodic s (decide2 s) ∧
    (s.pe.leg = .swing ∨ s.pe.leg = .search → decide2 s = s) := by
  unfold decide2
  split
  next h => exact ⟨(still_decideStance s).acts.periodic, fun e => by rw [h] at e; exact absurd e (by decide)⟩
  next h => exact ⟨periodic_decideUnload s h, fun e => by rw [h] at e; exact absurd e (by decide)⟩
  next h =>
    exact ⟨Acts.periodic (acts_ite (fun _ => .inr (.inr (stands_enterStance s true h))) fun _ => (Still.refl s).acts),
      fun e => by rw [h] at e; exact absurd e (by decide)⟩
  next h =>
    exact ⟨(Still.of_pe (decideHold_frame s).2.2.2.2.2.1).acts.periodic,
      fun e => by rw [h] at e; exact absurd e (by decide)⟩
  · exact ⟨(Still.refl s).acts.periodic, fun _ => rfl⟩

theorem motion_pe (s : State) (b : LegState) : (motion s b).1.pe = s.pe := by
  unfold motion
  split
  · simp only [moveStanding, judgeRole_pe, judgeLegs_pe]
  · simp only [moveStanding, judgeRole_pe, judgeLegs_pe]
  · simp only [moveStanding, judgeRole_pe, judgeLegs_pe]
  · exact (moveSwing_frame s b).2.2.2.2.2.1
  · exact (moveSearch_frame s).2.2.2.2.2.1
  · rfl
  · exact (moveHold_frame s).2.2.2.2.2.1
  · rfl
  · rfl

/-- A swing has no end at the expiry that began it (R131). -/
theorem motion_end_before {s : State} {before : LegState} {m : MotionEnd} (h : (motion s before).2 = some m)
    (hl : s.pe.leg = .swing) : before = .swing := by
  unfold motion moveSwing at h
  rw [hl] at h
  dsimp only at h
  by_contra hne
  rw [if_pos hne] at h
  cases h

theorem periodic_actOnEnd (s : State) (m : MotionEnd) (h : endsIn m s.pe.leg) : Periodic s (actOnEnd s (some m)) := by
  cases m with
  | swingEnd =>
    have hs : s.pe.leg = .swing := h
    show Periodic s (enterSearch s)
    unfold enterSearch
    dsimp only
    split
    · exact Acts.periodic (.inr (.inl (by
        obtain ⟨-, hl, hst⟩ := lands_enterLoad
          (s := { s with pe := ({ s.pe.enter .search with replacing := false }).withWait .none }) (.inr rfl)
        exact ⟨.inl hs, hl, hst⟩)))
    · split
      · obtain ⟨hst, hl⟩ :=
          yields_exhaustSearch { s with pe := ({ s.pe.enter .search with replacing := false }).withWait .none }
        obtain hl | ⟨hl, -⟩ | ⟨-, hl⟩ := hl
        · exact .inr ⟨hst, .inr ⟨hs, hl⟩⟩
        · cases hl
        · exact Acts.periodic (.inl ⟨hst, .inr (.inr ⟨by rw [hs]; rfl, hl⟩)⟩)
      · exact .inr ⟨rfl, .inr ⟨hs, rfl⟩⟩
  | stubRiseEnd =>
    exact Acts.periodic (acts_ite (fun _ => (Still.acts same)) fun _ => .inr (.inl (lands_enterLoad (.inl h))))
  | searchBottom => exact Acts.periodic (.inl (yields_exhaustSearch s))
  | replaceEnd =>
    exact Acts.periodic (acts_ite (fun _ => Still.trans_acts same (.inr (.inl (lands_enterLoad (.inr h)))))
      fun _ => (Still.acts same))

theorem Periodic.congr {s s' t t' : State} (hs : s'.pe.leg = s.pe.leg ∧ s'.pe.steps = s.pe.steps) (ht : t'.pe = t.pe)
    (h : Periodic s t) : Periodic s' t' := by
  unfold Periodic Acts Yields Lands Stands at *
  rwa [ht, hs.1, hs.2]

theorem periodic_controlPeriod (s : State) : Periodic s (controlPeriod s) := by
  obtain ⟨decided, still⟩ := periodic_decide2 (advancePhase s)
  have sent (t : State) : (sendSetpoint (clampFoot (motion t s.pe.leg).1)).pe = t.pe :=
    (clampFoot_pe _).trans (motion_pe t _)
  unfold controlPeriod
  dsimp only
  cases hm : (motion (decide2 (advancePhase s)) s.pe.leg).2 with
  | none => exact decided.congr ⟨rfl, rfl⟩ (sent _)
  | some m =>
    obtain ⟨hend, -⟩ := motion_end hm
    have hmoving : s.pe.leg = .swing ∨ s.pe.leg = .search := by
      by_cases hs : (decide2 (advancePhase s)).pe.leg = .swing
      · exact .inl (motion_end_before hm hs)
      · have hsearch : (decide2 (advancePhase s)).pe.leg = .search := by
          cases m with
          | swingEnd => exact absurd hend hs
          | stubRiseEnd => exact absurd hend hs
          | searchBottom => exact hend
          | replaceEnd => exact hend
        obtain (⟨-, e | ⟨-, e⟩ | ⟨-, e⟩⟩ | ⟨-, e, -⟩ | ⟨-, e, -⟩) | ⟨-, ⟨-, e⟩ | ⟨e, -⟩⟩ := decided
        · exact .inr (e.symm.trans hsearch)
        · rw [hsearch] at e; cases e
        · rw [hsearch] at e; cases e
        · rw [hsearch] at e; cases e
        · rw [hsearch] at e; cases e
        · rw [hsearch] at e; cases e
        · exact .inl e
    rw [still hmoving] at hend ⊢
    have hpe := sent (advancePhase s)
    have ended := periodic_actOnEnd (sendSetpoint (clampFoot (motion (advancePhase s) s.pe.leg).1)) m (by rwa [hpe])
    exact ended.congr ⟨by rw [hpe]; rfl, by rw [hpe]; rfl⟩ rfl

end Sys2Proof.LegMoves
end

section
/-! The leg moves by the table, the step count at landings, flags and error counters: the rules over all commands. -/

-- Elaborated in order: elaborated at once, the many proofs here take more threads than the check has memory for.
set_option Elab.async false

namespace Sys2Proof.LegMoves
open Sys2Proof Sys2Proof.Machine Sys2Proof.Laws Sys2Proof.QueueRules Sys2Proof.Keeping

/-! ## The receive-side error counters -/

/-- The counters of orders 2 to 7 (R25). -/
def errors (s : State) : Byte × Byte × Byte × Byte × Byte × Byte :=
  (s.sbi.counters.framing, s.sbi.counters.check, s.sbi.counters.truncated, s.sbi.counters.parity, s.sbi.counters.unknown,
    s.sbi.counters.stranger)

/-- At most one error counter has moved. -/
def OneCounted (s t : State) : Prop := errorCountersChanged s.sbi.counters t.sbi.counters ≤ 1

section Counting
variable {s t : State}

theorem errors_of_sbi (h : t.sbi = s.sbi) : errors t = errors s := by rw [errors, h]; rfl

theorem oneCounted_iff (s t : State) : OneCounted s t ↔
    ((errors s).1 != (errors t).1).toNat + ((errors s).2.1 != (errors t).2.1).toNat +
    ((errors s).2.2.1 != (errors t).2.2.1).toNat + ((errors s).2.2.2.1 != (errors t).2.2.2.1).toNat +
    ((errors s).2.2.2.2.1 != (errors t).2.2.2.2.1).toNat + ((errors s).2.2.2.2.2 != (errors t).2.2.2.2.2).toNat ≤ 1 := .rfl

theorem oneCounted_of_errors (h : errors t = errors s) : OneCounted s t := by
  rw [oneCounted_iff, h]; simp

/-- One counter has been written, whichever it is. -/
theorem oneCounted_of_one {u : State} (hu : errors u = errors s)
    (h : t = countFraming u ∨ t = countCheck u ∨ t = countTruncated u ∨ t = countParity u ∨ t = countUnknown u ∨
      t = countStranger u) : OneCounted s t := by
  rw [oneCounted_iff, ← hu]
  obtain rfl | rfl | rfl | rfl | rfl | rfl := h <;>
    simp [errors, countFraming, countCheck, countTruncated, countParity, countUnknown, countStranger, withCounters,
      Bool.toNat_le]

end Counting

/-! ## What a command does with the leg and the counters -/

/-- The moves of the leg state that belong to one command (section 5.1). -/
def Named (c : Instr) (s t : State) : Prop :=
  match c with
  | .fullReset _ _ => t.pe.leg = .setup ∧ t.pe.steps = 0#8
  | .setupFrame _ _ => s.pe.leg = .setup ∧ t.pe.leg = .ready ∧ t.pe.steps = 0#8
  | .start _ _ => s.pe.leg = .ready ∧ t.pe.leg = .stance ∧ t.pe.steps = 0#8
  | .restart _ _ => s.pe.leg ≠ .setup ∧ t.pe.leg = .ready ∧ t.pe.steps = 0#8
  | .resume _ _ =>
    s.pe.leg = .hold ∧ (t.pe.leg = .stance ∨ t.pe.leg = .load ∨ t.pe.leg = .search) ∧ t.pe.steps = s.pe.steps
  | .supportCheckResult _ => s.pe.leg = .stance ∧ t.pe.leg = .claim ∧ t.pe.steps = s.pe.steps
  | .txCompletion _ => s.pe.leg = .claim ∧ t.pe.leg = .unload ∧ t.pe.steps = s.pe.steps
  | .controlPeriodExpiry _ => t.pe.steps = s.pe.steps ∧
      ((s.pe.leg = .unload ∧ t.pe.leg = .swing) ∨ (s.pe.leg = .swing ∧ t.pe.leg = .search))
  | _ => False

/-- Whether a command sets the counters to 0 (R25). -/
def recounts : Instr → Bool
  | .fullReset _ _ | .restart _ _ => true
  | _ => false

/-- From `s` to `t` a command has moved the leg and the counters by their tables. -/
structure Does (c : Instr) (s t : State) : Prop where
  moves  : Acts s t ∨ Named c s t
  counts : recounts c = false → OneCounted s t

theorem Does.of {c : Instr} {s t : State} (hm : Acts s t) (hc : t.sbi = s.sbi := by rfl) : Does c s t :=
  ⟨.inl hm, fun _ => oneCounted_of_errors (errors_of_sbi hc)⟩

theorem Does.refl (c : Instr) (s : State) : Does c s s := .of (Still.refl s).acts

/-- A command that does what it does only under a condition. -/
theorem does_ite {c : Instr} {s t : State} {p : Prop} [Decidable p] (h : p → Does c s t) :
    Does c s (if p then t else s) := by
  split
  next hp => exact h hp
  · exact .refl c s

/-! ## Frames on the stride bus -/

/-- A good frame on the line: not heard, or counted and screened (R13 to R16). -/
theorem receive_cases (s : State) (ok : Bool) (f : RxFrame) (k : FrameKind) (d : State → State) :
    (receive s ok f k d = s ∨ receive s ok f k d = notHeard s 0) ∨
      receive s ok f k d = stationClash (countGood (endReception s 0)) k ∨
      receive s ok f k d = countGood (endReception s 0) ∨
      receive s ok f k d = countStranger (countGood (endReception s 0)) ∨
      ((s.pe.leg = .setup → takenInSetup k = true) ∧ receive s ok f k d = d (countGood (endReception s 0))) := by
  unfold receive
  split
  · exact .inl (.inl rfl)
  · split
    · exact .inl (.inr rfl)
    · refine .inr ?_
      unfold screen
      split
      · exact .inl rfl
      · split
        · split
          next hk => exact .inr (.inr (.inr ⟨fun _ => hk, rfl⟩))
          · exact .inr (.inl rfl)
        next hleg =>
          split
          · exact .inr (.inr (.inr ⟨fun h => absurd h hleg, rfl⟩))
          · exact .inr (.inr (.inl rfl))

theorem stationClash_moves (s : State) (k : FrameKind) :
    Yields s (stationClash s k) ∧ errors (stationClash s k) = errors s := by
  have reported := yields_reportFault s (.stationClash k s.time.us)
  refine ⟨reported.trans (Still.yields same), ?_⟩
  simp only [errors, stationClash, reportFault_frame]

section Frames
variable {c : Instr} {s : State} {ok : Bool} {f : RxFrame} {k : FrameKind} {d : State → State}

/-- What is done with the frame is done from the state that holds the same leg and the same error counts. -/
theorem does_receive (h : ∀ u, (u.pe.leg = .setup → takenInSetup k = true) → u.pe = s.pe → errors u = errors s →
    Does c s (d u)) : Does c s (receive s ok f k d) := by
  have counted : errors (countGood (endReception s 0)) = errors s := rfl
  obtain (e | e) | e | e | e | ⟨hk, e⟩ := receive_cases s ok f k d
  · rw [e]; exact .refl c s
  · rw [e]; exact ⟨.inl (Still.acts same), fun _ => oneCounted_of_errors rfl⟩
  · rw [e]
    have heard : Still s (countGood (endReception s 0)) := same
    obtain ⟨clash, hsbi⟩ := stationClash_moves (countGood (endReception s 0)) k
    exact ⟨.inl (.inl (heard.yields.trans clash)), fun _ => oneCounted_of_errors (hsbi.trans counted)⟩
  · rw [e]; exact ⟨.inl (Still.acts same), fun _ => oneCounted_of_errors rfl⟩
  · rw [e]
    exact ⟨.inl (Still.acts same), fun _ => oneCounted_of_one counted (by simp)⟩
  · rw [e]; exact h _ hk rfl counted

/-- A block takes the frame and moves no counter. -/
theorem does_receive_acts (h : ∀ u, (u.pe.leg = .setup → takenInSetup k = true) → Acts u (d u))
    (hs : ∀ u, (d u).sbi = u.sbi) : Does c s (receive s ok f k d) :=
  does_receive fun u hu hpe herr =>
    ⟨.inl ((Still.of_pe hpe).trans_acts (h u hu)), fun _ => oneCounted_of_errors ((errors_of_sbi (hs u)).trans herr)⟩

variable {code : Nat}

/-- A Control frame (R17). -/
theorem does_receiveControl (h : ∀ u, u.pe.leg ≠ .setup → u.pe = s.pe → errors u = errors s → Does c s (d u)) :
    Does c s (receiveControl s f code d) := by
  refine does_receive fun u hu hpe herr => ?_
  have unknown : Does c s (countUnknown u) :=
    ⟨.inl ((Still.of_pe hpe).acts), fun _ => oneCounted_of_one herr (by simp)⟩
  have ignored : Does c s u := ⟨.inl (Still.of_pe hpe).acts, fun _ => oneCounted_of_errors herr⟩
  unfold command
  dsimp only
  split
  · split
    · exact h u (fun e => absurd (hu e) (by decide)) hpe herr
    · exact unknown
  · split
    · exact unknown
    · exact ignored

theorem does_control_acts (h : ∀ u, Acts u (d u)) (hs : ∀ u, (d u).sbi = u.sbi) :
    Does c s (receiveControl s f code d) :=
  does_receiveControl fun u _ hpe herr =>
    ⟨.inl ((Still.of_pe hpe).trans_acts (h u)), fun _ => oneCounted_of_errors ((errors_of_sbi (hs u)).trans herr)⟩

/-- A failing frame moves at most the counter of its cause (R8, R9, R10, R12). -/
theorem does_failReception {n : Nat} {count : State → State}
    (h : ∀ u, (count u).pe = u.pe ∧ (errors u = errors s → OneCounted s (count u))) :
    Does c s (failReception s ok n count) := by
  unfold failReception
  split
  · exact .refl c s
  · split
    · exact ⟨.inl (Still.acts same), fun _ => oneCounted_of_errors rfl⟩
    · obtain ⟨hpe, hcount⟩ := h (endReception s n)
      exact ⟨.inl (Still.of_pe hpe).acts, fun _ => hcount rfl⟩

theorem does_failUncounted {n : Nat} {count : State → State}
    (h : ∀ u, (count u).pe = u.pe ∧ (errors u = errors s → OneCounted s (count u))) :
    Does c s (failUncounted s ok n count) := by
  refine does_failReception fun u => ?_
  split
  · exact ⟨rfl, oneCounted_of_errors⟩
  · exact h u

end Frames

/-! ## The blocks' parts -/

theorem acts_takeAlarm (s : State) (src : Fin 8) (cause : Byte) : Acts s (takeAlarm s src cause) := by
  unfold takeAlarm
  dsimp only
  split
  · exact Still.acts same
  · have recorded := still_recordEvent s (.alarmFrom src) cause
    split
    · exact .inl ((recorded.yields.trans (yields_directHold _)).trans (still_recordEvent _ _ _).yields)
    · exact recorded.acts

theorem storeNotice_pe (s : State) (src : Fin 8) (f : RxFrame) : (storeNotice s src f).pe = s.pe := storePart_pe s _ _ _ _

theorem acts_hearNotice (s : State) (src : Fin 8) (f : RxFrame) : Acts s (hearNotice s src f) := by
  unfold hearNotice
  split
  · refine acts_ite (fun _ => acts_ite (fun h => (still_giveUpClaim s h).acts) fun _ => ?_) fun _ => (Still.refl s).acts
    exact acts_ite (fun _ => (still_placeFrame s _).acts) fun _ => (Still.refl s).acts
  · refine acts_ite (fun _ => ?_) fun _ => (Still.refl s).acts
    unfold namedInConflict
    split
    next h => exact (still_giveUpClaim s h).acts
    next h => exact .inr (.inr (stands_cancelUnload s h))
    · exact .inl (yields_reportOccurrence s _)
    · exact .inl (yields_reportOccurrence s _)
    · exact .inl (yields_reportOccurrence s _)
    · exact (still_recordEvent s _ _).acts
    · exact (still_recordEvent s _ _).acts
    · exact (Still.refl s).acts
    · exact (Still.refl s).acts

theorem acts_takeNotice (s : State) (src : Fin 8) (f : RxFrame) : Acts s (takeNotice s src f) :=
  acts_ite (fun _ => .inl (yields_positionClash s src _)) fun _ =>
    (Still.of_pe (storeNotice_pe s src f)).trans_acts (acts_hearNotice _ src f)

theorem acts_takeLegReport (s : State) (src : Fin 8) (f : RxFrame) : Acts s (takeLegReport s src f) :=
  acts_ite (fun _ => .inl (yields_positionClash s src _)) fun _ => (Still.of_pe (storePart_pe s src _ _ _)).acts

theorem still_placeDiagnostic (s : State) (n : Nat) : Still s (placeDiagnostic s n) := by
  have read : Still s (if n = 3 then judgeRole s .mission else s) :=
    still_ite (fun _ => .of_pe (judgeRole_pe s _)) fun _ => .refl s
  exact read.trans (still_placeFrame _ _)

theorem still_examineSchedule (s : State) : Still s (examineSchedule s) := by
  have report : Still s (if legReportDue s then placeLegReport s else s) :=
    still_ite (fun _ => still_placeFrame s _) fun _ => .refl s
  exact report.trans (still_ite (fun _ => still_placeFrame _ _) fun _ => .refl _)

/-- Setup completion leaves the node in READY, no step taken (R35, R78). -/
theorem completeSetup_moves (s : State) :
    (completeSetup s).pe.leg = .ready ∧ (completeSetup s).pe.steps = 0#8 ∧ (completeSetup s).sbi = s.sbi := by
  have clamped (t : State) : (reportClamped t).sbi = t.sbi := by
    unfold reportClamped
    split
    · rfl
    · exact (reportOccurrence_frame _ _).2.1
  have placed (t : State) : (placeDiagnostic (examineSchedule (releaseNode t)) 0).pe.leg = .ready ∧
      (placeDiagnostic (examineSchedule (releaseNode t)) 0).pe.steps = 0#8 ∧
      (placeDiagnostic (examineSchedule (releaseNode t)) 0).sbi = t.sbi := by
    have still := (still_examineSchedule (releaseNode t)).trans (still_placeDiagnostic _ 0)
    exact ⟨still.leg nofun, still.1, (placeDiagnostic_frame _ _).2.1.trans (examineSchedule_frame _).2.1⟩
  obtain ⟨hl, hst, hs⟩ := placed (reportClamped (settledState s))
  rw [completeSetup_eq]
  refine ⟨hl, hst, hs.trans ((clamped _).trans ?_)⟩
  simp only [settledState]

/-- A Setup frame completes the setup, or moves no leg (R29, R35). -/
theorem does_handSetup {s u : State} (dt : Nat) (f : RxFrame) (hpe : u.pe = s.pe) (herr : errors u = errors s) :
    Does (.setupFrame dt f) s (handSetup u f) := by
  have stays {t : State} (h : t.pe = u.pe) (hs : t.sbi = u.sbi) : Does (.setupFrame dt f) s t :=
    ⟨.inl (Still.of_pe (h.trans hpe)).acts, fun _ => oneCounted_of_errors ((errors_of_sbi hs).trans herr)⟩
  unfold handSetup
  split
  · split
    next hleg =>
      unfold takeSetup
      split
      next h =>
        dsimp only
        split
        · split
          · obtain ⟨hl, hst, hs⟩ := completeSetup_moves { u with setup := { u.setup with
                words := u.setup.words.set (f.b 1).toNat (halfAt f.payload 2) h, ptr := u.setup.ptr + 1 } }
            exact ⟨.inr ⟨hpe ▸ hleg, hl, hst⟩, fun _ => oneCounted_of_errors ((errors_of_sbi hs).trans herr)⟩
          · exact stays rfl rfl
        · split
          · exact stays rfl rfl
          · exact stays rfl rfl
      · exact stays rfl rfl
    · exact stays rfl rfl
  · exact stays rfl rfl

theorem does_takeStart {s u : State} (dt : Nat) (f : RxFrame) (hpe : u.pe = s.pe) (herr : errors u = errors s) :
    Does (.start dt f) s (takeStart u) := by
  have stays {t : State} (h : Still u t) (hs : t.sbi = u.sbi) : Does (.start dt f) s t :=
    ⟨.inl ((Still.of_pe hpe).trans h).acts, fun _ => oneCounted_of_errors ((errors_of_sbi hs).trans herr)⟩
  have recorded (e : EventKind) (d : Byte) : Does (.start dt f) s (recordEvent u e d) :=
    stays (still_recordEvent u e d) (recordEvent_frame u e d).2.1
  unfold takeStart
  split
  next hleg =>
    split
    · exact recorded _ _
    · split
      · refine ⟨.inr ⟨hpe ▸ hleg, ?_, ?_⟩, fun _ => oneCounted_of_errors (Eq.trans (errors_of_sbi ?_) herr)⟩
        · exact (still_changePoint _).leg nofun
        · exact (still_changePoint _).1
        · exact (changePoint_frame _).2.1
      · exact recorded _ _
  · exact stays (.refl u) rfl

theorem restart_moves {s u : State} (dt : Nat) (f : RxFrame) (hpe : u.pe = s.pe) (hleg : u.pe.leg ≠ .setup) :
    Does (.restart dt f) s (restartNode u) := by
  unfold restartNode
  rw [if_neg hleg]
  exact ⟨.inr ⟨hpe ▸ hleg, (still_examineSchedule _).leg nofun, (still_examineSchedule _).1⟩, nofun⟩

theorem does_takeResume {s u : State} (dt : Nat) (f : RxFrame) (hpe : u.pe = s.pe) (herr : errors u = errors s) :
    Does (.resume dt f) s (takeResume u) := by
  have counts {t : State} (hs : t.sbi = u.sbi) : recounts (.resume dt f) = false → OneCounted s t :=
    fun _ => oneCounted_of_errors ((errors_of_sbi hs).trans herr)
  unfold takeResume
  split
  next hleg =>
    split
    · refine ⟨.inl ((Still.of_pe hpe).trans ((still_placeAlarm u _ _).trans (still_recordEvent _ _ _))).acts, counts ?_⟩
      exact (recordEvent_frame _ _ _).2.1.trans (placeAlarm_frame _ _ _).2.1
    · obtain ⟨held, -, hsbi⟩ := recordHeldAlarms_pe u
      have left : Still u (leaveHold (recordHeldAlarms u)) :=
        ((Still.of_pe held).trans (Still.trans same (still_changePoint
          { recordHeldAlarms u with pe := { (recordHeldAlarms u).pe with phi := 0#16 } }))).trans same
      have entered (t : State) : ((resumeEnter t).pe.leg = .stance ∨ (resumeEnter t).pe.leg = .load ∨
          (resumeEnter t).pe.leg = .search) ∧ (resumeEnter t).pe.steps = t.pe.steps ∧ (resumeEnter t).sbi = t.sbi := by
        unfold resumeEnter
        split
        · exact ⟨.inl rfl, rfl, rfl⟩
        · exact ⟨.inr (.inl rfl), rfl, rfl⟩
        · exact ⟨.inr (.inr rfl), rfl, rfl⟩
      obtain ⟨hl, hst, hsb⟩ := entered (leaveHold (recordHeldAlarms u))
      unfold resumeWalk
      dsimp only
      have hrec := recordEvent_pe (resumeEnter (leaveHold (recordHeldAlarms u))) .resumeTaken
        (BitVec.ofNat 8 (resumeEnter (leaveHold (recordHeldAlarms u))).pe.leg.code)
      refine ⟨.inr ⟨hpe ▸ hleg, by rw [hrec]; exact hl, by rw [hrec, hst, left.1, hpe]⟩, counts ?_⟩
      rw [(recordEvent_frame _ _ _).2.1, hsb]
      exact (changePoint_frame _).2.1.trans hsbi
  · exact ⟨.inl (Still.of_pe hpe).acts, counts rfl⟩

theorem still_takeClear (s : State) : Still s (takeClear s) := Still.trans same (still_recordEvent (dropFlags s) _ _)

theorem acts_driveReply (s : State) (d : DriveState) (q : P3) : Acts s (driveReply s d q) := by
  have ended (t : State) : Still t (endDriveFault t) := still_ite (fun _ => same) fun _ => .refl t
  have raised (t : State) (off : Bool) : Yields t (raiseDriveFault t off) := by
    unfold raiseDriveFault
    split
    · exact (Still.refl t).yields
    · exact Yields.trans (Still.yields same) (yields_reportFault _ _)
  have measured (b : Bool) : Still s (setDriveLimit (takeMeasured s q) b) := same
  have started (t : State) : Still t (setStarted t) := same
  have handed (t : State) : Acts t (handStatus t q) := acts_degradedJudge t _ _ _
  cases d with
  | ok => exact (((measured false).trans (ended _)).trans (started _)).trans_acts (handed _)
  | limit => exact (((measured true).trans (ended _)).trans (started _)).trans_acts (handed _)
  | fault => exact ((measured false).yields.trans (raised _ _)).trans_acts (handed _)
  | off =>
    have limited : Still s (setDriveLimit s false) := same
    exact acts_ite (fun _ => .inl (limited.yields.trans (raised _ _))) fun _ => limited.acts

theorem driveReply_sbi (s : State) (d : DriveState) (q : P3) : (driveReply s d q).sbi = s.sbi := by
  have ended (t : State) : (endDriveFault t).sbi = t.sbi := by unfold endDriveFault; split <;> rfl
  have raised (t : State) (off : Bool) : (raiseDriveFault t off).sbi = t.sbi := by
    unfold raiseDriveFault; split
    · rfl
    · exact (reportFault_frame _ _).2.1
  have handed (t : State) : (handStatus t q).sbi = t.sbi := (degradedJudge_frame t _ _ _).2.1
  cases d with
  | ok => exact (handed _).trans (ended (setDriveLimit (takeMeasured s q) false))
  | limit => exact (handed _).trans (ended (setDriveLimit (takeMeasured s q) true))
  | fault => exact (handed _).trans (raised (setDriveLimit (takeMeasured s q) false) false)
  | off =>
    show State.sbi (if _ then _ else _) = _
    split
    · exact raised (setDriveLimit s false) true
    · rfl

/-- A leg that passes its check enters CLAIM, where its Lift Notice is not lost at once (R87, R89). -/
theorem passLift_moves {s : State} (hleg : s.pe.leg = .stance) : Acts s (passLift s) ∨
    (s.pe.leg = .stance ∧ (passLift s).pe.leg = .claim ∧ (passLift s).pe.steps = s.pe.steps) := by
  unfold passLift
  have tested := liftConditions_pe s
  split
  next u _ e =>
    rw [e] at tested
    exact .inl ((Still.of_pe tested).trans same).acts
  next u e =>
    rw [e] at tested
    have tested : u.pe = s.pe := tested
    obtain ⟨hst, hl⟩ := still_handNotice { u with
      pe := ({ u.pe.enter .claim with claimT := some claimUs, timeoutPassed := false }).withWait .none } .lift
    have hst : (enterClaim u).pe.steps = s.pe.steps := hst.trans (by rw [← tested]; rfl)
    obtain hl | ⟨-, hl⟩ := hl
    · exact .inr ⟨hleg, hl, hst⟩
    · exact .inl (.inl ⟨hst, .inl (hl.trans hleg.symm)⟩)

/-- The support check's result moves a leg from STANCE to CLAIM or from UNLOAD to STANCE (R87, R91). -/
theorem completeCheck_moves (s : State) (sn : Snapshot) : Acts s (completeCheck s sn) ∨
    (s.pe.leg = .stance ∧ (completeCheck s sn).pe.leg = .claim ∧ (completeCheck s sn).pe.steps = s.pe.steps) := by
  have acted (t : State) (r : CheckResult) : Acts t (actOnResult t r) ∨
      (t.pe.leg = .stance ∧ (actOnResult t r).pe.leg = .claim ∧ (actOnResult t r).pe.steps = t.pe.steps) := by
    unfold actOnResult
    split
    · dsimp only
      split
      next hleg =>
        split
        · exact passLift_moves (s := { t with pe := { t.pe with checkPending := false } }) hleg
        · exact .inl (Still.acts same)
      next hleg =>
        exact .inl (acts_ite (fun _ => Still.acts same) fun _ => .inr (.inr (stands_cancelUnload _ hleg)))
      · exact .inl (Still.acts same)
    · exact .inl (Still.refl t).acts
  exact acted _ _

theorem acts_expireClaim (s : State) (h : s.pe.leg = .claim) : Acts s (expireClaim s) :=
  acts_ite (fun _ => Still.acts same) fun _ => Still.trans_acts same (still_giveUpClaim _ h).acts

theorem acts_expireFoothold (s : State) : Acts s (expireFoothold s) := by
  unfold expireFoothold
  dsimp only
  split
  · exact Still.acts same
  · exact acts_ite (fun _ => Still.acts same) fun _ => .inl (Yields.trans (Still.yields same) (yields_exhaustSearch _))
  · exact Still.acts same

theorem acts_expireLoad (s : State) (h : s.pe.leg = .load) : Acts s (expireLoad s) := by
  have reported := still_reportFault (enterStance s false) (.plain .weakFoothold)
  exact (Acts.trans_still (.inr (.inr (stands_enterStance s false h))) reported).trans_still same

theorem still_offerEvent (s : State) : Still s (offerEvent s) := .of_pe (offerEvent_pe s)

/-- A frame of the node ends: a claim is given up, or one completed is taken up (R20 to R22). -/
theorem acts_loseArbitration (s : State) (f : TxFrame) : Acts s (loseArbitration s f) := by
  refine acts_ite (fun h => ?_) fun _ => Still.acts same
  have lost : Still s (countArbLost (endAttempt (withFrames s (unlockAll s.txq.frames)))) := same
  exact (lost.trans (still_giveUpClaim _ h.2.1)).acts

theorem followAborted_pe (s : State) : (followAborted s).pe = s.pe := (followAborted_frame s).2.2.2.2.1

theorem still_abortFrame (s : State) (f : TxFrame) : Still s (abortFrame s f) := by
  have told (t : State) : Still t (tellAborted t f) := by
    unfold tellAborted
    split
    · exact (still_claimFailed t).trans (still_offerEvent _)
    · exact still_offerEvent t
  unfold abortFrame
  dsimp only
  exact Still.trans (Still.of_pe (by rw [followAborted_pe]; rfl)) (told _)

theorem completeFrame_moves (s : State) (f : TxFrame) : Acts s (completeFrame s f) ∨
    (s.pe.leg = .claim ∧ (completeFrame s f).pe.leg = .unload ∧ (completeFrame s f).pe.steps = s.pe.steps) := by
  have offered (t : State) : Still t (offerEvent { t with flt := { t.flt with retry := false } }) :=
    Still.trans same (still_offerEvent _)
  have told (t : State) : Acts t (tellCompleted t f) ∨
      (t.pe.leg = .claim ∧ (tellCompleted t f).pe.leg = .unload ∧ (tellCompleted t f).pe.steps = t.pe.steps) := by
    unfold tellCompleted
    dsimp only
    split
    · unfold claimCompleted
      split
      next h => exact .inr ⟨h, (offered (enterUnload t)).leg nofun, (offered (enterUnload t)).1⟩
      · exact .inl (offered t).acts
    · split
      · exact .inl (Still.trans same (offered _)).acts
      · exact .inl (offered t).acts
  exact told (countSent (endReception (endAttempt (withFrames s (dropLocked s.txq.frames))) 0))

theorem errors_abortFrame (s : State) (f : TxFrame) : errors (abortFrame s f) = errors s := by
  have told (t : State) : (tellAborted t f).sbi = t.sbi := by
    unfold tellAborted
    split
    · exact (offerEvent_frame _).2.1.trans (claimFailed_frame t).2.1
    · exact (offerEvent_frame t).2.1
  unfold abortFrame
  dsimp only
  rw [errors_of_sbi (told _), errors, (followAborted_frame _).2.2.2.2.2.2.2.2.2.2.2.2]
  rfl

theorem errors_completeFrame (s : State) (f : TxFrame) : errors (completeFrame s f) = errors s := by
  have told (t : State) : (tellCompleted t f).sbi = t.sbi := by
    unfold tellCompleted
    dsimp only
    rw [(offerEvent_frame _).2.1]
    split
    · exact (claimCompleted_frame t).2.1
    · split <;> rfl
  unfold completeFrame
  rw [errors_of_sbi (told _)]
  rfl

theorem takeAlarm_sbi (s : State) (src : Fin 8) (cause : Byte) : (takeAlarm s src cause).sbi = s.sbi := by
  unfold takeAlarm
  dsimp only
  split
  · rfl
  · split
    · exact (recordEvent_frame _ _ _).2.1.trans ((directHold_frame _).2.1.trans (recordEvent_frame _ _ _).2.1)
    · exact (recordEvent_frame _ _ _).2.1

theorem takeNotice_sbi (s : State) (src : Fin 8) (f : RxFrame) : (takeNotice s src f).sbi = s.sbi := by
  have heard (t : State) : (hearNotice t src f).sbi = t.sbi := by
    unfold hearNotice
    split
    · unfold hearLift
      split
      · split
        · exact (giveUpClaim_frame t).2.1
        · split
          · exact (placeFrame_frame t _).2.1
          · rfl
      · rfl
    · split
      · unfold namedInConflict
        split
        · exact (giveUpClaim_frame t).2.1
        · exact (cancelUnload_frame t).2.1
        · exact (reportOccurrence_frame t _).2.1
        · exact (reportOccurrence_frame t _).2.1
        · exact (reportOccurrence_frame t _).2.1
        · exact (recordEvent_frame t _ _).2.1
        · exact (recordEvent_frame t _ _).2.1
        · rfl
        · rfl
      · rfl
  unfold takeNotice
  split
  · exact (positionClash_frame s _ _).2.1
  · exact (heard _).trans (storeNotice_frame s _ _).2.1

/-! ## Every command -/

/-- Each command moves the leg, the step count and the error counters by their tables. -/
theorem exec_does (c : Instr) (s t : State) (h : exec c s = .next t) : ∃ u : State, u.pe.leg = s.pe.leg ∧
    u.pe.steps = s.pe.steps ∧ errors u = errors s ∧ Does c u t := by
  have key {dt : Nat} {t' : State} (h' : exec c s = .next t') (hd : Does c (elapse s dt) t') :
      ∃ u : State, u.pe.leg = s.pe.leg ∧ u.pe.steps = s.pe.steps ∧ errors u = errors s ∧ Does c u t := by
    obtain rfl := Host.Outcome.next.inj (h'.symm.trans h)
    refine ⟨elapse s dt, rfl, rfl, ?_, hd⟩
    simp only [errors, elapse_apply, sbi_after_apply]
  cases c with
  | fullReset n r =>
    obtain rfl := Host.Outcome.next.inj h
    exact ⟨s, rfl, rfl, rfl, .inr ⟨rfl, rfl⟩, nofun⟩
  | interframeSpace dt =>
    refine key rfl (does_ite fun _ => ?_)
    unfold enterIdle recoverLine
    split
    · refine ⟨.inl (Still.trans same (still_recordEvent _ _ _)).acts, fun _ => oneCounted_of_errors ?_⟩
      rw [errors, (recordEvent_frame _ _ _).2.1]; rfl
    · exact ⟨.inl (Still.acts same), fun _ => oneCounted_of_errors rfl⟩
  | txBegin dt deferred =>
    refine key rfl (does_ite fun _ => ?_)
    split
    · exact .refl _ _
    · split
      · exact ⟨.inl (Still.acts same), fun _ => oneCounted_of_errors rfl⟩
      · exact ⟨.inl (Still.acts same), fun _ => oneCounted_of_errors rfl⟩
  | arbitrationLoss dt bit =>
    refine key (dt := dt) rfl ?_
    split
    · refine does_ite fun _ => ⟨.inl (acts_loseArbitration _ _), fun _ => oneCounted_of_errors ?_⟩
      unfold loseArbitration
      dsimp only
      split
      · rw [errors, (giveUpClaim_frame _).2.1]; rfl
      · rfl
    · exact .refl _ _
  | txAbort dt level =>
    refine key (dt := dt) rfl ?_
    split
    · refine does_ite fun _ => ⟨.inl (still_abortFrame _ _).acts, fun _ => oneCounted_of_errors ?_⟩
      exact errors_abortFrame _ _
    · exact .refl _ _
  | txCompletion dt =>
    refine key (dt := dt) rfl ?_
    split
    · exact does_ite fun _ => ⟨completeFrame_moves _ _, fun _ => oneCounted_of_errors (errors_completeFrame _ _)⟩
    · exact .refl _ _
  | framingError dt got field =>
    refine key (dt := dt) rfl ?_
    split
    · have glitch := passGlitch_frame (elapse s dt) got
      refine ⟨.inl (Still.of_pe glitch.2.2.2.2.1).acts, fun _ => oneCounted_of_errors ?_⟩
      rw [errors, glitch.2.2.2.2.2.2.2.2.2.2.2]; rfl
    · exact does_failUncounted fun u => ⟨rfl, fun e => oneCounted_of_one e (by simp)⟩
  | truncation dt got => exact key rfl (does_failUncounted fun u => ⟨rfl, fun e => oneCounted_of_one e (by simp)⟩)
  | claimParityError dt claim =>
    exact key rfl (does_failReception fun u => ⟨rfl, fun e => oneCounted_of_one e (by simp)⟩)
  | unknownKind dt claim =>
    exact key rfl (does_failReception fun u => ⟨rfl, fun e => oneCounted_of_one e (by simp)⟩)
  | checkError dt frame => exact key rfl (does_failUncounted fun u => ⟨rfl, fun e => oneCounted_of_one e (by simp)⟩)
  | stationClash dt frame =>
    refine key (dt := dt) rfl ?_
    split
    · exact does_receive_acts (fun u _ => (Still.refl u).acts) fun _ => rfl
    · exact .refl _ _
  | sbiClashWatchExpiry dt =>
    exact key rfl (does_ite fun _ => ⟨.inl (Still.acts same), fun _ => oneCounted_of_errors rfl⟩)
  | busStuck dt =>
    refine key (dt := dt) rfl ?_
    split
    · exact .refl _ _
    · refine ⟨.inl (.inl (Yields.trans (Still.yields same) (yields_reportFault _ _))), fun _ => oneCounted_of_errors ?_⟩
      rw [errors, (reportFault_frame _ _).2.1]; rfl
  | setupFrame dt frame => exact key rfl (does_receive fun u _ hpe herr => does_handSetup dt frame hpe herr)
  | alarmReceived dt frame =>
    refine key rfl (does_receive_acts (fun u _ => acts_takeAlarm u _ _) fun u => ?_)
    exact takeAlarm_sbi u _ _
  | phaseNoticeReceived dt frame =>
    exact key rfl (does_receive_acts (fun u _ => acts_takeNotice u _ _) fun u => takeNotice_sbi u _ _)
  | legReportReceived dt frame =>
    refine key rfl (does_receive_acts (fun u _ => acts_takeLegReport u _ _) fun u => ?_)
    unfold takeLegReport
    split
    · exact (positionClash_frame _ _ _).2.1
    · exact (storeLegReport_frame _ _ _).2.1
  | bodyReportReceived dt frame =>
    exact key rfl (does_receive_acts (fun u _ => .inl (yields_storeBody u _ _)) fun u => (storeBody_frame u _ _).2.1)
  | intentReceived dt frame =>
    exact key rfl (does_receive_acts (fun u _ => (still_storeIntent u _ _).acts) fun u => (storeIntent_frame u _ _).2.1)
  | infoFrameReceived dt frame =>
    refine key (dt := dt) rfl ?_
    split
    · exact does_receive_acts (fun u _ => (Still.refl u).acts) fun _ => rfl
    · exact .refl _ _
  | start dt frame => exact key rfl (does_receiveControl fun u _ hpe herr => does_takeStart dt frame hpe herr)
  | restart dt frame => exact key rfl (does_receiveControl fun u hleg hpe _ => restart_moves dt frame hpe hleg)
  | resume dt frame => exact key rfl (does_receiveControl fun u _ hpe herr => does_takeResume dt frame hpe herr)
  | clearFaults dt frame =>
    exact key rfl (does_control_acts (fun u => (still_takeClear u).acts) fun u => (recordEvent_frame _ _ _).2.1)
  | query dt frame =>
    refine key rfl (does_control_acts (fun u => acts_ite (fun _ => (still_placeDiagnostic u _).acts)
      fun _ => (Still.refl u).acts) fun u => ?_)
    unfold takeQuery
    split
    · exact (placeDiagnostic_frame _ _).2.1
    · rfl
  | eventTest dt frame =>
    exact key rfl (does_control_acts (fun u => (still_recordEvent u _ _).acts) fun u => (recordEvent_frame u _ _).2.1)
  | ageingRead dt =>
    refine key rfl (does_ite fun _ => .of (Still.of_pe ?_).acts ?_)
    · exact foldl_keeps judge State.pe judge_pe _ _
    · exact foldl_keeps judge State.sbi (fun t n => (judge_frame t n).2.1) _ _
  | ptClashWatchExpiry dt => exact key rfl (does_ite fun _ => .of (Still.acts same))
  | forceSampleGood dt bytes =>
    refine key rfl (does_ite fun _ => ?_)
    dsimp only
    unfold acceptSample
    split
    · exact .of (Still.acts same)
    · exact .of (Still.trans_acts same (acts_takeSample _ _ _ _)) (takeSample_frame _ _ _ _).2.1
  | forceSampleBad dt ended => exact key rfl (does_ite fun _ => .of (Still.acts same))
  | forceSampleUnfit dt bytes => exact key rfl (does_ite fun _ => .of (Still.acts same))
  | footLinkLost dt =>
    exact key rfl (does_ite fun _ => .of (still_loseLink _).acts (loseLink_frame _).2.1)
  | statusReply dt bytes =>
    refine key rfl (does_ite fun _ => ?_)
    split
    · have closed (u : State) : Still u (closeReply u) ∧ (closeReply u).sbi = u.sbi := by
        unfold closeReply; dsimp only; split
        · exact ⟨same, rfl⟩
        · exact ⟨same, rfl⟩
      obtain ⟨still, hs⟩ := closed (endDriveFrame (elapse s dt))
      have ended : Still (elapse s dt) (endDriveFrame (elapse s dt)) := same
      exact .of ((ended.trans still).trans_acts (acts_driveReply _ _ _)) ((driveReply_sbi _ _ _).trans hs)
    · exact .refl _ _
  | badReply dt ended => exact key rfl (does_ite fun _ => .of (Still.acts same))
  | setpointEnd dt => exact key rfl (does_ite fun _ => .of (Still.acts same))
  | answerWindowClose dt =>
    refine key rfl (does_ite fun _ => ?_)
    unfold missReply
    dsimp only
    split
    · exact .of (.inl (Yields.trans (Still.yields same) (yields_reportFault _ _))) (reportFault_frame _ _).2.1
    · exact .of (Still.acts same)
  | controlPeriodExpiry dt =>
    refine key rfl (does_ite fun _ => ?_)
    have hs := (controlPeriod_frame { elapse s dt with
      pe := { (elapse s dt).pe with period := some controlPeriodUs } }).2.1
    exact ⟨(periodic_controlPeriod _).congr (s := { elapse s dt with
      pe := { (elapse s dt).pe with period := some controlPeriodUs } }) ⟨rfl, rfl⟩ rfl,
      fun _ => oneCounted_of_errors (errors_of_sbi hs)⟩
  | supportCheckResult dt =>
    refine key (dt := dt) rfl ?_
    split
    · exact ⟨completeCheck_moves _ _, fun _ => oneCounted_of_errors (errors_of_sbi (completeCheck_frame _ _).2.1)⟩
    · exact .refl _ _
  | claimTimerExpiry dt =>
    refine key rfl (does_ite fun h => .of (acts_expireClaim _ h.2) ?_)
    unfold expireClaim
    dsimp only
    split
    · rfl
    · exact (giveUpClaim_frame _).2.1
  | unloadTimerExpiry dt =>
    refine key rfl (does_ite fun h => .of ?_ ((cancelUnload_frame _).2.1.trans (recordEvent_frame _ _ _).2.1))
    exact (still_recordEvent _ .unloadStuck 0#8).trans_acts
      (.inr (.inr (stands_cancelUnload _ (by rw [recordEvent_pe]; exact h.2))))
  | footholdTimerExpiry dt =>
    refine key rfl (does_ite fun _ => .of (acts_expireFoothold _) ?_)
    unfold expireFoothold
    dsimp only
    split
    · rfl
    · split
      · rfl
      · exact (exhaustSearch_frame _).2.1
    · rfl
  | loadTimerExpiry dt =>
    refine key rfl (does_ite fun h => .of (acts_expireLoad _ h.2) ?_)
    exact (reportFault_frame _ _).2.1.trans (enterStance_frame _ _).2.1
  | slipTimerExpiry dt =>
    refine key rfl (does_ite fun _ => .of (.inl (Yields.trans (Still.yields same) (yields_reportFault _ _))) ?_)
    exact (reportFault_frame _ _).2.1
  | epochTick dt =>
    refine key rfl (does_ite fun _ => .of (Still.trans same (still_examineSchedule _)).acts ?_)
    exact (examineSchedule_frame _).2.1
  | footLinkIdle dt => exact key rfl (does_ite fun _ => .of (Still.acts same))
  | driveLinkIdle dt => exact key rfl (does_ite fun _ => .of (Still.acts same))

/-! ## The rules over all commands -/

/-- The moves that any command can bring about are rows of the table, and none that belongs to a command (section 5.1). -/
theorem acts_rows {s t : State} (h : Acts s t) (hne : t.pe.leg ≠ s.pe.leg) :
    mayMove s.pe.leg t.pe.leg = true ∧ (s.pe.leg ≠ .setup ∧ s.pe.leg ≠ .ready ∧ s.pe.leg ≠ .hold) ∧
      (t.pe.leg ≠ .ready ∧ t.pe.leg ≠ .claim ∧ t.pe.leg ≠ .unload ∧ t.pe.leg ≠ .swing ∧ t.pe.leg ≠ .search) := by
  obtain ⟨-, e | ⟨hs, ht⟩ | ⟨hs, ht⟩⟩ | ⟨hs | hs, ht, -⟩ | ⟨hs | hs, ht, -⟩ := h
  · exact absurd e hne
  · rw [hs, ht]; decide
  · rw [ht] at hne ⊢
    cases hl : s.pe.leg with
    | setup => rw [hl] at hs; cases hs
    | ready => rw [hl] at hs; cases hs
    | hold => exact absurd hl.symm hne
    | stance => decide
    | claim => decide
    | unload => decide
    | swing => decide
    | search => decide
    | load => decide
  · rw [hs, ht]; decide
  · rw [hs, ht]; decide
  · rw [hs, ht]; decide
  · rw [hs, ht]; decide

/-- Settles O11: any command makes the moves of a touch-down, a stand, a lost claim or a HOLD; the others belong to one. -/
theorem legMovesByTheTable : Obligations.LegMovesByTheTable := by
  intro c s t h hne
  obtain ⟨u, hl, -, -, ⟨hd, -⟩⟩ := exec_does c s t h
  rw [← hl] at hne ⊢
  obtain hd | hd := hd
  · obtain ⟨row, ⟨h1, h2, h3⟩, h4, h5, h6, h7, h8⟩ := acts_rows hd hne
    exact ⟨.inr row, fun e => absurd e h1, fun e => absurd e h2, fun e => absurd e h3, fun e => absurd e h4,
      fun e => absurd e h5, fun e => absurd e h6, fun e => absurd e h7, fun e => absurd e h8⟩
  · cases c with
    | fullReset n r =>
      obtain ⟨ht, -⟩ := hd
      rw [ht] at hne ⊢
      exact ⟨.inl ⟨n, r, rfl⟩, fun e => absurd e.symm hne, fun _ => .inl ⟨n, r, rfl⟩, fun _ => .inl ⟨n, r, rfl⟩, nofun,
        nofun, nofun, nofun, nofun⟩
    | setupFrame dt f =>
      obtain ⟨hs, ht, -⟩ := hd
      rw [hs, ht]
      exact ⟨.inr rfl, fun _ => ⟨dt, f, rfl⟩, nofun, nofun, fun _ => .inl ⟨dt, f, rfl⟩, nofun, nofun, nofun, nofun⟩
    | start dt f =>
      obtain ⟨hs, ht, -⟩ := hd
      rw [hs, ht]
      exact ⟨.inr rfl, nofun, fun _ => .inr ⟨dt, f, rfl⟩, nofun, nofun, nofun, nofun, nofun, nofun⟩
    | restart dt f =>
      obtain ⟨hs, ht, -⟩ := hd
      rw [ht] at hne ⊢
      have row : mayMove u.pe.leg .ready = true := by
        cases hu : u.pe.leg with
        | setup => exact absurd hu hs
        | ready => exact absurd hu.symm hne
        | _ => rfl
      exact ⟨.inr row, fun e => absurd e hs, fun e => absurd e.symm hne, fun _ => .inr (.inl ⟨dt, f, rfl⟩),
        fun _ => .inr ⟨dt, f, rfl⟩, nofun, nofun, nofun, nofun⟩
    | resume dt f =>
      obtain ⟨hs, ht, -⟩ := hd
      rw [hs]
      obtain ht | ht | ht := ht
      · rw [ht]; exact ⟨.inr rfl, nofun, nofun, fun _ => .inr (.inr ⟨dt, f, rfl⟩), nofun, nofun, nofun, nofun, nofun⟩
      · rw [ht]; exact ⟨.inr rfl, nofun, nofun, fun _ => .inr (.inr ⟨dt, f, rfl⟩), nofun, nofun, nofun, nofun, nofun⟩
      · rw [ht]
        exact ⟨.inr rfl, nofun, nofun, fun _ => .inr (.inr ⟨dt, f, rfl⟩), nofun, nofun, nofun, nofun,
          fun _ => .inr ⟨dt, f, rfl⟩⟩
    | supportCheckResult dt =>
      obtain ⟨hs, ht, -⟩ := hd
      rw [hs, ht]
      exact ⟨.inr rfl, nofun, nofun, nofun, nofun, fun _ => ⟨dt, rfl⟩, nofun, nofun, nofun⟩
    | txCompletion dt =>
      obtain ⟨hs, ht, -⟩ := hd
      rw [hs, ht]
      exact ⟨.inr rfl, nofun, nofun, nofun, nofun, nofun, fun _ => ⟨dt, rfl⟩, nofun, nofun⟩
    | controlPeriodExpiry dt =>
      obtain ⟨-, ⟨hs, ht⟩ | ⟨hs, ht⟩⟩ := hd
      · rw [hs, ht]; exact ⟨.inr rfl, nofun, nofun, nofun, nofun, nofun, nofun, fun _ => ⟨dt, rfl⟩, nofun⟩
      · rw [hs, ht]; exact ⟨.inr rfl, nofun, nofun, nofun, nofun, nofun, nofun, nofun, fun _ => .inl ⟨dt, rfl⟩⟩
    | _ => exact hd.elim

/-- A leg counts a step where it lands, and nowhere else (R83). -/
theorem acts_steps {s t : State} (h : Acts s t) :
    ((s.pe.leg = .swing ∨ s.pe.leg = .search) → t.pe.leg = .load → t.pe.steps = s.pe.steps + 1#8) ∧
      (¬ ((s.pe.leg = .swing ∨ s.pe.leg = .search) ∧ t.pe.leg = .load) → t.pe.steps = s.pe.steps) := by
  obtain ⟨hst, e | ⟨hs, ht⟩ | ⟨-, ht⟩⟩ | ⟨hs, ht, hst⟩ | ⟨-, ht, hst⟩ := h
  · refine ⟨fun hs ht => ?_, fun _ => hst⟩
    rw [← e, ht] at hs
    exact absurd hs (by decide)
  · exact ⟨fun _ e => (by rw [ht] at e; cases e), fun _ => hst⟩
  · exact ⟨fun _ e => (by rw [ht] at e; cases e), fun _ => hst⟩
  · exact ⟨fun _ _ => hst, fun hn => absurd ⟨hs, ht⟩ hn⟩
  · exact ⟨fun _ e => (by rw [ht] at e; cases e), fun _ => hst⟩

/-- None of the moves that belong to one command is a landing. -/
theorem named_steps {c : Instr} {s t : State} (h : Named c s t) :
    ¬ ((s.pe.leg = .swing ∨ s.pe.leg = .search) ∧ t.pe.leg = .load) ∧ (t.pe.steps = s.pe.steps ∨
      (t.pe.steps = 0#8 ∧ ((∃ n r, c = .fullReset n r) ∨ (∃ dt f, c = .setupFrame dt f) ∨ (∃ dt f, c = .start dt f) ∨
        ∃ dt f, c = .restart dt f))) := by
  cases c with
  | fullReset n r => exact ⟨fun e => (by rw [h.1] at e; cases e.2), .inr ⟨h.2, .inl ⟨n, r, rfl⟩⟩⟩
  | setupFrame dt f => exact ⟨fun e => (by rw [h.2.1] at e; cases e.2), .inr ⟨h.2.2, .inr (.inl ⟨dt, f, rfl⟩)⟩⟩
  | start dt f => exact ⟨fun e => (by rw [h.2.1] at e; cases e.2), .inr ⟨h.2.2, .inr (.inr (.inl ⟨dt, f, rfl⟩))⟩⟩
  | restart dt f => exact ⟨fun e => (by rw [h.2.1] at e; cases e.2), .inr ⟨h.2.2, .inr (.inr (.inr ⟨dt, f, rfl⟩))⟩⟩
  | resume dt f => exact ⟨fun e => (by rw [h.1] at e; exact absurd e.1 (by decide)), .inl h.2.2⟩
  | supportCheckResult dt => exact ⟨fun e => (by rw [h.2.1] at e; cases e.2), .inl h.2.2⟩
  | txCompletion dt => exact ⟨fun e => (by rw [h.2.1] at e; cases e.2), .inl h.2.2⟩
  | controlPeriodExpiry dt =>
    obtain ⟨hst, ⟨-, ht⟩ | ⟨-, ht⟩⟩ := h
    · exact ⟨fun e => (by rw [ht] at e; cases e.2), .inl hst⟩
    · exact ⟨fun e => (by rw [ht] at e; cases e.2), .inl hst⟩
  | _ => exact h.elim

/-- Settles O12: a leg counts its step where it lands; flags and error counters by what each command keeps. -/
theorem countsAndFlagsKept : Obligations.CountsAndFlagsKept := by
  refine ⟨fun c s t h => ?_, fun c s t i h hi => ?_, fun c s t h => ?_⟩
  · obtain ⟨u, hl, hst, -, ⟨hd, -⟩⟩ := exec_does c s t h
    rw [← hl, ← hst]
    obtain hd | hd := hd
    · obtain ⟨lands, stays⟩ := acts_steps hd
      exact ⟨lands, fun hn => .inl (stays hn)⟩
    · obtain ⟨hn, hs⟩ := named_steps hd
      exact ⟨fun hl ht => absurd ⟨hl, ht⟩ hn, fun _ => hs⟩
  · obtain ⟨u, hu, kept⟩ := exec_keptBy c s
    obtain rfl := Host.Outcome.next.inj (hu.symm.trans h)
    cases hc : clears c with
    | true =>
      cases c with
      | restart dt f => exact .inr (.inr (.inl ⟨dt, f, rfl⟩))
      | clearFaults dt f => exact .inr (.inr (.inr ⟨dt, f, rfl⟩))
      | _ => nomatch hc
    | false =>
      cases hdt : dtOf c with
      | none =>
        cases c with
        | fullReset n r => exact .inr (.inl ⟨n, r, rfl⟩)
        | _ => nomatch hdt
      | some dt => exact .inl (((kept dt hdt).2 hc).flags i hi)
  · obtain ⟨u, -, -, herr, ⟨-, hd⟩⟩ := exec_does c s t h
    cases hc : recounts c with
    | true =>
      cases c with
      | fullReset n r => exact .inl ⟨n, r, rfl⟩
      | restart dt f => exact .inr (.inl ⟨dt, f, rfl⟩)
      | _ => nomatch hc
    | false =>
      have hd := hd hc
      rw [oneCounted_iff, herr] at hd
      exact .inr (.inr hd)

end Sys2Proof.LegMoves
end

section
/-! The Stride Bus Interface: frames that come while the node is busy (R7, R23), the start of an attempt (R19), receptions
that fail (R5, R8 to R12, R21), and the screening of good frames and of Control frames (R13 to R17). -/

-- Elaborated in order: elaborated at once, the many proofs here take more threads than the check has memory for.
set_option Elab.async false

namespace Sys2Proof.BusSide
open Sys2Proof Sys2Proof.Machine Sys2Proof.Laws Sys2Proof.StrideBus Sys2Proof.IntentStorage Sys2Proof.FaultCommands

/-! ## A node that transmits (R22, R23) -/

section Transmitting
variable {s : State} (h : transmitting s = true)
include h

theorem receive_transmitting (ok : Bool) (f : RxFrame) (k : FrameKind) (deliver : State → State) :
    receive s ok f k deliver = s := by simp [receive, h]

theorem failReception_transmitting (ok : Bool) (n : Nat) (count : State → State) : failReception s ok n count = s := by
  simp [failReception, h]

theorem passGlitch_transmitting (got : List Byte) : passGlitch s got = s := by simp [passGlitch, h]

end Transmitting

/-- R23: while the node transmits, a frame command reaches no block. -/
theorem frameCommand_transmitting {c : Instr} {s : State} {dt : Nat} (h : transmitting s = true)
    (hc : frameCommand c = true) (hdt : dtOf c = some dt) : exec c s = .next (elapse s dt) := by
  have he : transmitting (elapse s dt) = true := by simpa using h
  cases c <;> cases hdt
  case setupFrame | alarmReceived | phaseNoticeReceived | legReportReceived | bodyReportReceived | intentReceived | start |
      restart | resume | clearFaults | query | eventTest => exact congrArg _ (receive_transmitting he ..)
  case truncation | claimParityError | unknownKind | checkError => exact congrArg _ (failReception_transmitting he ..)
  case framingError got field =>
    refine congrArg Host.Outcome.next ?_
    split
    · exact passGlitch_transmitting he got
    · exact failReception_transmitting he ..
  case stationClash | infoFrameReceived =>
    refine congrArg Host.Outcome.next ?_
    split
    · exact receive_transmitting he ..
    · rfl
  all_goals cases hc

/-- Settles O15: a node that transmits does not move, and one in WAIT_IDLE is deaf. -/
theorem nothingHeardWhileBusy : Obligations.NothingHeardWhileBusy := by
  intro c s dt hc hdt
  refine ⟨fun htx => frameCommand_transmitting htx hc hdt, fun htx hrx => ?_⟩
  obtain ⟨_, hexec, k, d, rfl⟩ := frameCommand_deaf ⟨htx, hrx⟩ hc hdt
  exact ⟨k, d, hexec⟩

/-! ## The start of an attempt (R19) -/

/-- Time alone neither begins an attempt nor ends one (R18). -/
theorem elapse_tx_eq_idle (s : State) (dt : Nat) : (elapse s dt).sbi.tx = .idle ↔ s.sbi.tx = .idle := by
  show (s.sbi.after dt).tx = .idle ↔ _
  unfold Sbi.after
  split
  next harb => simp only [harb]; split <;> simp
  next hsend => simp [hsend]
  next => rfl

theorem elapse_sbi_idle {s : State} (h : s.sbi.tx = .idle) (dt : Nat) :
    (elapse s dt).sbi = { s.sbi with finishing := s.sbi.finishing - dt } :=
  elapse_sbi_quiet s dt (by simp [transmitting, h])

/-- Settles O18: the guard of TX_BEGIN, and within it a case per queue and start edge. -/
theorem transmitBegins : Obligations.TransmitBegins := by
  refine ⟨fun dt s f rest htx hrx hq => ?_, fun dt d s hno => ?_⟩
  · have hguard : (elapse s dt).sbi.tx = .idle ∧ (elapse s dt).sbi.rx = .idle :=
      ⟨(elapse_tx_eq_idle s dt).2 htx, by simpa using hrx⟩
    have hqueue : (elapse s dt).txq.frames = f :: rest := by simpa using hq
    have hexec : ∀ d, exec (.txBegin dt d) s =
        .next (if d then listen (elapse s dt) else beginFrame (elapse s dt) f) := by
      intro d
      show Host.Outcome.next (if _ then _ else _) = _
      rw [if_pos hguard, hqueue]
    refine ⟨(hexec false).trans (congrArg _ ?_), hexec true⟩
    unfold beginFrame
    rw [elapse_sbi_idle htx, hqueue]
    rfl
  · show Host.Outcome.next (if _ then _ else _) = _
    refine congrArg _ ?_
    split
    next hguard =>
      have hidle : s.sbi.tx = .idle := (elapse_tx_eq_idle s dt).1 hguard.1
      have hlistens : s.sbi.rx = .idle := by simpa using hguard.2
      have hqueue : s.txq.frames = [] := by simpa [hidle, hlistens] using hno
      simp [hqueue]
    next => rfl

/-! ## Receptions that fail (R5, R8 to R12, R21) -/

/-- A failure in a frame that the node has aborted is not counted (R21). -/
theorem failUncounted_heard {s : State} {ok : Bool} (h : Hears s) (dt n : Nat) (count : State → State)
    (hok : ok = true) : failUncounted (elapse s dt) ok n count =
      if s.sbi.rxAborted then unheard s dt n else count (unheard s dt n) := by
  rw [failUncounted, failReception_heard h dt n _ hok, show (elapse s dt).sbi.rxAborted = s.sbi.rxAborted by simp]
  split <;> rfl

/-- A counter that an aborted frame leaves (R21): the state whose counters are chosen is the chosen state. -/
theorem withCounters_ite (u : State) (b : Bool) (c : Counters) :
    { u with sbi := { u.sbi with counters := if b then u.sbi.counters else c } } =
      if b then u else withCounters u c := by
  cases b <;> rfl

theorem glitchField_of_framingEnd {got : List Byte} {field : Samples} (h : framingEnd got field = true) :
    glitchField got field = false := by
  unfold framingEnd at h
  split at h
  next hread => simp [glitchField, hread]
  next => cases h

/-- Two recessive samples of the three of a start bit make the byte field a glitch (R5). -/
theorem readField_glitch {field : Samples} (h : 2 ≤ (([0, 1, 2] : List Nat).filter field.getLsbD).length) :
    readField field = .glitch := by
  have hmajority : ∀ x y z : Bool, 2 ≤ x.toNat + y.toNat + z.toNat → majority x y z = true := by decide
  have hcount : (([0, 1, 2] : List Nat).filter field.getLsbD).length =
      (field.getLsbD 0).toNat + (field.getLsbD 1).toNat + (field.getLsbD 2).toNat := by
    simp only [List.filter_cons, List.filter_nil]
    cases field.getLsbD 0 <;> cases field.getLsbD 1 <;> cases field.getLsbD 2 <;> rfl
  have hstart : fieldBit field 0 = true := hmajority _ _ _ (hcount ▸ h)
  rw [readField, if_pos hstart]

theorem glitchField_of_recessive {got : List Byte} {field : Samples}
    (hrec : 2 ≤ (([0, 1, 2] : List Nat).filter field.getLsbD).length) (hgot : got = [] ∨ partialFrame got = true) :
    glitchField got field = true := by
  rw [glitchField, readField_glitch hrec]
  obtain rfl | hpart := hgot
  · rfl
  · simp [hpart]

/-- Settles O22: each row fails by its own test, and a glitch has a case per place of its edge. -/
theorem receptionFails : Obligations.ReceptionFails := by
  refine ⟨fun dt s hears => ?_, fun dt s got field htx hrec hgot => ?_⟩
  · have hcount : ∀ n, (unheard s dt n).sbi.counters = s.sbi.counters := unheard_counters s dt
    refine ⟨fun got field hend => congrArg Host.Outcome.next ?_, fun got hpart => congrArg Host.Outcome.next ?_,
      fun f hc ha => congrArg Host.Outcome.next ?_, fun b hodd => congrArg Host.Outcome.next ?_⟩
    · rw [if_neg (by simp [glitchField_of_framingEnd hend]), failUncounted_heard hears dt 0 _ hend, ← hcount 0,
        withCounters_ite]
      rfl
    · rw [failUncounted_heard hears dt gapBits _ hpart, ← hcount 3, withCounters_ite]
      rfl
    · rw [failUncounted_heard hears dt 0 _ (by simp [hc, ha]), ← hcount 0, withCounters_ite]
      rfl
    · rw [failReception_heard hears dt 0 _ (by simp [badParity, evenOnes, hodd]), ← hcount 0]
      rfl
  · refine congrArg Host.Outcome.next ?_
    have hquiet : transmitting (elapse s dt) = false := by simpa using htx
    have hrx : (elapse s dt).sbi.rx = s.sbi.rx := by simp
    rw [if_pos (glitchField_of_recessive hrec hgot), passGlitch, hquiet, hrx]
    by_cases hidle : s.sbi.rx = .idle
    · rw [if_pos (.inr hidle), if_pos hidle]
    · rw [if_neg (by simp [hidle]), if_neg hidle]
      split <;> rfl

/-! ## Screening of good frames and of Control frames (R13 to R17) -/

/-- The row of a Control command is received with its own code. -/
theorem exec_controlCommand {dt n : Nat} {f : RxFrame} {c : Instr} (h : controlCommand dt f n = some c) (s : State) :
    (1 ≤ n ∧ n ≤ 6) ∧ ∃ act, exec c s = .next (receiveControl (elapse s dt) f n act) := by
  unfold controlCommand at h
  split at h <;> cases h
  all_goals exact ⟨by omega, _, rfl⟩

/-- A good frame of another station, heard, comes to the screening; an information frame has no owner (R15). -/
theorem exec_screened {s : State} {f : RxFrame} {k : FrameKind} {c : Instr} {dt : Nat} (h : FromPeer s f k)
    (hrow : (k = .alarm ∧ c = .alarmReceived dt f) ∨ (k = .phaseNotice ∧ c = .phaseNoticeReceived dt f) ∨
       (k = .legReport ∧ c = .legReportReceived dt f) ∨ (k = .bodyReport ∧ c = .bodyReportReceived dt f) ∨
       (k = .intent ∧ c = .intentReceived dt f) ∨
       ((k = .footDetail ∨ k = .diagnostic ∨ k = .event) ∧ c = .infoFrameReceived dt f) ∨
       (k = .control ∧ controlCommand dt f (f.b 1).toNat = some c)) :
    ∃ deliver, exec c s = .next (screen (heard s dt) f k deliver) ∧
      (k = .footDetail ∨ k = .diagnostic ∨ k = .event → deliver = id) := by
  have hgood : goodOfKind k f = true := h.2.1
  obtain ⟨rfl, rfl⟩ | ⟨rfl, rfl⟩ | ⟨rfl, rfl⟩ | ⟨rfl, rfl⟩ | ⟨rfl, rfl⟩ | ⟨hk, rfl⟩ | ⟨rfl, hc⟩ := hrow
  iterate 5 exact ⟨_, congrArg _ (receive_fromPeer h dt _), by simp⟩
  · refine ⟨id, congrArg Host.Outcome.next ?_, fun _ => rfl⟩
    have hkind : f.kind = some k := by simpa [goodOfKind] using (Bool.and_eq_true_iff.1 hgood).2
    have hinfo : infoFrame f = goodOfKind k f := by
      have hgoodFrame : f.good = true := (Bool.and_eq_true_iff.1 hgood).1
      obtain rfl | rfl | rfl := hk <;> simp [infoFrame, goodOfKind, hkind, hgoodFrame]
    rw [hkind]
    dsimp only
    rw [hinfo, receive_fromPeer h]
  · obtain ⟨-, act, hexec⟩ := exec_controlCommand hc s
    refine ⟨fun t => command t f (f.b 1).toNat act, hexec.trans (congrArg _ ?_), by simp⟩
    have hrow : controlOf (f.b 1).toNat f = goodOfKind .control f := by simp [controlOf]
    rw [receiveControl, hrow, receive_fromPeer h]

/-- The roles of the senders that each kind is taken from (R15). -/
theorem takenFrom_eq (k : FrameKind) (r : Role) : takenFrom k r =
    match k with
    | .alarm | .footDetail | .diagnostic | .event => r != .absent
    | .phaseNotice | .legReport => r == .leg
    | .bodyReport => r == .body
    | .intent | .control => r == .mission
    | .setup => true := by
  cases k <;> cases r <;> rfl

/-- The screening of a frame from another station, row by row (R15, R16). -/
theorem screen_fromPeer {s : State} {f : RxFrame} (h : f.source ≠ s.sbi.station) (k : FrameKind)
    (deliver : State → State) : screen s f k deliver =
      if s.pe.leg = .setup then (if takenInSetup k then deliver s else s)
      else if takenFrom k (s.role f.source) then deliver s else countStranger s := by
  rw [screen, if_neg h]

/-- Settles O39: the row of R15 and R16 that screens the frame, and for a Control frame the test of R17 that drops it. -/
theorem framesAndCommandsScreened : Obligations.FramesAndCommandsScreened := by
  refine ⟨fun dt s f k c hpeer hrow => ?_, fun dt s f n c hacc hc => ?_⟩
  · intro h taken
    obtain ⟨deliver, hexec, hinfo⟩ := exec_screened hpeer hrow
    have hsource : f.source ≠ (heard s dt).sbi.station := by simpa using hpeer.2.2
    have htaken : takenFrom k ((heard s dt).role f.source) = taken := takenFrom_eq k (s.role f.source)
    have hsetup : k ≠ .setup := by rintro rfl; simp at hrow
    rw [hexec, screen_fromPeer hsource, htaken]
    refine ⟨fun hleg halarm => ?_, fun hleg hno => ?_, fun hleg hyes hk => ?_⟩
    · rw [if_pos (by simpa using hleg), if_neg (by simp [takenInSetup, hsetup, halarm])]
    · rw [if_neg (by simpa using hleg), if_neg (by simp [hno])]
      simp [countStranger, withCounters, h, heard]
    · rw [if_neg (by simpa using hleg), if_pos hyes, hinfo hk]
      rfl
  · intro h counted target code
    obtain ⟨hn, act, hexec⟩ := exec_controlCommand hc s
    have hcounted : countUnknown h = counted := by simp [countUnknown, withCounters, counted, h, heard]
    have hreach : (code = n ∨ code = 0 ∨ 6 < code) → exec c s = .next (command h f n act) := by
      intro hcode
      have hgood : controlOf n f = goodOfKind .control f := by
        obtain hcode | hcode | hcode := hcode <;> simp [controlOf, hcode, code]
      rw [hexec, receiveControl, hgood, receive_accepted hacc]
    have hstation : h.sbi.station = s.sbi.station := by simp [h]
    rw [← hstation]
    refine ⟨fun hcode hother hpeer => ?_, fun hcode hlow hhigh => ?_, fun hcode hmine => ?_⟩
    · rw [hreach (.inl hcode), command, if_neg (by omega), if_neg (by omega)]
    · have hstation := h.sbi.station.isLt
      rw [hreach (.inl hcode), command, if_neg (by omega), if_pos hlow, hcounted]
    · rw [hreach (.inr hcode), command, if_pos hmine, if_neg (by omega), hcounted]

end Sys2Proof.BusSide
end

section
/-! The Transmit Queue and the life of a frame the node sends: where a frame is placed (R140 to R142), and how an attempt is
lost, aborted and completed (R20 to R22, R159). -/

-- Elaborated in order: elaborated at once, the many proofs here take more threads than the check has memory for.
set_option Elab.async false

namespace Sys2Proof.Attempts
open Sys2Proof Sys2Proof.Machine Sys2Proof.Laws Sys2Proof.QueueRules Sys2Proof.Keeping Sys2Proof.IntentStorage
  Sys2Proof.FaultCommands

/-! ## Where a frame enters, and which one leaves (R140, R142) -/

/-- The entry of a frame splits the queue at its claim value. -/
theorem insertFrame_append {f : TxFrame} {a b : List TxFrame} (ha : ∀ x ∈ a, x.claim ≤ f.claim)
    (hb : ∀ x ∈ b, f.claim < x.claim) : insertFrame f (a ++ b) = a ++ f :: b := by
  induction a with
  | nil =>
    cases b with
    | nil => rfl
    | cons x b => exact if_pos (hb x List.mem_cons_self)
  | cons x a ih =>
    have hx : ¬ f.claim < x.claim := by
      have := ha x List.mem_cons_self
      bv_omega
    rw [List.cons_append, insertFrame, if_neg hx, ih fun y hy => ha y (List.mem_cons_of_mem x hy), List.cons_append]

/-- The victim is the unlocked frame that stands above every unlocked one behind it, and not below one before it. -/
theorem victim_append {a b : List TxFrame} {g : TxFrame} (hg : g.locked = false)
    (ha : ∀ x ∈ a, x.locked = false → x.claim ≤ g.claim) (hb : ∀ x ∈ b, x.locked = false → x.claim < g.claim) :
    victim (a ++ g :: b) = some (a.length, g) := by
  induction a with
  | nil =>
    show victim (g :: b) = some (0, g)
    rw [victim]
    cases hv : victim b with
    | none => simp [hg]
    | some p =>
      obtain ⟨hmem, hopen⟩ := victim_spec hv
      have hlt : p.2.claim < g.claim := hb _ (List.mem_of_getElem? hmem) hopen
      simp [hg, hlt]
  | cons x a ih =>
    have hrest := ih fun y hy => ha y (List.mem_cons_of_mem x hy)
    have hx : (!x.locked && decide (g.claim < x.claim)) = false := by
      cases hopen : x.locked with
      | true => rfl
      | false =>
        have := ha x List.mem_cons_self hopen
        simp only [Bool.not_false, Bool.true_and, decide_eq_false_iff_not]
        bv_omega
    show victim (x :: (a ++ g :: b)) = _
    rw [victim, hrest]
    simp [hx]

theorem eraseIdx_append_length {α : Type} (a b : List α) (g : α) : (a ++ g :: b).eraseIdx a.length = a ++ b := by
  rw [List.eraseIdx_append_of_length_le le_rfl, Nat.sub_self]
  rfl

/-! ## Placing a frame (R140 to R142) -/

/-- Of a slot that the queue holds once, that frame is found. -/
theorem find?_slot {p : TxFrame → Bool} {a b : List TxFrame} {g : TxFrame} (hg : p g = true)
    (hrest : ∀ x ∈ a ++ b, p x = false) : (a ++ g :: b).find? p = some g := by
  have ha : a.find? p = none := by
    rw [List.find?_eq_none]
    exact fun x hx => by simp [hrest x (List.mem_append_left b hx)]
  rw [List.find?_append, ha, List.find?_cons_of_pos hg]
  rfl

theorem map_slot {p : TxFrame → Bool} {a b : List TxFrame} {f g : TxFrame} (hg : p g = true)
    (hrest : ∀ x ∈ a ++ b, p x = false) :
    (a ++ g :: b).map (fun x => if p x then f else x) = a ++ f :: b := by
  have hkeep : ∀ l : List TxFrame, (∀ x ∈ l, p x = false) → l.map (fun x => if p x then f else x) = l := fun l hl => by
    rw [List.map_congr_left (g := id) fun x hx => by simp [hl x hx], List.map_id]
  rw [List.map_append, List.map_cons, if_pos hg, hkeep a fun x hx => hrest x (List.mem_append_left b hx),
    hkeep b fun x hx => hrest x (List.mem_append_right a hx)]

/-- R141: a renewed kind takes the place of the frame it renews, unless that one is locked. -/
theorem place_renewed {q : TxQueue} {f g : TxFrame} {a b : List TxFrame}
    (hk : f.kind = some .legReport ∨ f.kind = some .footDetail ∨ f.kind = some .diagnostic)
    (hq : q.frames = a ++ g :: b) (hg : sameSlot f g = true) (hrest : ∀ x ∈ a ++ b, sameSlot f x = false) :
    q.place f = (if g.locked then q else { q with frames := a ++ f :: b }, none) := by
  have hfind : q.frames.find? (sameSlot f) = some g := hq ▸ find?_slot hg hrest
  have hmap : q.frames.map (fun x => if sameSlot f x then f else x) = a ++ f :: b := hq ▸ map_slot hg hrest
  unfold TxQueue.place
  obtain hk | hk | hk := hk
  all_goals
    rw [hk, hfind]
    dsimp only
    rw [hmap]
    split <;> rfl

/-- Where no frame of its slot is held, or its kind is not limited, a frame is placed by R140 and R142, known kind or not. -/
theorem place_free {q : TxQueue} {f : TxFrame}
    (h : q.frames.any (sameSlot f) = false ∨ ¬ ((f.kind = some .legReport ∨ f.kind = some .footDetail ∨
      f.kind = some .diagnostic) ∨ f.kind = some .alarm)) : q.place f = q.takeIn f := by
  cases hk : f.kind with
  | none => rw [TxQueue.place, hk]
  | some k =>
    refine place_eq_takeIn hk fun hlim hevent g hg => ?_
    obtain hany | hother := h
    · simpa using (List.any_eq_false.1 hany) g hg
    · cases k <;> simp_all [limited]

/-- R142: with the victim of the lower claim value at hand, or with a frame that is not below it. -/
theorem takeIn_full {q : TxQueue} {f g : TxFrame} {a b : List TxFrame} (hfull : 8 ≤ q.frames.length)
    (hq : q.frames = a ++ g :: b) (hv : victim q.frames = some (a.length, g)) :
    q.takeIn f =
      if f.claim < g.claim then ({ frames := insertFrame f (a ++ b), dropped := satInc q.dropped }, some g)
      else ({ q with dropped := satInc q.dropped }, some f) := by
  unfold TxQueue.takeIn
  rw [if_neg (by unfold queueMax; omega), hv]
  dsimp only
  rw [hq, eraseIdx_append_length]

/-- What the owner of a lost frame makes of it (R107, R142, R159). -/
theorem placeFrame_of_lost {s : State} {f lost : TxFrame} (h : (s.txq.place f).2 = some lost) :
    placeFrame s f = tellLost { s with txq := (s.txq.place f).1 } lost := by
  unfold placeFrame
  split
  next hp => rw [hp] at h; cases h
  next hp => rw [hp] at h ⊢; cases h; rfl

theorem placeFrame_of_kept {s : State} {f : TxFrame} (h : (s.txq.place f).2 = none) :
    placeFrame s f = { s with txq := (s.txq.place f).1 } := by
  unfold placeFrame
  split
  next hp => rw [hp]
  next hp => rw [hp] at h; cases h

/-- Settles O13: a case of R141 or of R142 each, and the owner of the frame that is lost. -/
theorem queuePlaces : Obligations.QueuePlaces := by
  refine ⟨fun q f => ?_, fun s f => ?_⟩
  · intro same renewed counted
    have hsame : same = sameSlot f := by
      funext g
      rw [Bool.eq_iff_iff, sameSlot_iff]
      simp only [same, Bool.and_eq_true, beq_iff_eq, Bool.or_eq_true, bne_iff_ne]
      tauto
    rw [hsame]
    refine ⟨fun hk hany => ?_, fun hk a g b hq hg hrest => place_renewed hk hq hg hrest, fun hfree => ?_⟩
    · rw [TxQueue.place, hk]
      exact if_pos hany
    · rw [place_free hfree]
      refine ⟨fun hroom a b hq ha hb => ?_, fun hfull a g b hq hg ha hb => ?_⟩
      · rw [TxQueue.takeIn, if_pos (by unfold queueMax; exact hroom), hq, insertFrame_append ha hb]
      · rw [takeIn_full hfull hq (hq ▸ victim_append hg ha hb)]
        refine ⟨fun hle => ?_, fun hlt c d hcd hc hd => ?_⟩
        · rw [if_neg (by bv_omega)]
        · rw [if_pos hlt, hcd, insertFrame_append hc hd]
  · intro u
    cases hlost : (s.txq.place f).2 with
    | none => exact placeFrame_of_kept hlost
    | some lost =>
      rw [placeFrame_of_lost hlost]
      refine ⟨fun hlift hclaim => ?_, fun hevent => ?_, fun hlift hevent => ?_⟩
      · rw [tellLost, if_pos hlift, claimFailed, if_pos (by exact hclaim)]
        rfl
      · rw [tellLost, if_neg (by simp [not_isLift_of_isEvent hevent]), if_pos hevent]
      · have hkept : claimFailed u = u ∨ lost.isLift = false := by
          obtain hlift | hleg := hlift
          · exact .inr hlift
          · exact .inl (if_neg hleg)
        rw [tellLost, hevent]
        obtain hkept | hlift := hkept
        · exact (congrArg (fun v => if lost.isLift then v else u) hkept).trans (ite_self u)
        · rw [hlift]
          rfl

/-! ## What a failed or lost attempt leaves (R20, R21) -/

/-- The bit times of R3, by the strapped rate. -/
theorem bitTimeUs_eq (r : Fin 4) : (match r with | 0 => 4 | 1 => 2 | _ => 1) = bitTimeUs r := by
  revert r; decide

/-- In the first 9 bit times of a frame the transmit side is ARBITRATING (R18). -/
theorem elapse_arbitrating {s : State} {dt : Nat} (htx : s.sbi.tx = .arbitrating)
    (hearly : s.sbi.txElapsed + dt < 9 * bitTimeUs s.sbi.rateCode) : (elapse s dt).sbi.tx = .arbitrating := by
  show (s.sbi.after dt).tx = _
  unfold Sbi.after
  rw [htx]
  exact if_neg (by omega)

theorem elapse_counters (s : State) (dt : Nat) : (elapse s dt).sbi.counters = s.sbi.counters := by simp

theorem elapse_rateCode (s : State) (dt : Nat) : (elapse s dt).sbi.rateCode = s.sbi.rateCode := by simp

/-- The attempts that TX_ABORT ends: a frame is being sent, or a dominant bit has read recessive while arbitrating (R21). -/
theorem elapse_abortable {s : State} {level : Bool} {dt : Nat}
    (h : s.sbi.tx = .sending ∨ (s.sbi.tx = .arbitrating ∧ level = false)) :
    (elapse s dt).sbi.tx = .sending ∨ ((elapse s dt).sbi.tx = .arbitrating ∧ level = false) := by
  show (s.sbi.after dt).tx = _ ∨ ((s.sbi.after dt).tx = _ ∧ _)
  unfold Sbi.after
  obtain htx | ⟨htx, hlevel⟩ := h
  · rw [htx]; exact .inl rfl
  · rw [htx]
    by_cases hlate : 9 * bitTimeUs s.sbi.rateCode ≤ s.sbi.txElapsed + dt
    · exact .inl (if_pos hlate)
    · exact .inr ⟨if_neg hlate, hlevel⟩

theorem exec_txAbort {s : State} {f : TxFrame} {level : Bool} (dt : Nat) (ha : s.sbi.attempt = some f)
    (h : s.sbi.tx = .sending ∨ (s.sbi.tx = .arbitrating ∧ level = false)) :
    exec (.txAbort dt level) s = .next (abortFrame (elapse s dt) f) := by
  have hattempt : (elapse s dt).sbi.attempt = some f := by simpa using ha
  show Host.Outcome.next (match (elapse s dt).sbi.attempt with | some f => if _ then _ else _ | none => _) = _
  rw [hattempt]
  exact congrArg _ (if_pos (elapse_abortable h))

/-- The receive engine at an abort: in the start bit of the claim byte the edge was a glitch (R5, R21). -/
theorem followAborted_sbi (s : State) : (followAborted s).sbi =
    let edge := decide (s.sbi.txElapsed < bitTimeUs s.sbi.rateCode)
    { s.sbi with
      rx := if edge then .idle else s.sbi.rx, recessive := if edge then 11 else s.sbi.recessive
      rxAborted := !edge, dominant := if edge then 0 else s.sbi.dominant } := by
  unfold followAborted
  split
  next h => simp [h, lineFree, interframeBits]
  next h => simp [h]

theorem tellAborted_sbi (s : State) (f : TxFrame) : (tellAborted s f).sbi = s.sbi := by
  unfold tellAborted; split <;> simp

theorem abortFrame_sbi (s : State) (f : TxFrame) : (abortFrame s f).sbi =
    let edge := decide (s.sbi.txElapsed < bitTimeUs s.sbi.rateCode)
    { s.sbi with
      rx := if edge then .idle else s.sbi.rx, recessive := if edge then 11 else s.sbi.recessive
      rxAborted := !edge, dominant := if edge then 0 else s.sbi.dominant
      tx := .idle, attempt := none, finishing := if s.sentBit = some false then bitRest s else 0
      counters := { s.sbi.counters with txError := satInc s.sbi.counters.txError } } := by
  rw [abortFrame, tellAborted_sbi, followAborted_sbi]
  rfl

/-- Offering the ring moves the retry mark alone in the Fault Unit (R159). -/
theorem offerEvent_flt_eq (s : State) : (offerEvent s).flt = { s.flt with retry := (offerEvent s).flt.retry } := by
  unfold offerEvent
  split
  · rfl
  · split
    · rfl
    · exact placeFrame_flt _ _

/-- The offer of the ring that an owner makes once it has been told: every other block stands as it was told. -/
theorem tellAborted_offers (s : State) (f : TxFrame) :
    (tellAborted s f).pe = (if f.isLift = true ∧ s.pe.leg = .claim then claimLostPe s else s.pe) ∧
    (tellAborted s f).flt = { s.flt with retry := (tellAborted s f).flt.retry } ∧
    Offered s (tellAborted s f) s.txq := by
  have hfailed : (claimFailed s).flt = s.flt ∧ (claimFailed s).txq = s.txq ∧ (claimFailed s).sbi = s.sbi := by
    simp [claimFailed_frame]
  unfold tellAborted
  split
  next hlift =>
    refine ⟨?_, ?_, ?_⟩
    · rw [offerEvent_pe, claimFailed]
      simp only [hlift, true_and]
      split <;> rfl
    · rw [offerEvent_flt_eq, hfailed.1]
    · have h := offerEvent_offered (claimFailed s)
      rw [hfailed.2.1] at h
      exact (offered_congr (by rw [hfailed.2.2]) _).1 h
  next hlift =>
    exact ⟨by simp [hlift], offerEvent_flt_eq s, offerEvent_offered s⟩

theorem tellAborted_frame (s : State) (f : TxFrame) :
    (tellAborted s f).time = s.time ∧ (tellAborted s f).setup = s.setup ∧ (tellAborted s f).pt = s.pt ∧
    (tellAborted s f).fsu = s.fsu ∧ (tellAborted s f).scu = s.scu ∧ (tellAborted s f).tu = s.tu := by
  unfold tellAborted; split <;> simp [claimFailed_frame]

/-- The state in which the owner of an aborted frame is told: the bus side has ended the attempt, and the locked frame is
gone from the queue (R21). -/
theorem abortFrame_untold (s : State) (f : TxFrame) : ∃ u, abortFrame s f = tellAborted u f ∧
    u.txq = { s.txq with frames := s.txq.frames.filter fun g => !g.locked } ∧ u.sbi.station = s.sbi.station ∧
    u.pe = s.pe ∧ u.flt = s.flt ∧ u.time = s.time ∧ u.setup = s.setup ∧ u.pt = s.pt ∧ u.fsu = s.fsu ∧
    u.scu = s.scu ∧ u.tu = s.tu := by
  obtain ⟨v, hv⟩ : ∃ v : State, v =
      let t := countTxError (endAttempt (withFrames s (dropLocked s.txq.frames)))
      { t with sbi := { t.sbi with finishing := if s.sentBit = some false then bitRest s else 0 } } := ⟨_, rfl⟩
  refine ⟨followAborted v, by rw [hv]; rfl, ?_, by rw [followAborted_sbi, hv]; rfl, ?_⟩
  · rw [(followAborted_frame v).2.2.2.2.2.2.2.1, hv]
    rfl
  · simp only [followAborted_frame]
    subst hv
    exact ⟨rfl, rfl, rfl, rfl, rfl, rfl, rfl, rfl⟩

/-- Settles O19: the loss of arbitration unlocks, and the abort drops the frame and tells its owner. -/
theorem attemptsFail : Obligations.AttemptsFail := by
  refine ⟨fun dt bit s f htx ha hearly hbit => ?_, fun dt level s f ha htx => ?_⟩
  · intro e sbi q
    have hattempt : e.sbi.attempt = some f := by simpa [e] using ha
    have hexec : exec (.arbitrationLoss dt bit) s = .next (loseArbitration e f) := by
      show Host.Outcome.next (match e.sbi.attempt with | some f => if _ then _ else _ | none => _) = _
      rw [hattempt]
      exact congrArg _ (if_pos ⟨elapse_arbitrating htx hearly, hbit⟩)
    have hlost : countArbLost (endAttempt (withFrames e (unlockAll e.txq.frames))) = { e with sbi := sbi, txq := q } := by
      simp only [sbi]
      rw [← elapse_counters s dt]
      rfl
    rw [hexec, loseArbitration, hlost]
    refine ⟨fun hkeep => congrArg _ (if_neg hkeep), fun hlift hclaim hpassed => ?_⟩
    exact congrArg _ ((if_pos ⟨hlift, hclaim, hpassed⟩).trans rfl)
  · intro e bit edge
    have hbit : bit = bitTimeUs e.sbi.rateCode := (bitTimeUs_eq _).trans (by rw [elapse_rateCode])
    refine ⟨abortFrame e f, exec_txAbort dt ha htx, ?_, ?_⟩
    · rw [abortFrame_sbi, elapse_counters]
      simp only [edge, hbit]
      rfl
    · obtain ⟨u, hu, htxq, hstation, hpe, hflt, htime, hsetup, hpt, hfsu, hscu, htu⟩ := abortFrame_untold e f
      obtain ⟨htoldPe, htoldFlt, hoffered⟩ := tellAborted_offers u f
      obtain ⟨htoldTime, htoldSetup, htoldPt, htoldFsu, htoldScu, htoldTu⟩ := tellAborted_frame u f
      rw [hu, htoldTime, htoldSetup, htoldPt, htoldFsu, htoldScu, htoldTu]
      refine ⟨?_, htoldFlt.trans (by rw [hflt]; rfl), ?_, htime, hsetup, hpt, hfsu, hscu, htu⟩
      · rw [htoldPe, hpe]
        simp only [claimLostPe, hpe, State.beta]
        rfl
      · rw [htxq] at hoffered
        exact (offered_congr hstation _).1 hoffered

/-! ## What a completed frame leaves (R22, R90, R159) -/

/-- An offer with the retry mark clear sets it only where the Event frame finds no room, and that loss is counted (R142,
R159). -/
theorem offerEvent_retry {s : State} (hclear : s.flt.retry = false) (h : (offerEvent s).flt.retry = true) :
    s.flt.ring ≠ [] ∧ s.txq.frames.any TxFrame.isEvent = false ∧ 8 ≤ s.txq.frames.length ∧
      (offerEvent s).txq.dropped = satInc s.txq.dropped := by
  unfold offerEvent at h ⊢
  split at h
  next hring => rw [hclear] at h; cases h
  next r rest hring =>
    split at h
    next => rw [hclear] at h; cases h
    next hfree =>
      have hnone : s.txq.frames.any TxFrame.isEvent = false := by simpa [hclear] using hfree
      have hplace : s.txq.place (s.eventFrame r) = s.txq.takeIn (s.eventFrame r) :=
        place_eq_takeIn (newFrame_kind s .event _) fun _ hne => absurd rfl hne
      rw [hring, if_neg hfree, placeFrame_txq, hplace]
      refine ⟨by simp, hnone, ?_⟩
      obtain ⟨-, ha⟩ | ⟨hfull, i, v, -, -, ha⟩ | ⟨hfull, ha⟩ := admit_cases s.txq (s.eventFrame r)
      · rw [placeFrame_of_kept (by rw [hplace, ha])] at h
        exact absurd (hclear.symm.trans h) (by decide)
      · rw [ha]; exact ⟨hfull, rfl⟩
      · rw [ha]; exact ⟨hfull, rfl⟩

/-- A frame is completed once its last stop bit is being read; by then the transmit side is SENDING (R18, R22). -/
theorem exec_txCompletion {s : State} {f : TxFrame} {dt : Nat} (htx : s.sbi.tx = .sending ∨ s.sbi.tx = .arbitrating)
    (ha : s.sbi.attempt = some f)
    (hlate : (10 * (f.payload.length + 3) - 1) * bitTimeUs s.sbi.rateCode ≤ s.sbi.txElapsed + dt) :
    exec (.txCompletion dt) s = .next (completeFrame (elapse s dt) f) := by
  have hattempt : (elapse s dt).sbi.attempt = some f := by simpa using ha
  have hclaim : 9 * bitTimeUs s.sbi.rateCode ≤ s.sbi.txElapsed + dt :=
    (Nat.mul_le_mul_right _ (by omega)).trans hlate
  have hsending : (s.sbi.after dt).tx = .sending ∧ (s.sbi.after dt).txElapsed = s.sbi.txElapsed + dt := by
    unfold Sbi.after
    obtain htx | htx := htx <;> rw [htx]
    · exact ⟨rfl, rfl⟩
    · exact ⟨if_pos hclaim, rfl⟩
  show Host.Outcome.next (match (elapse s dt).sbi.attempt with | some f => if _ then _ else _ | none => _) = _
  rw [hattempt]
  refine congrArg _ (if_pos ⟨hsending.1, ?_⟩)
  show frameTimeUs (elapse s dt) f ≤ (s.sbi.after dt).txElapsed
  rw [hsending.2, frameTimeUs, elapse_rateCode]
  exact hlate

/-- The state whose ring is offered at a completion: bus side and queue have let the frame go, its owner has been told, and
the retry mark is clear (R22, R159). -/
theorem completeFrame_unoffered (s : State) (f : TxFrame) : ∃ u, completeFrame s f = offerEvent u ∧
    u.sbi = { s.sbi with
      rx := .waitIdle, recessive := 0, rxAborted := false, dominant := 0, tx := .idle, attempt := none
      counters := { s.sbi.counters with sent := satInc s.sbi.counters.sent } } ∧
    u.txq = { s.txq with frames := s.txq.frames.filter fun g => !g.locked } ∧
    u.flt = { s.flt with ring := (if f.isEvent then s.flt.ring.tail else s.flt.ring), retry := false } ∧
    (f.isLift = true → s.pe.leg = .claim →
      u.pe = { s.pe with
        leg := .unload, checkPending := false, claimT := none, timeoutPassed := false
        unloadT := some (s.unloadMs * 1000), wait := .none, ownSway := none } ∧
      u.tu = { s.tu with stanceZ := s.tu.p.z }) ∧
    (¬ (f.isLift = true ∧ s.pe.leg = .claim) → u.pe = s.pe ∧ u.tu = s.tu) ∧
    u.time = s.time ∧ u.setup = s.setup ∧ u.pt = s.pt ∧ u.fsu = s.fsu ∧ u.scu = s.scu := by
  refine ⟨_, rfl, ?_⟩
  cases hlift : f.isLift with
  | true =>
    have hevent : f.isEvent = false := by
      cases he : f.isEvent with
      | true => exact absurd (not_isLift_of_isEvent he) (by simp [hlift])
      | false => rfl
    simp only [if_true, hevent, claimCompleted]
    by_cases hleg : s.pe.leg = .claim
    · rw [if_pos (by exact hleg)]
      exact ⟨rfl, rfl, rfl, fun _ _ => ⟨rfl, rfl⟩, fun h => absurd ⟨trivial, hleg⟩ h, rfl, rfl, rfl, rfl, rfl⟩
    · rw [if_neg (by exact hleg)]
      exact ⟨rfl, rfl, rfl, fun _ h => absurd h hleg, fun _ => ⟨rfl, rfl⟩, rfl, rfl, rfl, rfl, rfl⟩
  | false =>
    cases f.isEvent <;>
      exact ⟨rfl, rfl, rfl, nofun, fun _ => ⟨rfl, rfl⟩, rfl, rfl, rfl, rfl, rfl⟩

/-- Settles O21: the completion comes down to an offer of the ring, which leaves the other blocks. -/
theorem transmitCompletes : Obligations.TransmitCompletes := by
  intro dt s f htx ha hlate e
  obtain ⟨u, hu, hsbi, htxq, hflt, hlift, hother, htime, hsetup, hpt, hfsu, hscu⟩ := completeFrame_unoffered e f
  have hclear : u.flt.retry = false := by rw [hflt]
  have htu : (offerEvent u).tu = u.tu := by simp
  refine ⟨offerEvent u, hu ▸ exec_txCompletion htx ha hlate, ?_, fun hl hc => ?_, fun hn => ?_, ?_, ?_, by simp [htime],
    by simp [hsetup], by simp [hpt], by simp [hfsu], by simp [hscu]⟩
  · rw [show (offerEvent u).sbi = u.sbi by simp, hsbi, elapse_counters]
  · obtain ⟨hpe, hz⟩ := hlift hl hc
    exact ⟨(offerEvent_pe u).trans hpe, htu.trans hz⟩
  · obtain ⟨hpe, hz⟩ := hother hn
    exact ⟨(offerEvent_pe u).trans hpe, htu.trans hz⟩
  · rw [offerEvent_flt_eq, hflt]
    rfl
  · have hkeep : (offerEvent u).flt.retry = true → _ := offerEvent_retry hclear
    have hring : (offerEvent u).flt.ring = u.flt.ring := by simp
    refine ⟨?_, fun hroom => ?_, fun hset => ?_, fun hclear' hne => ringOffered_offerEvent u hne hclear'⟩
    · have h := offerEvent_offered u
      rw [htxq] at h
      exact (offered_congr (by rw [hsbi]) _).1 h
    · rw [← Bool.not_eq_true]
      intro hset
      have hfull := (hkeep hset).2.2.1
      rw [htxq] at hfull
      exact absurd hroom (not_lt.2 hfull)
    · obtain ⟨hne, hnone, -, hdropped⟩ := hkeep hset
      rw [htxq] at hnone hdropped
      exact ⟨by rwa [hring], hnone, hdropped⟩

/-! ## The levels on the two lines (R2, R4, R21, R135) -/

/-- An aborted dominant bit is driven for as long as it has left (R21). -/
theorem drivesLine_elapse_of_quiet {s : State} (h : transmitting s = false) (d : Nat) :
    (elapse s d).drivesLine = decide (d < s.sbi.finishing) := by
  rw [drivesLine_of_quiet _ (by simpa using h), show (elapse s d).sbi.finishing = s.sbi.finishing - d by simp]
  simp

theorem bitTimeUs_pos (r : Fin 4) : 0 < bitTimeUs r := by revert r; decide

/-- A frame that has just begun stands `d` µs later at the bit that its own time gives (R4, R18). -/
theorem sentBit_of_begun {s : State} (htx : s.sbi.tx = .arbitrating) (hstart : s.sbi.txElapsed = 0) (d : Nat) :
    (elapse s d).sentBit = (lineBits s.sbi.txLine)[d / bitTimeUs s.sbi.rateCode]? := by
  have hsends : transmitting (elapse s d) = true := by
    rw [transmitting_elapse]
    simp [transmitting, htx]
  have helapsed : (elapse s d).sbi.txElapsed = d := by
    show (s.sbi.after d).txElapsed = d
    unfold Sbi.after
    rw [htx, hstart]
    exact Nat.zero_add d
  rw [State.sentBit, if_pos hsends, helapsed, elapse_rateCode, show (elapse s d).sbi.txLine = s.sbi.txLine by simp]

/-- The bit of a byte field that a place within the frame falls in (R4). -/
theorem lineBits_at {l : List Byte} {i k : Nat} (hi : i < l.length) (hk : k < 10) : (lineBits l)[10 * i + k]? =
    some (if k = 0 then false else if k = 9 then true else (l.getD i 0#8).getLsbD (8 - k)) := by
  rw [lineBits_getElem? l i k hk hi, byteField_getElem? _ _ hk, List.getD_eq_getElem?_getD, List.getElem?_eq_getElem hi]
  rfl

/-- The wired combination (R2): a station that sends a bit drives the line in a 0 bit only. -/
theorem levels_of_sentBit {s : State} {level : Bool} (h : s.sentBit = some level) :
    s.drivesLine = !level ∧ ∀ others, s.lineLevel others = (level && !others) := by
  have hdrives : s.drivesLine = !level := by rw [State.drivesLine, h]; cases level <;> rfl
  exact ⟨hdrives, fun others => by rw [State.lineLevel, hdrives]; cases level <;> rfl⟩

/-- A Setpoint stands `d` µs after its start at the four bits of that microsecond (R135). -/
theorem driveLevel_elapse {s : State} (h : s.tu.sending = some 25) (d : Nat) (q : Fin 4) :
    (elapse s d).driveLevel q = ((lineBits s.tu.line)[4 * (25 - (25 - d)) + q.val]?).getD true := by
  have hleft : (elapse s d).tu.sending = some (25 - d) := by
    show s.tu.sending.after d = _
    rw [h]
    rfl
  rw [State.driveLevel, hleft]
  rfl

/-- Settles O20: the levels by the bit that the node sends at that time, on either line. -/
theorem lineDriven : Obligations.LineDriven := by
  refine ⟨fun s hquiet hdone => ?_, fun dt level s f ha htx => ?_, fun dt s f rest htx hrx hq => ?_,
    fun s hquiet q => driveLevel_of_quiet s q hquiet, fun s hsending hlen => ⟨fun d q hd => ?_, fun d q hd => ?_⟩⟩
  · have hreleased : s.drivesLine = false := by rw [drivesLine_of_quiet s hquiet, hdone]; rfl
    refine ⟨by rw [sentBit_of_quiet s hquiet, hdone]; rfl, hreleased, ?_, ?_⟩
    · rw [State.lineLevel, hreleased]; rfl
    · rw [State.lineLevel, hreleased]; rfl
  · intro e bit left
    have hbit : bit = bitTimeUs e.sbi.rateCode := (bitTimeUs_eq _).trans (by rw [elapse_rateCode])
    have hquiet : transmitting (abortFrame e f) = false := by simp [transmitting, abortFrame_sbi]
    refine ⟨abortFrame e f, exec_txAbort dt ha htx, hquiet, fun d => ?_⟩
    rw [drivesLine_elapse_of_quiet hquiet, abortFrame_sbi]
    simp only [left, hbit]
    rfl
  · intro bytes bit
    have hbit : bit = bitTimeUs s.sbi.rateCode := bitTimeUs_eq _
    have hpos : 0 < bit := hbit ▸ bitTimeUs_pos _
    obtain ⟨t, hexec, htx', hstart, hline, hrate⟩ : ∃ t, exec (.txBegin dt false) s = .next t ∧
        t.sbi.tx = .arbitrating ∧ t.sbi.txElapsed = 0 ∧ t.sbi.txLine = bytes ∧ bitTimeUs t.sbi.rateCode = bit :=
      ⟨_, (BusSide.transmitBegins.1 dt s f rest htx hrx hq).1, rfl, rfl, rfl, hbit.symm⟩
    have hsent (d : Nat) : (elapse t d).sentBit = (lineBits bytes)[d / bit]? := by
      rw [sentBit_of_begun htx' hstart, hline, hrate]
    refine ⟨t, hexec, fun i k d hi hk hlo hhi => ?_, fun d hd => ?_⟩
    · have hplace : d / bit = 10 * i + k := Nat.div_eq_of_lt_le hlo hhi
      intro level
      have hlevel : (elapse t d).sentBit = some level := by rw [hsent, hplace, lineBits_at hi hk]
      exact ⟨hlevel, levels_of_sentBit hlevel⟩
    · have hplace : (lineBits bytes)[d / bit]? = none := by
        rw [List.getElem?_eq_none_iff, lineBits_length]
        exact (Nat.le_div_iff_mul_le hpos).2 hd
      rw [State.drivesLine, hsent, hplace]
      rfl
  · intro n
    have hn : 4 * (25 - (25 - d)) + q.val = 10 * (n / 10) + n % 10 := by omega
    have hi : n / 10 < s.tu.line.length := by omega
    rw [driveLevel_elapse hsending, hn, lineBits_at hi (Nat.mod_lt _ (by omega))]
    rfl
  · rw [driveLevel_elapse hsending, List.getElem?_eq_none]
    · rfl
    · rw [lineBits_length, hlen]
      omega

end Sys2Proof.Attempts
end

section
/-! A class-A fault taken (R150, R152): the events that a report records one after another, the Alarm that it places and
that stays in the queue, and the stop of a walking leg. -/

-- Elaborated in order: elaborated at once, the many proofs here take more threads than the check has memory for.
set_option Elab.async false

namespace Sys2Proof.ClassAFaults
open Sys2Proof Sys2Proof.Machine Sys2Proof.Laws Sys2Proof.QueueRules Sys2Proof.Keeping Sys2Proof.IntentStorage
  Sys2Proof.FaultCommands

/-! ## Events recorded one after another (R158, R159) -/

/-- The note of an event with its detail. -/
def noteOf (e : EventKind) (d : Byte) : Note := { bit := e.categoryBit, code := e.code, detail := d }

/-- `t` is `s` with these events recorded, one after another. -/
inductive Noted (s : State) : List Note → State → Prop
  | nil : Noted s [] s
  | snoc {ns : List Note} {t : State} (h : Noted s ns t) (e : EventKind) (d : Byte) :
      Noted s (ns ++ [noteOf e d]) (recordEvent t e d)

namespace Noted
variable {s t : State} {ns : List Note}

theorem record (s : State) (e : EventKind) (d : Byte) : Noted s [noteOf e d] (recordEvent s e d) := .snoc .nil e d

theorem trans {u : State} {ms : List Note} (h : Noted s ns t) (h' : Noted t ms u) : Noted s (ns ++ ms) u := by
  induction h' with
  | nil => rwa [List.append_nil]
  | snoc _ e d ih => rw [← List.append_assoc]; exact ih.snoc e d

/-- An event that is recorded under a condition. -/
theorem recordIf {b : Bool} (h : Noted s ns t) (e : EventKind) (d : Byte) :
    Noted s (ns ++ if b then [] else [noteOf e d]) (if b then t else recordEvent t e d) := by
  cases b with
  | true => simpa using h
  | false => exact h.snoc e d

theorem keeps (h : Noted s ns t) : t.pe = s.pe ∧ t.flt.flags = s.flt.flags ∧ t.flt.conds = s.flt.conds ∧
    t.flt.clashStation = s.flt.clashStation ∧ t.flt.clashPosition = s.flt.clashPosition ∧
    t.flt.first = s.flt.first ∧ t.flt.alarmsInHold = s.flt.alarmsInHold := by
  induction h with
  | nil => simp
  | snoc _ e d ih => simpa using ih

theorem frame (h : Noted s ns t) : t.time = s.time ∧ t.sbi = s.sbi ∧ t.setup = s.setup ∧ t.pt = s.pt ∧
    t.fsu = s.fsu ∧ t.scu = s.scu ∧ t.tu = s.tu ∧ t.pending = s.pending := by
  induction h with
  | nil => simp
  | snoc _ e d ih => simpa using ih

theorem logs (h : Noted s ns t) : Logs s t ns := by
  induction h with
  | nil => rfl
  | @snoc ns u h e d ih =>
    have hin : noteIn u = noteIn s :=
      noteIn_congr (by funext b; simp [letIn, State.eventMask, h.keeps.1, h.frame.2.2.1]) (by rw [h.frame.1])
    exact logs_append ih (recordEvent_logs u e d) hin

theorem safe (h : Noted s ns t) : Keeps s t := by
  induction h with
  | nil => exact .refl s
  | snoc _ e d ih => exact ih.trans (keeps_recordEvent _ e d)

end Noted

/-! ## The queue beside recorded events -/

theorem claimCode_of_kind {f : TxFrame} {k : FrameKind} (h : f.kind = some k) : claimCode f.claim = k.code := by
  unfold TxFrame.kind kindOfCode at h
  split at h <;> cases h
  all_goals assumption

theorem claim_lt_of_code {a b : Byte} (h : claimCode a < claimCode b) : a < b := by
  rw [BitVec.lt_def]
  unfold claimCode at h
  omega

/-- An Event frame does not take the place of an Alarm (R140, R142). -/
theorem alarm_stays_of_place {q : TxQueue} {f g : TxFrame} (hg : g.kind = some .alarm) (hmem : g ∈ q.frames)
    (hf : f.kind = some .event) : g ∈ (q.place f).1.frames := by
  refine (mem_place_of_mem hf hmem (.inr (.inl rfl))).resolve_right fun hlost => ?_
  have hlt : g.claim < f.claim := claim_lt_of_code (by rw [claimCode_of_kind hg, claimCode_of_kind hf]; decide)
  obtain rfl | ⟨-, -, hgt⟩ := place_lost hlost
  · rw [hf] at hg; cases hg
  · bv_omega

theorem offerEvent_txq (s : State) : ((offerEvent s).txq = s.txq ∨
    (s.txq.frames.any TxFrame.isEvent = false ∧ ∃ f, f.kind = some .event ∧ (offerEvent s).txq = (s.txq.place f).1)) := by
  unfold offerEvent
  split
  · exact .inl rfl
  · split
    · exact .inl rfl
    next r _ _ h =>
      exact .inr ⟨by simp at h; simpa using h.1, _, newFrame_kind s .event _, placeFrame_txq s _⟩

theorem recordEvent_txq (s : State) (e : EventKind) (d : Byte) : ((recordEvent s e d).txq = s.txq ∨
    (s.txq.frames.any TxFrame.isEvent = false ∧
      ∃ f, f.kind = some .event ∧ (recordEvent s e d).txq = (s.txq.place f).1)) := by
  have hadd : (addRecord s e d).txq = s.txq := by simp
  unfold recordEvent
  split
  · have h := offerEvent_txq (addRecord s e d)
    rwa [hadd] at h
  · exact .inl rfl

namespace Noted
variable {s t : State} {ns : List Note}

/-- An Alarm that waits is not lost to Event frames. -/
theorem alarm_stays (h : Noted s ns t) {g : TxFrame} (hg : g.kind = some .alarm) (hmem : g ∈ s.txq.frames) :
    g ∈ t.txq.frames := by
  induction h with
  | nil => exact hmem
  | snoc _ e d ih =>
    obtain hq | ⟨-, f, hf, hq⟩ := recordEvent_txq _ e d
    · rwa [hq]
    · rw [hq]; exact alarm_stays_of_place hg ih hf

/-- Recorded events bring Event frames alone into the queue. -/
theorem mem_of_mem (h : Noted s ns t) {g : TxFrame} (hg : g.kind ≠ some .event) (hmem : g ∈ t.txq.frames) :
    g ∈ s.txq.frames := by
  induction h with
  | nil => exact hmem
  | snoc _ e d ih =>
    obtain hq | ⟨-, f, hf, hq⟩ := recordEvent_txq _ e d
    · exact ih (by rwa [hq] at hmem)
    · rw [hq] at hmem
      refine ih ((mem_place hmem).resolve_left ?_)
      rintro rfl
      exact hg hf

/-- In a queue with room recorded events bring one Event frame at most, however many they are (R159). -/
theorem txq_of_room (h : Noted s ns t) (hroom : s.txq.frames.length < 8) : t.txq = s.txq ∨
    (t.txq.frames.any TxFrame.isEvent = true ∧ t.txq.frames.length ≤ s.txq.frames.length + 1) := by
  induction h with
  | nil => exact .inl rfl
  | snoc _ e d ih =>
    obtain hq | ⟨hnone, f, hf, hq⟩ := recordEvent_txq _ e d
    · rwa [hq]
    · obtain ih | ⟨hany, -⟩ := ih
      · rw [hq, ih, place_eq_takeIn hf fun _ he => absurd rfl he, TxQueue.takeIn,
          if_pos (by exact hroom)]
        refine .inr ⟨List.any_eq_true.2 ⟨f, mem_insertFrame.2 (.inl rfl), ?_⟩, (insertFrame_length f _).le⟩
        rw [TxFrame.isEvent, hf]
        rfl
      · rw [hnone] at hany; cases hany

theorem length_le_seven (h : Noted s ns t) (hroom : s.txq.frames.length ≤ 6) : t.txq.frames.length ≤ 7 := by
  obtain hq | ⟨-, hlen⟩ := h.txq_of_room (by omega)
  · rw [hq]; omega
  · omega

end Noted

/-! ## The Alarm of a report (R141, R152) -/

/-- The Alarm that a class-A report places: the fault code and the code of the leg state at the report (R152). -/
def alarmOf (s : State) (c : FaultCode) : TxFrame := s.newFrame .alarm [c.code, BitVec.ofNat 8 s.pe.leg.code]

theorem alarmOf_kind (s : State) (c : FaultCode) : (alarmOf s c).kind = some .alarm := newFrame_kind s .alarm _

theorem not_isLift_of_alarm {g : TxFrame} (h : g.kind = some .alarm) : g.isLift = false := by
  simp [TxFrame.isLift, h]

theorem locked_of_victim_eq_none {l : List TxFrame} (h : victim l = none) : ∀ g ∈ l, g.locked = true := by
  induction l with
  | nil => nofun
  | cons x l ih =>
    rw [victim] at h
    cases hv : victim l with
    | none =>
      rw [hv] at h
      rw [List.forall_mem_cons]
      exact ⟨by simpa using h, ih hv⟩
    | some p =>
      rw [hv] at h
      dsimp only at h
      split at h <;> cases h

/-- A frame enters a queue that has room, or that holds an unlocked frame of a higher claim value (R140, R142). -/
theorem mem_takeIn {q : TxQueue} {f : TxFrame}
    (h : q.frames.length < 8 ∨ ∃ g ∈ q.frames, g.locked = false ∧ f.claim < g.claim) :
    f ∈ (q.takeIn f).1.frames := by
  unfold TxQueue.takeIn
  split
  next => exact mem_insertFrame.2 (.inl rfl)
  next hfull =>
    obtain ⟨g, hg, hopen, hlt⟩ := h.resolve_left hfull
    cases hv : victim q.frames with
    | none => rw [locked_of_victim_eq_none hv g hg] at hopen; cases hopen
    | some p =>
      have hmax : ¬ p.2.claim < g.claim := victim_max (i := p.1) (v := p.2) hv g hg hopen
      have hlower : f.claim < p.2.claim := by bv_omega
      dsimp only
      rw [if_pos hlower]
      exact mem_insertFrame.2 (.inl rfl)

/-- In a queue that is full and meets its invariants some frame stands unlocked (R140). -/
theorem exists_unlocked {s : State} (hlock : LockHeld s) (hfull : 8 ≤ s.txq.frames.length) :
    ∃ g ∈ s.txq.frames, g.locked = false := by
  by_contra hall
  push Not at hall
  have hself : s.txq.frames.filter TxFrame.locked = s.txq.frames :=
    List.filter_eq_self.2 fun g hg => by simpa using hall g hg
  have hone := hlock.2.1
  rw [hself] at hone
  omega

/-- An Alarm that finds none in the queue enters it: there is room, or the queue meets its invariants, where only Alarms have
a claim value as low (R140 to R142). -/
theorem alarm_enters {s : State} {f : TxFrame} (hf : f.kind = some .alarm)
    (hnone : ∀ g ∈ s.txq.frames, g.kind ≠ some .alarm)
    (h : s.txq.frames.length ≤ 7 ∨ (QueueOrdered s ∧ LockHeld s)) : f ∈ (s.txq.place f).1.frames := by
  rw [place_eq_takeIn hf fun _ _ g hg => ?_]
  · refine mem_takeIn ?_
    by_cases hroom : s.txq.frames.length < 8
    · exact .inl hroom
    · obtain ⟨⟨-, hown, -⟩, hlock⟩ := h.resolve_left (by omega)
      obtain ⟨g, hg, hopen⟩ := exists_unlocked hlock (by omega)
      obtain ⟨k, hk⟩ := hown g hg
      have hkind : g.kind = some k := kind_of_claim hk
      have hother : k ≠ .alarm := fun e => hnone g hg (by rw [hkind, e])
      refine .inr ⟨g, hg, hopen, claim_lt_of_code ?_⟩
      rw [claimCode_of_kind hf, claimCode_of_kind hkind]
      revert hother
      cases k <;> decide
  · rw [← Bool.not_eq_true, sameSlot_iff]
    exact fun hslot => hnone g hg (hslot.1.symm.trans hf)

/-- A direction to HOLD takes out Lift Notices alone (R109, R143). -/
theorem mem_directHold {s : State} {g : TxFrame} (hg : g.kind = some .alarm) (hmem : g ∈ s.txq.frames) :
    g ∈ (directHold s).txq.frames := by
  unfold directHold
  split
  · split
    · exact List.mem_filter.2 ⟨hmem, by simp [not_isLift_of_alarm hg]⟩
    · exact hmem
  · exact hmem

/-! ## The report (R150, R152) -/

/-- The BUS event that a CLASH source adds when it becomes active (R14, R52; log entry 13). -/
def clashNotes (s : State) : Report → List Note
  | .stationClash k _ => if s.flt.clashStation then [] else [noteOf .stationClash (BitVec.ofNat 8 k.code)]
  | .positionClash n _ => if s.flt.clashPosition then [] else [noteOf .positionClash (BitVec.ofNat 8 n.val)]
  | _ => []

/-- The events of a report but for the entry to HOLD. -/
def reportNotes (s : State) (r : Report) : List Note :=
  (match r with
    | .peerSilent n => [noteOf .peerSilent (BitVec.ofNat 8 n.val)]
    | _ => latchNote s r.fault) ++ clashNotes s r

/-- The state of a report before its consequences: condition, flag and events (R150). -/
def recorded (s : State) (r : Report) : State := reportEvents s (latchFlag (raiseCondition s r) r.fault) r

theorem recorded_noted (s : State) (r : Report) :
    Noted (latchFlag (raiseCondition s r) r.fault) (reportNotes s r) (recorded s r) := by
  have hlatch (u : State) (c : FaultCode) :
      Noted u (latchNote s c) (if latched s c then u else recordEvent u .faultLatched c.code) :=
    Noted.nil.recordIf .faultLatched c.code
  unfold recorded reportEvents reportNotes
  cases r with
  | stationClash k at_ => exact (hlatch _ .clash).recordIf .stationClash _
  | positionClash n p => exact (hlatch _ .clash).recordIf .positionClash _
  | peerSilent n => exact Noted.record _ .peerSilent _
  | plain | filterLimit | workspaceClamp | overlap | driveFault =>
    show Noted _ (latchNote s _ ++ []) _
    rw [List.append_nil]
    exact hlatch _ _

/-- Condition and flag move the Fault Unit alone, and neither its ring nor its count of lost events (R150). -/
theorem latched_frame (s : State) (r : Report) (u : State) (hu : u = latchFlag (raiseCondition s r) r.fault) :
    u.time = s.time ∧ u.sbi = s.sbi ∧ u.setup = s.setup ∧ u.pt = s.pt ∧ u.fsu = s.fsu ∧ u.pe = s.pe ∧ u.scu = s.scu ∧
      u.tu = s.tu ∧ u.txq = s.txq ∧ u.flt.ring = s.flt.ring ∧ u.flt.lost = s.flt.lost := by
  subst hu
  simp only [latchFlag_frame, latchFlag_apply, raiseCondition_frame]
  exact ⟨trivial, trivial, trivial, trivial, trivial, trivial, trivial, trivial, trivial, rfl, rfl⟩

/-- What a state that comes from `s` by condition, flag and events shares with it. -/
structure Recorded (s u : State) (ns : List Note) : Prop where
  time : u.time = s.time
  sbi : u.sbi = s.sbi
  setup : u.setup = s.setup
  fsu : u.fsu = s.fsu
  pe : u.pe = s.pe
  tu : u.tu = s.tu
  logs : Logs s u ns
  room : s.txq.frames.length ≤ 6 → u.txq.frames.length ≤ 7
  ordered : QueueOrdered s → QueueOrdered u
  lock : LockHeld s → LockHeld u
  stays : ∀ g, g.kind = some .alarm → (g ∈ u.txq.frames ↔ g ∈ s.txq.frames)

theorem recorded_spec (s : State) (r : Report) : Recorded s (recorded s r) (reportNotes s r) := by
  obtain ⟨u, hu⟩ : ∃ u, u = latchFlag (raiseCondition s r) r.fault := ⟨_, rfl⟩
  have hnoted : Noted u (reportNotes s r) (recorded s r) := hu ▸ recorded_noted s r
  obtain ⟨htime, hsbi, hsetup, -, hfsu, hpe, -, htu, htxq, hring, hlost⟩ := latched_frame s r u hu
  obtain ⟨ntime, nsbi, nsetup, -, nfsu, -, ntu, -⟩ := hnoted.frame
  have hin : noteIn u = noteIn s :=
    noteIn_congr (by funext b; simp [letIn, State.eventMask, hpe, hsetup]) (by rw [htime])
  exact {
    time := ntime.trans htime, sbi := nsbi.trans hsbi, setup := nsetup.trans hsetup, fsu := nfsu.trans hfsu
    pe := hnoted.keeps.1.trans hpe, tu := ntu.trans htu
    logs := by
      have h := hnoted.logs
      rwa [Logs, hring, hlost, hin] at h
    room := fun h => hnoted.length_le_seven (by rwa [htxq])
    ordered := fun h => hnoted.safe.ordered (by rwa [QueueOrdered, htxq, hsbi])
    lock := fun h => hnoted.safe.lock (by rwa [LockHeld, transmitting, htxq, hsbi])
    stays := fun g hg => by
      rw [← htxq]
      exact ⟨hnoted.mem_of_mem (by simp [hg]), hnoted.alarm_stays hg⟩ }

theorem reportFault_eq (s : State) (r : Report) (hA : r.fault.classA = true) :
    reportFault s r = classAConsequence (recorded s r) r.fault := if_pos hA

/-- A leg that does not walk, or stands in HOLD, is not directed (R152). -/
theorem classAConsequence_rest {s : State} (h : ¬ (s.pe.leg.walking = true ∧ s.pe.leg ≠ .hold)) (c : FaultCode) :
    classAConsequence s c = s := if_neg (by simpa using h)

theorem classAConsequence_walking {s : State} (h : s.pe.leg.walking = true ∧ s.pe.leg ≠ .hold) (c : FaultCode) :
    classAConsequence s c = recordEvent (directHold (placeFrame s (alarmOf s c))) .holdEntered
      (BitVec.ofNat 8 s.pe.leg.code) := if_pos (by simpa using h)

/-- An Alarm that is placed may cost a leg in CLAIM its Lift Notice; the leg walks on, and to HOLD from there (R107). -/
theorem placeFrame_walking {s : State} (h : s.pe.leg.walking = true ∧ s.pe.leg ≠ .hold) (f : TxFrame) :
    (placeFrame s f).pe.leg.walking = true ∧ (placeFrame s f).pe.leg ≠ .hold := by
  obtain hleg | ⟨-, hleg⟩ := placeFrame_leg s f
  · rwa [hleg]
  · rw [hleg]; decide

theorem placeFrame_tu (s : State) (f : TxFrame) : (placeFrame s f).tu = s.tu := by simp

theorem placeFrame_fsu (s : State) (f : TxFrame) : (placeFrame s f).fsu = s.fsu := by simp

/-- The stop of a walking leg by the consequences of a class-A report (R105, R152, R154). -/
theorem classAConsequence_stopped (s : State) (c : FaultCode) : Stopped s (classAConsequence s c) := by
  by_cases h : s.pe.leg.walking = true ∧ s.pe.leg ≠ .hold
  · obtain ⟨u, hu⟩ : ∃ u, u = placeFrame s (alarmOf s c) := ⟨_, rfl⟩
    have hwalk : u.pe.leg.walking = true ∧ u.pe.leg ≠ .hold := hu ▸ placeFrame_walking h _
    have hstop := directHold_stopped u
    rw [Stopped, if_pos hwalk] at hstop
    obtain ⟨hleg, hpe, htu⟩ := hstop
    have hend : (classAConsequence s c).pe = (directHold u).pe ∧ (classAConsequence s c).tu = (directHold u).tu := by
      rw [classAConsequence_walking h, ← hu]
      simp
    rw [Stopped, if_pos h, hend.1, hend.2]
    refine ⟨hleg, fun hclaim => ?_, ?_⟩
    · have hkept : u.pe = s.pe := hu ▸ placeFrame_pe_of_ne s _ hclaim
      rw [hpe (by rwa [hkept]), hkept]
    · rw [htu, hu, placeFrame_tu, placeFrame_fsu]
      obtain hkept | ⟨hclaim, hstance⟩ := placeFrame_leg s (alarmOf s c)
      · rw [hkept]
      · rw [hclaim, hstance]
        rfl
  · rw [classAConsequence_rest h, Stopped, if_neg h]
    exact ⟨rfl, rfl⟩

theorem classAConsequence_logs (s : State) (c : FaultCode) : Logs s (classAConsequence s c) (holdNote s) := by
  unfold holdNote
  split
  next h =>
    obtain ⟨u, hu⟩ : ∃ u, u = placeFrame s (alarmOf s c) := ⟨_, rfl⟩
    have hsilent : Logs s (directHold u) [] := by rw [Logs, directHold_flt, hu]; simp
    have hheld : (directHold u).pe.leg ≠ .setup := by
      rw [directHold_leg, if_pos (hu ▸ (placeFrame_walking h _).1)]
      decide
    have hs : s.pe.leg ≠ .setup := fun e => by simp [e, LegState.walking] at h
    rw [classAConsequence_walking h, ← hu]
    exact logs_recordEvent hsilent hs hheld (by simp [hu]) (by simp [hu]) .holdEntered _
  next h => rw [classAConsequence_rest h]; rfl

/-- What an Alarm in the queue at the report becomes: an Event frame does not displace it, HOLD takes out no Alarm. -/
theorem mem_classAConsequence {s : State} (h : s.pe.leg.walking = true ∧ s.pe.leg ≠ .hold) {c : FaultCode} {g : TxFrame}
    (hg : g.kind = some .alarm) : g ∈ (classAConsequence s c).txq.frames ↔
      g ∈ (s.txq.place (alarmOf s c)).1.frames := by
  have hend := Noted.record (directHold (placeFrame s (alarmOf s c))) .holdEntered (BitVec.ofNat 8 s.pe.leg.code)
  rw [classAConsequence_walking h, ← placeFrame_txq]
  exact ⟨fun hmem => mem_of_mem_directHold (hend.mem_of_mem (by simp [hg]) hmem),
    fun hmem => hend.alarm_stays hg (mem_directHold hg hmem)⟩

/-- The Alarm of a class-A report (R141, R152). -/
theorem alarmPlaced_of_recorded {s u : State} {ns : List Note} (h : Recorded s u ns) (c : FaultCode) :
    AlarmPlaced s (classAConsequence u c) c := by
  have halarm : alarmOf u c = alarmOf s c := by simp only [alarmOf, State.newFrame, h.sbi, h.pe]
  unfold AlarmPlaced
  dsimp only
  split
  next hwalk =>
    obtain ⟨hwalk, hnone⟩ := hwalk
    have hwalk' : u.pe.leg.walking = true ∧ u.pe.leg ≠ .hold := by rwa [h.pe]
    have hnone' : ∀ g ∈ u.txq.frames, g.kind ≠ some .alarm := fun g hg hk => hnone g ((h.stays g hk).1 hg) hk
    refine ⟨fun g hg hk => ?_, fun hroom => ?_⟩
    · rw [mem_classAConsequence hwalk' hk, halarm] at hg
      exact (mem_place hg).resolve_right fun hmem => hnone' g hmem hk
    · refine (mem_classAConsequence hwalk' (alarmOf_kind s c)).2 ?_
      rw [halarm]
      exact alarm_enters (alarmOf_kind s c) hnone' (hroom.imp h.room fun hq => ⟨h.ordered hq.1, h.lock hq.2⟩)
  next hwait =>
    by_cases hwalk : s.pe.leg.walking = true ∧ s.pe.leg ≠ .hold
    · have hwalk' : u.pe.leg.walking = true ∧ u.pe.leg ≠ .hold := by rwa [h.pe]
      obtain ⟨w, hw, hk⟩ : ∃ w ∈ s.txq.frames, w.kind = some .alarm := by simpa [hwalk] using hwait
      have hdropped : u.txq.place (alarmOf u c) = (u.txq, none) :=
        place_alarm_of_waiting (alarmOf_kind u c) (List.any_eq_true.2 ⟨w, (h.stays w hk).2 hw, by simp [hk]⟩)
      refine ⟨fun g hg hk' => ?_, fun _ _ _ _ => ⟨w, ?_, hk⟩⟩
      · rw [mem_classAConsequence hwalk' hk', hdropped] at hg
        exact (h.stays g hk').1 hg
      · rw [mem_classAConsequence hwalk' hk, hdropped]
        exact (h.stays w hk).2 hw
    · rw [classAConsequence_rest (by rwa [h.pe])]
      exact ⟨fun g hg hk => (h.stays g hk).1 hg, fun h1 h2 => absurd ⟨h1, h2⟩ hwalk⟩

/-- The events of a report of class A, its entry to HOLD among them. -/
theorem reportFault_logs {s : State} {r : Report} (hA : r.fault.classA = true) :
    Logs s (reportFault s r) (reportNotes s r ++ holdNote s) := by
  have h := recorded_spec s r
  have hin : noteIn (recorded s r) = noteIn s :=
    noteIn_congr (by funext b; simp [letIn, State.eventMask, h.pe, h.setup]) (by rw [h.time])
  have hnote : holdNote (recorded s r) = holdNote s := by simp only [holdNote, h.pe]
  rw [reportFault_eq s r hA, ← hnote]
  exact logs_append h.logs (classAConsequence_logs _ _) hin

/-- A report of a class-A fault: its record, its Alarm and the stop of the leg (R150, R152). -/
theorem reportFault_taken {s : State} {r : Report} (hA : r.fault.classA = true) :
    FaultTaken s (reportFault s r) r.fault (reportNotes s r ++ holdNote s) := by
  have h := recorded_spec s r
  obtain ⟨hflags, -, -, -, hcount⟩ := reportFault_flt s r
  refine ⟨by simp [SameElsewhere], ⟨hflags, reportFault_first s r, hcount, reportFault_logs hA, ?_⟩, ?_⟩
  · rw [reportFault_eq s r hA]
    exact alarmPlaced_of_recorded h r.fault
  · have hstop := classAConsequence_stopped (recorded s r) r.fault
    rw [← reportFault_eq s r hA] at hstop
    simpa only [Stopped, h.pe, h.tu, h.fsu] using hstop

end Sys2Proof.ClassAFaults
end

section
/-! Faults of the line, of station numbers and leg positions, of the tilt and of the drive's answers (R14, R24, R47, R52, R137),
and the other ends of a frame on the two local links (R60, R61, R135 to R137). -/

-- Elaborated in order: elaborated at once, the many proofs here take more threads than the check has memory for.
set_option Elab.async false

namespace Sys2Proof.LineFaults
open Sys2Proof Sys2Proof.Machine Sys2Proof.Laws Sys2Proof.QueueRules Sys2Proof.Keeping Sys2Proof.IntentStorage
  Sys2Proof.FaultCommands Sys2Proof.ClassAFaults Sys2Proof.StrideBus

/-! ## Reports that have no event of their own beside "fault latched" -/

theorem reportNotes_plain (s : State) (c : FaultCode) : reportNotes s (.plain c) = latchNote s c := List.append_nil _

theorem taken_plain (s : State) {c : FaultCode} (hA : c.classA = true) :
    FaultTaken s (reportFault s (.plain c)) c (latchNote s c ++ holdNote s) := by
  have h := reportFault_taken (s := s) (r := .plain c) hA
  rwa [reportNotes_plain] at h

/-- Of the conditions such a report moves its own, and no source of CLASH (R150). -/
theorem conds_plain (s : State) (c : FaultCode) :
    (reportFault s (.plain c)).flt.conds = s.flt.conds.set c.idx true ∧
    (reportFault s (.plain c)).flt.clashStation = s.flt.clashStation ∧
    (reportFault s (.plain c)).flt.clashPosition = s.flt.clashPosition := by
  obtain ⟨-, hconds, hstation, hposition, -⟩ := reportFault_flt s (.plain c)
  exact ⟨hconds, hstation.trans (Bool.or_false _), hposition.trans (Bool.or_false _)⟩

/-! ## The stuck line (R24) -/

theorem elapse_tx_eq_stuck (s : State) (dt : Nat) : (elapse s dt).sbi.tx = .stuck ↔ s.sbi.tx = .stuck := by
  show (s.sbi.after dt).tx = .stuck ↔ _
  unfold Sbi.after
  split
  next harb => simp only [harb]; split <;> simp
  next hsend => simp [hsend]
  next => rfl

theorem exec_interframeSpace {s : State} (hrx : s.sbi.rx = .waitIdle) (dt : Nat) :
    exec (.interframeSpace dt) s = .next (recoverLine (lineFree (elapse s dt))) := by
  refine congrArg Host.Outcome.next (if_pos ?_)
  simpa using hrx

/-- Settles O17: the interframe space, with and without a line to recover, and the stuck line. -/
theorem stuckLineAndRecovery : Obligations.StuckLineAndRecovery := by
  refine ⟨fun dt s hrx htx => ?_, fun dt s hrx htx => ?_, fun dt s hquiet => ?_⟩
  · have hfree : ¬ (lineFree (elapse s dt)).sbi.tx = .stuck := fun h => htx ((elapse_tx_eq_stuck s dt).1 h)
    rw [exec_interframeSpace hrx, recoverLine, if_neg hfree]
    rfl
  · have hstuck : (lineFree (elapse s dt)).sbi.tx = .stuck := (elapse_tx_eq_stuck s dt).2 htx
    refine ⟨_, (exec_interframeSpace hrx dt).trans (congrArg _ (if_pos hstuck)), ?_⟩
    exact recordEvent_onlyLogs _ .lineRecovered 0#8
  · intro e
    have hexec : exec (.busStuck dt) s = .next (reportFault e (.plain .busStuck)) := by
      refine congrArg Host.Outcome.next (if_neg ?_)
      simp [hquiet]
    exact ⟨_, hexec, taken_plain e rfl, conds_plain e .busStuck⟩

/-! ## Station numbers (R14) -/

/-- A frame with the own station number, heard, is a clash (R14). -/
theorem exec_stationClash {s : State} {f : RxFrame} {k : FrameKind} (h : Hears s) (hgood : f.good = true)
    (hk : f.kind = some k) (hown : f.source = s.sbi.station) (dt : Nat) :
    exec (.stationClash dt f) s = .next (stationClash (heard s dt) k) := by
  obtain ⟨htx, hrx⟩ := hears_elapse h dt
  have hstation : f.source = (elapse s dt).sbi.station := by simpa using hown
  have hstation' : f.source = (heard s dt).sbi.station := by simpa using hown
  show Host.Outcome.next (match f.kind with | some k => receive _ _ f k id | none => _) = _
  rw [hk]
  simp only [receive, htx, hgood, hstation, hrx, decide_true, Bool.and_self, Bool.not_true, Bool.or_self,
    Bool.false_eq_true, if_false]
  exact congrArg _ (if_pos hstation')

/-- A watch whose 1000 ms have not passed keeps its source (R14, R52). -/
theorem watchPassed_iff (s : State) (w : Micros) : watchPassed s (some w) = true ↔ 1000000 ≤ (s.time.us - w).toNat :=
  decide_eq_true_iff

/-- Settles O24: the clash is a report and a note in the watch; a watch ends its source or does nothing. -/
theorem stationClashWatched : Obligations.StationClashWatched := by
  refine ⟨fun dt s f k hears hgood hk hown => ?_, fun dt s w => ?_⟩
  · intro h e
    obtain ⟨hsame, hrecorded, hstopped⟩ := reportFault_taken (s := h) (r := .stationClash k h.time.us) rfl
    obtain ⟨-, hconds, hstation, hposition, -⟩ := reportFault_flt h (.stationClash k h.time.us)
    obtain ⟨htime, hsbi, hsetup, hpt, hfsu, hscu, hpending⟩ := hsame
    refine ⟨stationClash h k, exec_stationClash hears hgood hk hown dt,
      ⟨⟨htime, ?_, hsetup, hpt, hfsu, hscu, hpending⟩, hrecorded, hstopped⟩, hconds, ?_, ?_⟩
    · show { (reportFault h (.stationClash k h.time.us)).sbi with clashWatch := some h.time.us } = e.sbi
      rw [hsbi]
    · exact hstation.trans (Bool.or_true _)
    · exact hposition.trans (Bool.or_false _)
  · intro e age
    have hpassed : ∀ o : Option Micros, o = some w → (watchPassed e o = true ↔ 1000000 ≤ age) := by
      rintro _ rfl
      exact watchPassed_iff e w
    have hsbi : s.sbi.clashWatch = some w → e.sbi.clashWatch = some w := fun h => by simpa [e] using h
    refine ⟨fun hw hage => ?_, fun hw hage => ?_, fun hw hage => ?_, fun hw hage => ?_⟩
    · exact congrArg Host.Outcome.next (if_pos ((hpassed _ (hsbi hw)).2 hage))
    · exact congrArg Host.Outcome.next (if_neg (mt (hpassed _ (hsbi hw)).1 (by omega)))
    · exact congrArg Host.Outcome.next (if_pos ((hpassed _ hw).2 hage))
    · exact congrArg Host.Outcome.next (if_neg (mt (hpassed _ hw).1 (by omega)))

/-! ## The two local links (R60, R61, R135 to R137) -/

/-- A timer that the command's own time carries to its end is due (log entry 3). -/
theorem due_after {t : Timer} {k dt : Nat} (h : t = some k) (hk : k ≤ dt) : due (t.after dt) = true := by
  subst h
  simp [due, Timer.after, hk]

theorem footFrame_taken {s : State} {ok : Bool} (h : s.fsu.link ≠ .waitIdle) (hok : ok = true) (take : State → State) :
    footFrame s ok take = take (endFootFrame s) := if_pos (by simp [hok, h])

/-- Ten bytes that are not the reply, and a frame that fails, are bad replies (R135, R137). -/
theorem isBadReply_of {s : State} {b : LinkEnd} (h : linkFailed 10 b = true ∨ ∃ l, b = .whole l ∧ l.length = 10 ∧
    (linkCheckAgrees 10 l = false ∨ s.tu.window = none ∨ byteAt l 0 ≠ s.tu.tag ∨ 4 ≤ (byteAt l 1).toNat)) :
    isBadReply s b = true := by
  unfold isBadReply
  obtain h | ⟨l, rfl, hlen, hbad⟩ := h
  · rw [show linkFailed statusFields b = true from h]
    rfl
  · have hreply : isReply s l = false := by
      unfold isReply statusFrame statusFields
      obtain h | h | h | h := hbad
      · rw [h]; rfl
      · rw [h]; simp
      · simp [h]
      · simp [show ¬ (byteAt l 1).toNat < 4 by omega]
    simp [hlen, statusFields, hreply]

/-- A miss below the third, or while the drive is held lost, is only counted (R137). -/
theorem missReply_counted {s : State} (h : satInc s.tu.misses ≠ 3#8 ∨ s.tu.driveLost = true) :
    missReply s = { s with tu := { s.tu with window := none, misses := satInc s.tu.misses } } := by
  refine if_neg fun hlost => ?_
  obtain ⟨hmisses, hheld⟩ := hlost
  obtain h | h := h
  · exact h hmisses
  · rw [h] at hheld; cases hheld

/-- Settles O50: the end of each frame, and the miss that is the third. -/
theorem linkEventsAndMisses : Obligations.LinkEventsAndMisses := by
  refine ⟨fun dt s => ?_, fun dt s k hw hk => ?_⟩
  · intro e
    refine ⟨fun b hlink hb => congrArg Host.Outcome.next (footFrame_taken (s := e) hlink hb _),
      fun l hlink hl => congrArg Host.Outcome.next (footFrame_taken (s := e) hlink hl _),
      fun hlink => congrArg Host.Outcome.next (if_pos hlink), fun b hlink hb => ?_,
      fun hlink => congrArg Host.Outcome.next (if_pos hlink), fun k hk hle => ?_⟩
    · have hbad : isBadReply e b = true := by
        refine isBadReply_of (hb.imp_right fun ⟨l, hl, hlen, hc⟩ => ⟨l, hl, hlen, ?_⟩)
        refine hc.imp_right fun hc => hc.imp_left fun hw => ?_
        show s.tu.window.after dt = none
        rw [hw]
        rfl
      have hopen : (e.tu.link != .waitIdle) = true := bne_iff_ne.2 hlink
      exact congrArg Host.Outcome.next (if_pos (Bool.and_eq_true_iff.2 ⟨hbad, hopen⟩))
    · exact congrArg Host.Outcome.next (if_pos (due_after hk hle))
  · intro e m
    have hexec : exec (.answerWindowClose dt) s = .next (missReply e) :=
      congrArg Host.Outcome.next (if_pos (due_after hw hk))
    rw [hexec]
    refine ⟨fun hcounted => congrArg _ (missReply_counted (s := e) hcounted), fun hthird hheld => ?_⟩
    obtain ⟨d, hd⟩ : ∃ d : State, d = { e with tu := { e.tu with window := none, misses := m, driveLost := true } } :=
      ⟨_, rfl⟩
    have hmiss : missReply e = reportFault d (.plain .driveLost) := by
      rw [hd]
      exact if_pos ⟨hthird, hheld⟩
    rw [hmiss, ← hd]
    have htaken := taken_plain d (c := .driveLost) rfl
    have hconds := (conds_plain d .driveLost).1
    have hflt : d.flt = s.flt := by rw [hd]; rfl
    have hpe : d.pe.leg = s.pe.leg := by rw [hd]; rfl
    rw [show latchNote d .driveLost = latchNote s .driveLost by simp only [latchNote, hflt],
      show holdNote d = holdNote s by simp only [holdNote, hpe]] at htaken
    rw [hflt] at hconds
    exact ⟨_, rfl, htaken, hconds⟩

end Sys2Proof.LineFaults
end

section
/-! The frames that the Peer Table stores: positions that clash (R51, R52), Phase Notices and Leg Reports (R43 to R45, R54),
the claim protocol that a notice reaches (R106, R110, R111), and Body Reports with their tilt test (R46, R47). -/

-- Elaborated in order: elaborated at once, the many proofs here take more threads than the check has memory for.
set_option Elab.async false

namespace Sys2Proof.PeerFrames
open Sys2Proof Sys2Proof.Machine Sys2Proof.Laws Sys2Proof.QueueRules Sys2Proof.Keeping Sys2Proof.IntentStorage
  Sys2Proof.FaultCommands Sys2Proof.ClassAFaults Sys2Proof.LineFaults

/-! ## Positions that clash (R51, R52) -/

theorem mem_peers {s : State} {n : Fin 8} : n ∈ s.peers ↔ n ≠ s.sbi.station := by
  simp [State.peers, stations]

theorem positionClashes_iff (s : State) (src : Fin 8) (p : LegPos) : positionClashes s src p = true ↔ Clashes s src p := by
  have hpeer (n : Fin 8) : (n != src && (match s.legOf n with | some l => l.pos == p | none => false)) = true ↔
      n ≠ src ∧ ∃ l, s.legOf n = some l ∧ l.pos = p := by
    cases s.legOf n <;> simp
  simp only [positionClashes, Clashes, Bool.or_eq_true, beq_iff_eq, List.any_eq_true]
  refine or_congr_right ⟨?_, ?_⟩
  · rintro ⟨n, hn, hclash⟩
    obtain ⟨hsrc, l, hl, hp⟩ := (hpeer n).1 hclash
    exact ⟨n, l, hsrc, mem_peers.1 hn, hl, hp⟩
  · rintro ⟨n, l, hsrc, hn, hl, hp⟩
    exact ⟨n, mem_peers.2 hn, (hpeer n).2 ⟨hsrc, l, hl, hp⟩⟩

theorem positionClashes_heard (s : State) (dt : Nat) (src : Fin 8) (p : LegPos) :
    positionClashes (heard s dt) src p = true ↔ Clashes s src p := by
  rw [positionClashes_iff]
  have hstation : (heard s dt).sbi.station = s.sbi.station := by simp
  unfold Clashes
  rw [hstation]
  exact Iff.rfl

/-- A Phase Notice and a Leg Report reach their owners, which test the position first. -/
theorem exec_phaseNotice {s : State} {f : RxFrame} (h : Accepted s f .phaseNotice) (dt : Nat) :
    exec (.phaseNoticeReceived dt f) s = .next (takeNotice (heard s dt) f.source f) :=
  congrArg _ (receive_accepted h dt _)

theorem exec_legReport {s : State} {f : RxFrame} (h : Accepted s f .legReport) (dt : Nat) :
    exec (.legReportReceived dt f) s = .next (takeLegReport (heard s dt) f.source f) :=
  congrArg _ (receive_accepted h dt _)

/-- Settles O33: the watch tells whether the clash is reported. -/
theorem positionClashDropped : Obligations.PositionClashDropped := by
  intro dt s f c hc hclash h e
  have hclash' : positionClashes h f.source (carriedPos f) = true := (positionClashes_heard s dt _ _).2 hclash
  have hexec : exec c s = .next (positionClash h f.source (carriedPos f)) := by
    obtain ⟨hacc, rfl⟩ | ⟨hacc, rfl⟩ := hc
    · exact (exec_legReport hacc dt).trans (congrArg _ (if_pos hclash'))
    · exact (exec_phaseNotice hacc dt).trans (congrArg _ (if_pos hclash'))
  rw [hexec]
  refine ⟨fun hwatch => ?_, fun hwatch => ?_⟩
  · have hrunning : ¬ s.pt.clashWatch.isNone = true := by simpa using hwatch
    rw [positionClash, if_neg (c := h.pt.clashWatch.isNone = true) hrunning]
    rfl
  · have hended : s.pt.clashWatch.isNone = true := by simpa using hwatch
    obtain ⟨u, hu⟩ : ∃ u, u = reportFault h (.positionClash f.source (carriedPos f)) := ⟨_, rfl⟩
    have htaken := reportFault_taken (s := h) (r := .positionClash f.source (carriedPos f)) rfl
    obtain ⟨-, hconds, hstation, hposition, -⟩ := reportFault_flt h (.positionClash f.source (carriedPos f))
    rw [← hu] at htaken hconds hstation hposition
    obtain ⟨⟨htime, hsbi, hsetup, hpt, hfsu, hscu, hpending⟩, hrecorded, hstopped⟩ := htaken
    rw [positionClash, if_pos (c := h.pt.clashWatch.isNone = true) hended, ← hu]
    refine ⟨_, rfl, ⟨⟨htime, hsbi, hsetup, ?_, hfsu, hscu, hpending⟩, hrecorded, hstopped⟩, hconds,
      hposition.trans (Bool.or_true _), hstation.trans (Bool.or_false _)⟩
    show { u.pt with clashWatch := some h.time.us } = e.pt
    rw [hpt]
    rfl

/-! ## A stored LEG part (R43, R44, R54) -/

/-- The record that a stored LEG part becomes, with the arrival's tag (section 3.2). -/
def legRecord (s : State) (guard : Bool) (l : LegPart) : Record :=
  { tag := s.time.us, stale := false, guard := guard, part := .leg l }

/-- PEER_SILENT after the record is written: it ends when no LEG record is marked any more (R54). -/
theorem silenceEnd_leg (u : State) : silenceEnd u .leg =
    { u with
      pt := { u.pt with peerSilent := u.pt.peerSilent && anyLegMarked u }
      flt := { u.flt with
        conds := if u.pt.peerSilent && !anyLegMarked u then u.flt.conds.set FaultCode.peerSilent.idx false
          else u.flt.conds } } := by
  unfold silenceEnd
  dsimp only
  have hends : ∀ p m : Bool, (p && m) = if p && !m then false else p := by decide
  rw [hends u.pt.peerSilent (anyLegMarked u)]
  split <;> rfl

/-- Storing a LEG part changes the record, and ends PEER_SILENT when no mark is left; nothing else moves. -/
theorem storePart_leg (s : State) (src : Fin 8) (guard : Bool) (l : LegPart) :
    let t := storePart s src guard (.leg l) .leg
    LegStored s t src guard l ∧ t.flt = { s.flt with conds := legConds s t } ∧
      t = { s with pt := t.pt, flt := t.flt } := by
  have ht : storePart s src guard (.leg l) .leg = silenceEnd (setRecord s src (some (legRecord s guard l))) .leg := rfl
  rw [ht, silenceEnd_leg]
  refine ⟨⟨?_, fun n hn => ?_, rfl, rfl, rfl, rfl, rfl⟩, rfl, rfl⟩
  · exact Vector.getElem_set_self _
  · exact Vector.getElem_set_ne src.isLt n.isLt fun h => hn (Fin.ext h.symm)

/-! ## What a stored frame leads to -/

/-- The storage of a LEG part is judged by the Peer Table alone. -/
theorem legStored_congr {s u t : State} {src : Fin 8} {guard : Bool} {l : LegPart} (h : LegStored s u src guard l)
    (hpt : t.pt = u.pt) (hsbi : t.sbi = u.sbi) : LegStored s t src guard l ∧ legConds s t = legConds s u := by
  have hmarked : anyLegMarked t = anyLegMarked u := by
    simp only [anyLegMarked, State.peers, State.record, hpt, hsbi]
  constructor
  · unfold LegStored State.record at *
    rwa [hpt, hmarked]
  · rw [legConds, legConds, hmarked]

/-- The LEG part that a Phase Notice leaves (R44). -/
def noticePart (s : State) (f : RxFrame) : LegPart :=
  { (s.legOf f.source).getD (LegPart.empty (carriedPos f)) with
    state := noticeState f, slip := (f.b 0).getLsbD 0, steps := f.b 2 }

theorem storeNotice_eq (s : State) (f : RxFrame) :
    storeNotice s f.source f = storePart s f.source true (.leg (noticePart s f)) .leg := by
  unfold storeNotice noticePart
  cases s.legOf f.source <;> rfl

/-- A stored notice: the record, the end of PEER_SILENT, and nothing else; the source's LEG part is that of the notice. -/
theorem storeNotice_stored (s : State) (f : RxFrame) :
    let u := storeNotice s f.source f
    LegStored s u f.source true (noticePart s f) ∧ u.flt = { s.flt with conds := legConds s u } ∧
      u = { s with pt := u.pt, flt := u.flt } ∧ u.legOf f.source = some (noticePart s f) := by
  rw [storeNotice_eq]
  obtain ⟨hstored, hflt, hrest⟩ := storePart_leg s f.source true (noticePart s f)
  refine ⟨hstored, hflt, hrest, ?_⟩
  rw [State.legOf, hstored.1]
  rfl

/-- An accepted notice that does not clash is stored, and then reaches the Phase Engine (R44, R51). -/
theorem exec_notice_stored {s : State} {f : RxFrame} (h : Accepted s f .phaseNotice)
    (hfree : ¬ Clashes s f.source (carriedPos f)) (dt : Nat) : exec (.phaseNoticeReceived dt f) s =
      .next (hearNotice (storeNotice (heard s dt) f.source f) f.source f) :=
  (exec_phaseNotice h dt).trans (congrArg _ (if_neg fun hc => hfree ((positionClashes_heard s dt _ _).1 hc)))

/-- A notice that is neither a Lift Notice nor a CONFLICT naming this node goes no further (R15, R44). -/
theorem hearNotice_other {u : State} {f : RxFrame} (src : Fin 8) (hlift : (f.b 1).toNat ≠ 1)
    (hconflict : ¬ ((f.b 1).toNat = 7 ∧ (f.b 3).toNat = u.sbi.station.val)) : hearNotice u src f = u :=
  (if_neg hlift).trans (if_neg hconflict)

theorem hearNotice_lift {u : State} {f : RxFrame} (src : Fin 8) (hlift : (f.b 1).toNat = 1) :
    hearNotice u src f = hearLift u src := if_pos hlift

theorem hearNotice_conflict {u : State} {f : RxFrame} (src : Fin 8) (hcode : (f.b 1).toNat = 7)
    (hnamed : (f.b 3).toNat = u.sbi.station.val) : hearNotice u src f = namedInConflict u src :=
  (if_neg (by simp only [hcode]; decide)).trans (if_pos ⟨hcode, hnamed⟩)

/-- Settles O32: a notice that is neither LIFT nor a CONFLICT naming this node is only stored. -/
theorem noticeStored : Obligations.NoticeStored := by
  intro dt s f hacc hfree hlift hconflict h old
  obtain ⟨hstored, hflt, hrest, -⟩ := storeNotice_stored h f
  have hstation : (storeNotice h f.source f).sbi.station = s.sbi.station := by rw [hrest]; simp [h]
  have hother : hearNotice (storeNotice h f.source f) f.source f = storeNotice h f.source f :=
    hearNotice_other f.source hlift (by rwa [hstation])
  refine ⟨_, (exec_notice_stored hacc hfree dt).trans (congrArg _ hother), hstored, hflt, ?_⟩
  rw [hrest]
  exact ⟨rfl, rfl, rfl, rfl, rfl, rfl, rfl, rfl⟩

/-- What a Leg Report leaves of the record, whatever the guard (R43). -/
theorem reportPart_eq (s : State) (src : Fin 8) (f : RxFrame) : ∃ state slip steps,
    reportPart s src f = { decodeLegReport f with state := state, slip := slip, steps := steps } := by
  unfold reportPart
  split
  · split
    · split
      next old _ => exact ⟨old.state, old.slip, old.steps, rfl⟩
      next => exact ⟨_, _, _, rfl⟩
    · exact ⟨_, _, _, rfl⟩
  · exact ⟨_, _, _, rfl⟩

theorem reportPart_of_guard {s : State} {src : Fin 8} {r : Record} {old : LegPart} (f : RxFrame)
    (hr : s.record src = some r) (hguard : r.guard = true) (hpart : r.part = .leg old) :
    reportPart s src f = (decodeLegReport f).keepHeld old := by
  have hleg : r.legPart = some old := by rw [Record.legPart, hpart]
  simp only [reportPart, hr, hguard, hleg, if_true]

theorem reportPart_of_no_guard {s : State} {src : Fin 8} (f : RxFrame)
    (h : ∀ r, s.record src = some r → r.guard = false) : reportPart s src f = decodeLegReport f := by
  cases hr : s.record src with
  | none => simp only [reportPart, hr]
  | some r => simp only [reportPart, hr, h r hr, Bool.false_eq_true, if_false]

/-- The wait code of b1 (R26). -/
theorem decodeLegReport_wait (f : RxFrame) : (decodeLegReport f).wait.toNat = (f.b 1).toNat / 4 % 16 := by
  show ((f.b 1).extractLsb' 2 4).toNat = _
  rw [BitVec.extractLsb'_toNat, Nat.shiftRight_eq_div_pow]

/-- Settles O34: the LEG part is that of the report, but for what a set notice guard keeps. -/
theorem legReportStored : Obligations.LegReportStored := by
  intro dt s f hacc hfree h
  obtain ⟨hstored, hflt, hrest⟩ := storePart_leg h f.source false (reportPart h f.source f)
  have hexec : exec (.legReportReceived dt f) s =
      .next (storePart h f.source false (.leg (reportPart h f.source f)) .leg) :=
    (exec_legReport hacc dt).trans (congrArg _ (if_neg fun hc => hfree ((positionClashes_heard s dt _ _).1 hc)))
  have hheld : ∀ r old, s.record f.source = some r → r.guard = true → r.part = .leg old →
      (reportPart h f.source f).state = old.state ∧ (reportPart h f.source f).slip = old.slip ∧
        (reportPart h f.source f).steps = old.steps := fun r old hr hguard hpart => by
    rw [reportPart_of_guard (s := h) f hr hguard hpart]
    exact ⟨rfl, rfl, rfl⟩
  have hopen : (∀ r, s.record f.source = some r → r.guard = false) →
      (reportPart h f.source f).state = legStateOfCode ((f.b 0).toNat / 8) ∧
        (reportPart h f.source f).slip = (f.b 0).getLsbD 0 ∧ (reportPart h f.source f).steps = f.b 3 := fun hno => by
    rw [reportPart_of_no_guard (s := h) f hno]
    exact ⟨rfl, rfl, rfl⟩
  have hwait := decodeLegReport_wait f
  obtain ⟨state, slip, steps, hpart⟩ := reportPart_eq h f.source f
  refine ⟨_, _, hexec, hstored, reportPart_pos _ _ _, ?_, ?_, ?_, ?_, ?_, ?_, hheld, hopen, hflt, ?_⟩
  · have htwo : (f.b 1).toNat / 64 < 4 := by omega
    rw [hpart]
    show contactOfCode ((f.b 1).toNat / 64) = _
    rw [contactOfCode, Nat.mod_eq_of_lt htwo] <;> rfl
  · rw [hpart]; exact hwait
  · rw [hpart]; rfl
  · rw [hpart]; rfl
  · rw [hpart, ← hwait]; rfl
  · rw [hpart]; rfl
  · rw [hrest]
    exact ⟨rfl, rfl, rfl, rfl, rfl, rfl, rfl, rfl⟩

/-- The own position, leg, gait, slip state and step count make the bytes of a notice (R94). -/
theorem noticeFrame_congr {s t : State} (hstation : t.sbi.station = s.sbi.station) (hsetup : t.setup = s.setup)
    (hleg : t.pe.leg = s.pe.leg) (hgait : t.pe.applied = s.pe.applied) (hsteps : t.pe.steps = s.pe.steps)
    (hslip : t.fsu.slipping = s.fsu.slipping) (n : Notice) (named : Byte) :
    t.noticeFrame n named = s.noticeFrame n named := by
  simp only [State.noticeFrame, State.newFrame, State.legPos, State.uword, hstation, hsetup, hleg, hgait, hsteps, hslip]

/-- What a stored notice shares with the state of its arrival, in which it then reaches the Phase Engine. -/
structure Arrived (h u : State) (f : RxFrame) : Prop where
  stored : LegStored h u f.source true (noticePart h f)
  flt : u.flt = { h.flt with conds := legConds h u }
  rest : u = { h with pt := u.pt, flt := u.flt }
  leg : u.legOf f.source = some (noticePart h f)

theorem arrived (h : State) (f : RxFrame) : Arrived h (storeNotice h f.source f) f := by
  obtain ⟨hstored, hflt, hrest, hleg⟩ := storeNotice_stored h f
  exact ⟨hstored, hflt, hrest, hleg⟩

namespace Arrived
variable {h u : State} {f : RxFrame} (ha : Arrived h u f)
include ha

theorem time : u.time = h.time := by rw [ha.rest]
theorem sbi : u.sbi = h.sbi := by rw [ha.rest]
theorem setup : u.setup = h.setup := by rw [ha.rest]
theorem fsu : u.fsu = h.fsu := by rw [ha.rest]
theorem pe : u.pe = h.pe := by rw [ha.rest]
theorem scu : u.scu = h.scu := by rw [ha.rest]
theorem tu : u.tu = h.tu := by rw [ha.rest]
theorem txq : u.txq = h.txq := by rw [ha.rest]

/-- What the Phase Engine makes of the notice leaves its storage. -/
theorem stored_of {t : State} (hpt : t.pt = u.pt) (hsbi : t.sbi = u.sbi) :
    LegStored h t f.source true (noticePart h f) ∧ legConds h t = legConds h u := legStored_congr ha.stored hpt hsbi

end Arrived

theorem noticePart_eq (h : State) {f : RxFrame} (hcode : (f.b 1).toNat ≠ 2) : noticePart h f =
    { (h.legOf f.source).getD (LegPart.empty (carriedPos f)) with
      state := legStateOfCode ((f.b 0).toNat / 8), slip := (f.b 0).getLsbD 0, steps := f.b 2 } := by
  have hstate : noticeState f = legStateOfCode ((f.b 0).toNat / 8) := if_neg hcode
  rw [noticePart, hstate]

/-- A claim given up: the notice leaves the queue and the leg returns (R92, R143). -/
theorem giveUpClaim_eq (s : State) : giveUpClaim s = { s with pe := claimLostPe s, txq := withoutLift s.txq } := rfl

theorem claimLostPe_congr {s t : State} (hpe : t.pe = s.pe) : claimLostPe t = claimLostPe s := by
  simp only [claimLostPe, State.beta, hpe]

theorem cancelledPe_congr {s t : State} (hpe : t.pe = s.pe) : cancelledPe t = cancelledPe s := by
  simp only [cancelledPe, State.beta, hpe]

/-- A Lift Notice reaches the Phase Engine when its sender's stored position is exclusive (R57, R58; log entry 31). -/
theorem exclusiveNeighbour_eq {u : State} {src : Fin 8} {l : LegPart} (h : u.legOf src = some l) :
    exclusiveNeighbour u src = exclusiveUnder u.pe.applied.gait (relation u.legPos l.pos) := by
  rw [exclusiveNeighbour, h]

/-- Settles O35: the notice is stored, and the exclusive neighbour heard by the leg state. -/
theorem liftNoticeHeard : Obligations.LiftNoticeHeard := by
  intro dt s f hacc hfree hlift h old near conflict
  obtain ⟨u, hu⟩ : ∃ u, u = storeNotice h f.source f := ⟨_, rfl⟩
  have ha : Arrived h u f := hu ▸ arrived h f
  have hpart := noticePart_eq h (f := f) (by omega)
  have hexec : exec (.phaseNoticeReceived dt f) s = .next (hearLift u f.source) := by
    rw [exec_notice_stored hacc hfree, hearNotice_lift _ hlift, hu]
  have hnear : exclusiveNeighbour u f.source = near := by
    rw [exclusiveNeighbour_eq ha.leg, State.legPos, State.uword, ha.pe, ha.setup]
    rfl
  have hkept : ∀ t : State, t.pt = u.pt → t.sbi = u.sbi → t.flt = { u.flt with retry := t.flt.retry } →
      LegStored h t f.source true
        { old with
          state := legStateOfCode ((f.b 0).toNat / 8), slip := (f.b 0).getLsbD 0, steps := f.b 2 } ∧
      t.flt = { s.flt with conds := legConds h t, retry := t.flt.retry } := by
    intro t hpt hsbi hflt
    obtain ⟨hst, hc⟩ := ha.stored_of hpt hsbi
    rw [hpart] at hst
    refine ⟨hst, ?_⟩
    rw [hflt, ha.flt, hc]
    rfl
  rw [hexec]
  unfold hearLift
  rw [hnear]
  cases hn : near with
  | false =>
    obtain ⟨hst, hflt⟩ := hkept u rfl rfl rfl
    exact ⟨u, rfl, hst, ha.time, ha.sbi, ha.setup, ha.fsu, ha.scu, ha.tu, hflt, nofun, nofun,
      fun _ => ⟨ha.pe, ha.txq⟩⟩
  | true =>
    rw [if_pos rfl]
    by_cases hclaim : s.pe.leg = .claim
    · rw [if_pos (by rw [ha.pe]; exact hclaim)]
      obtain ⟨hst, hflt⟩ := hkept (giveUpClaim u) rfl rfl rfl
      refine ⟨giveUpClaim u, rfl, hst, ha.time, ha.sbi, ha.setup, ha.fsu, ha.scu, ha.tu, hflt, fun _ _ => ?_, ?_, ?_⟩
      · rw [giveUpClaim_eq]
        exact ⟨claimLostPe_congr ha.pe, by rw [ha.txq]; rfl⟩
      · exact fun _ hs => by rw [hclaim] at hs; cases hs
      · rintro (h | ⟨h, -⟩)
        · cases h
        · exact absurd hclaim h
    · rw [if_neg (by rw [ha.pe]; exact hclaim)]
      by_cases hsteps : s.pe.leg.stepping = true
      · rw [if_pos (by rw [ha.pe]; exact hsteps)]
        have hframe : u.noticeFrame .conflict (BitVec.ofNat 8 f.source.val) = conflict :=
          noticeFrame_congr (s := s) (by rw [ha.sbi]; simp [h]) ha.setup (by rw [ha.pe]; rfl) (by rw [ha.pe]; rfl)
            (by rw [ha.pe]; rfl) (by rw [ha.fsu]; rfl) _ _
        rw [hframe]
        have hpe : (placeFrame u conflict).pe = h.pe :=
          (placeFrame_pe_of_ne u _ (by rw [ha.pe]; exact hclaim)).trans ha.pe
        obtain ⟨hst, hflt⟩ := hkept (placeFrame u conflict) (by simp) (by simp) (placeFrame_flt u _)
        refine ⟨placeFrame u conflict, rfl, hst, ?_, ?_, ?_, ?_, ?_, ?_, hflt, fun _ h => absurd h hclaim, fun _ _ => ?_,
          ?_⟩
        · simp [ha.time]
        · simp [ha.sbi]
        · simp [ha.setup]
        · simp [ha.fsu]
        · simp [ha.scu]
        · simp [ha.tu]
        · refine ⟨hpe, ?_⟩
          rw [placeFrame_txq, ha.txq]
          rfl
        · rintro (h | ⟨-, h⟩)
          · cases h
          · rw [hsteps] at h; cases h
      · rw [if_neg (by rw [ha.pe]; exact hsteps)]
        obtain ⟨hst, hflt⟩ := hkept u rfl rfl rfl
        exact ⟨u, rfl, hst, ha.time, ha.sbi, ha.setup, ha.fsu, ha.scu, ha.tu, hflt, fun _ h => absurd h hclaim,
          fun _ h => absurd h hsteps, fun _ => ⟨ha.pe, ha.txq⟩⟩

/-! ## A CONFLICT that names the node (R111) -/

/-- The conditions play no part in what a class-A fault that is taken shows of itself. -/
theorem faultTaken_conds {s t : State} {c : FaultCode} {ns : List Note} (h : FaultTaken s t c ns) (v w : Vector Bool 17) :
    FaultTaken { s with flt := { s.flt with conds := v } } { t with flt := { t.flt with conds := w } } c ns := h

/-- OVERLAP is an occurrence: it is taken, and its condition has ended at the report (R111, R151). -/
theorem overlap_taken (u : State) (src : Fin 8) (v : Vector Bool 17) :
    FaultTaken { u with flt := { u.flt with conds := v } } (reportOccurrence u (.overlap src)) .overlap
      (latchNote u .overlap ++ holdNote u) ∧
    (reportOccurrence u (.overlap src)).flt.conds = u.flt.conds.set FaultCode.overlap.idx false ∧
    (reportOccurrence u (.overlap src)).flt.clashStation = u.flt.clashStation ∧
    (reportOccurrence u (.overlap src)).flt.clashPosition = u.flt.clashPosition := by
  obtain ⟨-, hconds, hstation, hposition, -⟩ := reportFault_flt u (.overlap src)
  refine ⟨?_, ?_, hstation.trans (Bool.or_false _), hposition.trans (Bool.or_false _)⟩
  · have h := reportFault_taken (s := u) (r := .overlap src) rfl
    rw [show reportNotes u (.overlap src) = latchNote u .overlap from List.append_nil _] at h
    exact faultTaken_conds h _ _
  · show (reportFault u (.overlap src)).flt.conds.set FaultCode.overlap.idx false = _
    rw [hconds]
    exact Vector.set_set ..

/-- The cancel of an unload that a CONFLICT brings, with its WITHDRAW notice (R92, R111). -/
theorem cancelUnload_spec (s : State) :
    (cancelUnload s).pe = cancelledPe s ∧ (cancelUnload s).tu = { s.tu with lowering := true } ∧
    (cancelUnload s).txq = (s.txq.place (noticeWith s .stance s.pe.applied.gait s.fsu.slipping 2 s.pe.steps 0xFF#8)).1 ∧
    (cancelUnload s).flt = { s.flt with retry := (cancelUnload s).flt.retry } ∧
    (cancelUnload s).time = s.time ∧ (cancelUnload s).sbi = s.sbi ∧ (cancelUnload s).setup = s.setup ∧
    (cancelUnload s).pt = s.pt ∧ (cancelUnload s).fsu = s.fsu ∧ (cancelUnload s).scu = s.scu ∧
    (cancelUnload s).pending = s.pending := by
  obtain ⟨u, hu⟩ : ∃ u : State, u = { s with pe := cancelledPe s, tu := { s.tu with lowering := true } } := ⟨_, rfl⟩
  have hcancel : cancelUnload s = placeFrame u (noticeWith s .stance s.pe.applied.gait s.fsu.slipping 2 s.pe.steps 0xFF#8) := by
    rw [hu]; rfl
  have hleg : u.pe.leg ≠ .claim := by rw [hu]; exact LegState.noConfusion
  have hflt := placeFrame_flt u (noticeWith s .stance s.pe.applied.gait s.fsu.slipping 2 s.pe.steps 0xFF#8)
  rw [hcancel]
  refine ⟨(placeFrame_pe_of_ne u _ hleg).trans (by rw [hu]), ?_, ?_, hflt.trans (by rw [hu]), ?_⟩
  · simp [hu]
  · rw [placeFrame_txq, hu]
  · simp [hu]

theorem noticeWith_congr {s t : State} (hstation : t.sbi.station = s.sbi.station) (hsetup : t.setup = s.setup)
    (leg : LegState) (g : Gait) (slip : Bool) (code : Nat) (steps named : Byte) :
    noticeWith t leg g slip code steps named = noticeWith s leg g slip code steps named := by
  simp only [noticeWith, State.legPos, State.uword, hstation, hsetup]

theorem namedInConflict_frame (u : State) (src : Fin 8) :
    let t := Machine.namedInConflict u src
    t.time = u.time ∧ t.sbi = u.sbi ∧ t.setup = u.setup ∧ t.pt = u.pt ∧ t.fsu = u.fsu ∧ t.scu = u.scu := by
  unfold Machine.namedInConflict
  split <;> simp [giveUpClaim_eq, reportOccurrence, endFault]

/-- The table of R111, row by row. -/
theorem namedInConflict_row (u : State) (src : Fin 8) :
    let t := Machine.namedInConflict u src
    (u.pe.leg = .claim → t = giveUpClaim u) ∧ (u.pe.leg = .unload → t = cancelUnload u) ∧
    (u.pe.leg = .swing ∨ u.pe.leg = .search ∨ u.pe.leg = .load → t = reportOccurrence u (.overlap src)) ∧
    (u.pe.leg = .stance ∨ u.pe.leg = .hold → t = recordEvent u .namedInConflict (BitVec.ofNat 8 src.val)) ∧
    (u.pe.leg = .ready → t = u) := by
  unfold Machine.namedInConflict
  cases u.pe.leg <;> simp

/-- Settles O36: the notice is stored, and then the table of R111 decides by the leg state. -/
theorem namedInConflict : Obligations.NamedInConflict := by
  intro dt s f hacc hfree hcode hnamed h old
  obtain ⟨u, hu⟩ : ∃ u, u = storeNotice h f.source f := ⟨_, rfl⟩
  have ha : Arrived h u f := hu ▸ arrived h f
  have hpart := noticePart_eq h (f := f) (by omega)
  have hstation : u.sbi.station = s.sbi.station := by rw [ha.sbi]; simp [h]
  have hleg : u.pe.leg = s.pe.leg := by rw [ha.pe]; rfl
  obtain ⟨t, ht⟩ : ∃ t, t = Machine.namedInConflict u f.source := ⟨_, rfl⟩
  have hexec : exec (.phaseNoticeReceived dt f) s = .next t := by
    rw [exec_notice_stored hacc hfree, ← hu, hearNotice_conflict _ hcode (by rwa [hstation]), ht]
  obtain ⟨htime, hsbi, hsetup, hpt, hfsu, hscu⟩ := namedInConflict_frame u f.source
  obtain ⟨hclaim, hunload, hoverlap, hevent, hready⟩ := namedInConflict_row u f.source
  rw [← ht] at htime hsbi hsetup hpt hfsu hscu hclaim hunload hoverlap hevent hready
  rw [hleg] at hclaim hunload hoverlap hevent hready
  obtain ⟨hstored, hconds⟩ := ha.stored_of hpt hsbi
  rw [hpart] at hstored
  have hflags : u.flt.flags = s.flt.flags := by rw [ha.flt]; rfl
  have hring : u.flt.ring = s.flt.ring ∧ u.flt.lost = s.flt.lost := by rw [ha.flt]; exact ⟨rfl, rfl⟩
  refine ⟨t, hexec, hstored, htime.trans ha.time, hsbi.trans ha.sbi, hsetup.trans ha.setup, hfsu.trans ha.fsu,
    hscu.trans ha.scu, fun hl => ?_, fun hl => ?_, fun hl => ?_, fun hl => ?_, fun hl => ?_⟩
  · rw [hclaim hl, giveUpClaim_eq]
    refine ⟨claimLostPe_congr ha.pe, by rw [ha.txq]; rfl, ha.tu, hflags, ?_⟩
    show (u.flt.ring, u.flt.lost) = _
    rw [hring.1, hring.2]
    rfl
  · obtain ⟨hpe, htu, htxq, hflt, -⟩ := cancelUnload_spec u
    rw [hunload hl]
    refine ⟨hpe.trans (cancelledPe_congr ha.pe), htu.trans (by rw [ha.tu]), by rw [hflt]; exact hflags, ?_, ?_⟩
    · unfold Logs
      rw [hflt, hring.1, hring.2]
      rfl
    · rw [htxq, ha.txq, ha.pe, ha.fsu, noticeWith_congr (s := s) hstation ha.setup]
      rfl
  · obtain ⟨htaken, hc, hcs, hcp⟩ := overlap_taken u f.source h.flt.conds
    rw [← hoverlap hl] at htaken hc hcs hcp
    have hbase : { u with flt := { u.flt with conds := h.flt.conds } } = { h with pt := t.pt } := by
      rw [hpt, ha.flt, ha.rest]
    rw [hbase] at htaken
    have hnotes : latchNote u .overlap ++ holdNote u = latchNote s .overlap ++ holdNote s := by
      simp only [latchNote, holdNote, hflags, hleg]
    rw [hnotes] at htaken
    refine ⟨htaken, ?_, hcs.trans (by rw [ha.flt]; rfl), hcp.trans (by rw [ha.flt]; rfl)⟩
    rw [hc, hconds, ha.flt]
  · obtain ⟨-, hpe, htu, hfl, -, -, -, -, -, hlogs, hoffered⟩ :=
      recordEvent_onlyLogs u .namedInConflict (BitVec.ofNat 8 f.source.val)
    rw [← hevent hl] at hpe htu hfl hlogs hoffered
    refine ⟨hpe.trans ha.pe, htu.trans ha.tu, hfl.trans hflags, ?_, ?_⟩
    · rw [ha.txq] at hoffered
      exact (offered_congr hstation _).1 hoffered
    · have hin : noteIn u = noteIn s := noteIn_congr
        (by funext b; simp only [letIn, State.eventMask, ha.setup, hleg]; rfl) (by rw [ha.time]; rfl)
      unfold Logs at hlogs
      rw [hring.1, hring.2, hin] at hlogs
      exact hlogs
  · rw [hready hl]
    exact ⟨ha.pe, ha.tu, ha.txq, ha.flt⟩

/-! ## Body Reports (R46, R47) -/

/-- A stored BODY part takes the place of the record, ends BODY_SILENT (R54) and moves nothing else. -/
theorem storePart_body (s : State) (src : Fin 8) (b : BodyPart) :
    storePart s src false (.body b) .body =
      { s with
        pt := { s.pt with
          records := s.pt.records.set src (some { tag := s.time.us, stale := false, guard := false, part := .body b })
          bodySilent := false }
        flt := { s.flt with
          conds := if s.pt.bodySilent then s.flt.conds.set FaultCode.bodySilent.idx false else s.flt.conds } } := by
  unfold storePart silenceEnd setRecord
  cases hs : s.pt.bodySilent <;> simp [hs, endFault]

theorem overTilt_eq (s : State) (b : BodyPart) :
    overTilt s b = decide (s.tiltLimit < b.pitch.toInt.natAbs ∨ s.tiltLimit < b.roll.toInt.natAbs) :=
  (Bool.decide_or _ _).symm

/-- Settles O37: the stored report goes through the tilt test, which has a case per condition and report. -/
theorem bodyReportStored : Obligations.BodyReportStored := by
  intro dt s f hacc h b beyond c stored
  have hexec : exec (.bodyReportReceived dt f) s = .next (storeBody h f.source f) :=
    congrArg _ (receive_accepted hacc dt _)
  obtain ⟨u, hu⟩ : ∃ u : State, u = { h with
      pt := { stored with tilt := s.pt.tilt }, flt := { s.flt with conds := c } } := ⟨_, rfl⟩
  have hstore : storeBody h f.source f = tiltTest u b := by
    rw [storeBody, storePart_body, hu]
    rfl
  have hover : overTilt u b = beyond := by
    rw [overTilt_eq, hu]
    rfl
  have htilt : u.pt.tilt = s.pt.tilt := by rw [hu]
  rw [hexec, hstore, tiltTest, hover, htilt]
  refine ⟨fun heq => ?_, fun hno hheld => ?_, fun hyes hended => ?_⟩
  · have hkeep : (if beyond then (if s.pt.tilt then u else reportFault { u with pt := { u.pt with tilt := true } } (.plain .tilt))
        else if s.pt.tilt then endFault { u with pt := { u.pt with tilt := false } } .tilt else u) = u := by
      rw [heq]
      cases s.pt.tilt <;> rfl
    rw [hkeep, hu]
    simp only [stored, heq]
  · rw [if_neg (by simp [hno]), if_pos hheld, hu]
    simp only [stored, hno]
    rfl
  · obtain ⟨v, hv⟩ : ∃ v : State, v = { u with pt := { u.pt with tilt := true } } := ⟨_, rfl⟩
    rw [if_pos hyes, if_neg (by simp [hended]), ← hv]
    have hbase : v = { h with pt := stored, flt := { s.flt with conds := c } } := by
      rw [hv, hu]
      simp only [stored, hyes]
    refine ⟨_, rfl, ?_, ?_⟩
    · have htaken := faultTaken_conds (taken_plain v (c := .tilt) rfl) h.flt.conds
        (reportFault v (.plain .tilt)).flt.conds
      rw [hbase] at htaken ⊢
      exact htaken
    · rw [(conds_plain v .tilt).1, hbase]

end Sys2Proof.PeerFrames
end

section
/-! The support check (R114 to R118): edges and their integer lengths, the triangle test, the corridor test, and the choice
between them. -/

-- Elaborated in order: elaborated at once, the many proofs here take more threads than the check has memory for.
set_option Elab.async false

namespace Sys2Proof.SupportTests
open Sys2Proof Sys2Proof.Machine Sys2Proof.Laws

/-! ## Edges (R116, R117) -/

/-- The squared length of the edge S to E. -/
def edgeSquare (a b : P2) : Int := (b.x - a.x) * (b.x - a.x) + (b.y - a.y) * (b.y - a.y)

/-- The side value of a point: the cross product of the edge S to E with the point seen from S. -/
def sideOf (a b p : P2) : Int := (b.x - a.x) * (p.y - a.y) - (b.y - a.y) * (p.x - a.x)

theorem edgeSquare_nonneg (a b : P2) : 0 ≤ edgeSquare a b :=
  add_nonneg (mul_self_nonneg _) (mul_self_nonneg _)

theorem edgeSquare_eq_zero {a b : P2} : edgeSquare a b = 0 ↔ a = b := by
  constructor
  · intro h
    unfold edgeSquare at h
    have hx : b.x - a.x = 0 := by nlinarith [mul_self_nonneg (b.x - a.x), mul_self_nonneg (b.y - a.y)]
    have hy : b.y - a.y = 0 := by nlinarith [mul_self_nonneg (b.x - a.x), mul_self_nonneg (b.y - a.y)]
    obtain ⟨ax, ay⟩ := a
    obtain ⟨bx, by'⟩ := b
    simp only [P2.mk.injEq]
    dsimp only at hx hy
    omega
  · rintro rfl
    simp [edgeSquare]

theorem edgeSquare_pos {a b : P2} (h : a ≠ b) : 0 < edgeSquare a b :=
  lt_of_le_of_ne (edgeSquare_nonneg a b) fun h0 => h (edgeSquare_eq_zero.1 h0.symm)

/-- Three feet that are not in line stand in three places (R115). -/
theorem ne_of_area2 {a b c : P2} (h : area2 a b c ≠ 0) : a ≠ b ∧ b ≠ c ∧ c ≠ a := by
  refine ⟨?_, ?_, ?_⟩ <;>
  · rintro rfl
    exact h (by unfold area2; ring)

theorem area2_swap (a b c : P2) : area2 a c b = -area2 a b c := by unfold area2; ring

/-- The floor of a quotient by a positive length (R116). -/
theorem fdiv_bounds {s l : Int} (h : 0 < l) : s.fdiv l * l ≤ s ∧ s < (s.fdiv l + 1) * l := by
  rw [Int.fdiv_eq_ediv_of_nonneg s h.le]
  exact ⟨Int.ediv_mul_le s h.ne', Int.lt_ediv_add_one_mul_self s h⟩

/-- The least integer whose square is at least the edge's squared length (R116). -/
theorem ceilSqrt_edge (a b : P2) : let l := ceilSqrt (edgeSquare a b).toNat
    edgeSquare a b ≤ l * l ∧ ∀ n : Nat, edgeSquare a b ≤ n * n → l ≤ n := by
  obtain ⟨hle, hleast⟩ := ceilSqrt_spec (edgeSquare a b).toNat
  refine ⟨?_, fun n hn => hleast n (Int.toNat_le.2 (by push_cast; exact hn))⟩
  have hcast := Int.toNat_le.1 hle
  push_cast at hcast
  exact hcast

theorem edgeMargin_is {a b p : P2} (h : a ≠ b) : EdgeMarginIs a b p (edgeMargin a b p) := by
  obtain ⟨hle, hleast⟩ := ceilSqrt_edge a b
  have hpos : (0 : Int) < ceilSqrt (edgeSquare a b).toNat := by
    have := edgeSquare_pos h
    by_contra hn
    have : (ceilSqrt (edgeSquare a b).toNat : Int) = 0 := by omega
    rw [this] at hle
    omega
  obtain ⟨hlo, hhi⟩ := fdiv_bounds (s := sideOf a b p) hpos
  exact ⟨ceilSqrt (edgeSquare a b).toNat, hle, hleast, hlo, hhi⟩

/-- A margin that is not negative is no more than the distance of the point from the edge (R116). -/
theorem inside_of_edgeMargin {a b p : P2} {k : Int} {m : Nat} (h : EdgeMarginIs a b p k) (hm : (m : Int) ≤ k) :
    Inside a b p m := by
  obtain ⟨l, hq, -, hlo, -⟩ := h
  have hs : (m : Int) * l ≤ sideOf a b p := (mul_le_mul_of_nonneg_right hm (by positivity)).trans hlo
  have hml : (0 : Int) ≤ m * l := by positivity
  refine ⟨hml.trans hs, ?_⟩
  calc (m * m : Int) * edgeSquare a b ≤ (m * m) * (l * l) := mul_le_mul_of_nonneg_left hq (by positivity)
    _ = (m * l) * (m * l) := by ring
    _ ≤ sideOf a b p * sideOf a b p := mul_self_le_mul_self hml hs

/-! ## The triangle (R115, R116) -/

theorem clampMargin_eq (m : Int) : clampMargin m = max (-2048) (min 2047 m) := clampInt_eq _ _ _ (by omega)

theorem triangleMargin_is {a b c p : P2} (h : area2 a b c ≠ 0) : TriangleMarginIs a b c p (triangleMargin a b c p) := by
  obtain ⟨hab, hbc, hca⟩ := ne_of_area2 h
  exact ⟨_, _, _, edgeMargin_is hab, edgeMargin_is hbc, edgeMargin_is hca, clampMargin_eq _⟩

/-- A margin that is not negative keeps the point that far inside every edge. -/
theorem inside_of_triangleMargin {a b c p : P2} {m : Int} (h : TriangleMarginIs a b c p m) (hm : 0 ≤ m) :
    Inside a b p m.toNat ∧ Inside b c p m.toNat ∧ Inside c a p m.toNat := by
  obtain ⟨x, y, z, hx, hy, hz, rfl⟩ := h
  exact ⟨inside_of_edgeMargin hx (by omega), inside_of_edgeMargin hy (by omega), inside_of_edgeMargin hz (by omega)⟩

theorem swayRequest_eq (a b c p : P2) (sway : Nat) : swayRequest a b c p sway = swayAsked a b c p sway := by
  unfold swayRequest swayAsked
  rw [clampInt_eq _ _ _ (by omega), clampInt_eq _ _ _ (by omega)]

/-- Three feet that are not in line: the margin decides (R115, R116, R118). -/
theorem triangleTest_eq {a b c : P2} (h : area2 a b c ≠ 0) (p : P2) (m sway : Nat) :
    let margin := if 0 < area2 a b c then triangleMargin a b c p else triangleMargin a c b p
    triangleTest a b c p m sway =
      if (m : Int) ≤ margin then { pass := true, reason := .none, n := 3, margin := margin, sway := none }
      else { pass := false, reason := .margin, n := 3, margin := margin, sway := some (swayAsked a b c p sway) } := by
  rw [triangleTest, if_neg h, swayRequest_eq]

/-! ## The corridor (R117) -/

/-- The greatest integer whose square is at most the edge's squared length (R117). -/
theorem floorSqrt_edge (a b : P2) : let l := floorSqrt (edgeSquare a b).toNat
    (l * l : Int) ≤ edgeSquare a b ∧ ∀ n : Nat, (n * n : Int) ≤ edgeSquare a b → n ≤ l := by
  have hq := edgeSquare_nonneg a b
  obtain ⟨hle, hlt⟩ := floorSqrt_spec (edgeSquare a b).toNat
  refine ⟨?_, fun n hn => ?_⟩
  · have hcast := (Int.le_toNat hq).1 hle
    push_cast at hcast
    exact hcast
  · have hn' : n * n ≤ (edgeSquare a b).toNat := (Int.le_toNat hq).2 (by push_cast; exact hn)
    exact Nat.lt_succ_iff.1 (Nat.mul_self_lt_mul_self_iff.1 (hn'.trans_lt hlt))

theorem ceilDiv_spec {n l : Nat} (h : 0 < l) : n ≤ Machine.ceilDiv n l * l ∧ ∀ d : Nat, n ≤ d * l → Machine.ceilDiv n l ≤ d := by
  unfold Machine.ceilDiv
  have hmod := Nat.div_add_mod (n + l - 1) l
  have hlt := Nat.mod_lt (n + l - 1) h
  refine ⟨?_, fun d hd => ?_⟩
  · rw [Nat.mul_comm]; omega
  · exact Nat.lt_succ_iff.1 ((Nat.div_lt_iff_lt_mul h).2 (by rw [Nat.succ_mul]; omega))

/-- The margin of the corridor test before clamping (R117). -/
def corridorMargin (a b p : P2) (w : Nat) : Int :=
  clampMargin ((w : Int) - Machine.ceilDiv (sideOf a b p).natAbs (floorSqrt (edgeSquare a b).toNat))

theorem floorSqrt_edge_pos {a b : P2} (h : a ≠ b) : 0 < floorSqrt (edgeSquare a b).toNat :=
  (floorSqrt_edge a b).2 1 (by have := edgeSquare_pos h; push_cast; omega)

theorem corridorMargin_is {a b p : P2} (h : a ≠ b) (w : Nat) : CorridorMarginIs a b p w (corridorMargin a b p w) := by
  obtain ⟨hle, hmost⟩ := floorSqrt_edge a b
  obtain ⟨hd, hleast⟩ := ceilDiv_spec (n := (sideOf a b p).natAbs) (floorSqrt_edge_pos h)
  exact ⟨_, _, hle, hmost, hd, hleast, clampMargin_eq _⟩

/-- Two feet in one place give no corridor (R117). -/
theorem corridorTest_of_eq {a b : P2} (h : a = b) (p : P2) (w : Nat) : corridorTest a b p w = supportCountFail 2 :=
  if_pos (edgeSquare_eq_zero.2 h)

/-- Two feet in different places: the margin decides, with the point between the feet (R117). -/
theorem corridorTest_eq {a b : P2} (h : a ≠ b) (p : P2) (w : Nat) (hb : Decidable (Between a b p)) :
    corridorTest a b p w =
      if 0 ≤ corridorMargin a b p w ∧ Between a b p then
        { pass := true, reason := .none, n := 2, margin := corridorMargin a b p w, sway := none }
      else { pass := false, reason := .margin, n := 2, margin := corridorMargin a b p w, sway := none } := by
  have hq : ¬ (b.x - a.x) * (b.x - a.x) + (b.y - a.y) * (b.y - a.y) = 0 := fun h0 => h (edgeSquare_eq_zero.1 h0)
  rw [corridorTest]
  dsimp only
  rw [if_neg hq]
  exact if_congr Iff.rfl rfl rfl

/-- A margin that is not negative, and a place between the feet, put the point in the corridor (R117). -/
theorem inCorridor_of_margin {a b p : P2} {w : Nat} {m : Int} (h : a ≠ b) (hm : CorridorMarginIs a b p w m) (h0 : 0 ≤ m)
    (hb : Between a b p) : InCorridor a b p w := by
  obtain ⟨l, d, hl, -, hd, -, rfl⟩ := hm
  have hdw : d ≤ w := by omega
  have hs : (sideOf a b p).natAbs ≤ w * l := hd.trans (Nat.mul_le_mul_right l hdw)
  have hsq : sideOf a b p * sideOf a b p ≤ (w * l : Int) * (w * l) := by
    rw [← Int.natAbs_mul_self]
    exact_mod_cast Nat.mul_self_le_mul_self hs
  refine ⟨fun h' => h (edgeSquare_eq_zero.1 h'), ?_, hb⟩
  calc sideOf a b p * sideOf a b p ≤ (w * l : Int) * (w * l) := hsq
    _ = (w * w : Int) * (l * l) := by ring
    _ ≤ (w * w : Int) * edgeSquare a b := mul_le_mul_of_nonneg_left hl (by positivity)

/-! ## The choice of the test (R114) -/

theorem otherDiagonal_iff (own p q : LegPos) :
    otherDiagonal own p q = true ↔ relation p q = .diagonal ∧ p ≠ own ∧ q ≠ own := by
  cases own <;> cases p <;> cases q <;> simp [otherDiagonal, relation]

/-- What every result keeps: reason and sway by pass and fail, and the ranges (R114, R116 to R118). -/
structure Sound (r : CheckResult) (n sway : Nat) : Prop where
  failed : r.pass = false → r.reason = .supportCount ∨ r.reason = .margin
  passed : r.pass = true → r.reason = .none ∧ r.sway = none
  count : r.n = n
  range : -2048 ≤ r.margin ∧ r.margin ≤ 2047
  bound : ∀ v, r.sway = some v → v.x.natAbs ≤ sway ∧ v.y.natAbs ≤ sway

theorem sound_supportCountFail (n sway : Nat) : Sound (supportCountFail n) n sway where
  failed _ := .inl rfl
  passed := nofun
  count := rfl
  range := ⟨le_refl (-2048 : Int), (by omega : (-2048 : Int) ≤ 2047)⟩
  bound := nofun

theorem clampMargin_range (m : Int) : -2048 ≤ clampMargin m ∧ clampMargin m ≤ 2047 := by
  rw [clampMargin_eq]; omega

theorem sound_triangleTest (a b c p : P2) (m sway : Nat) : Sound (triangleTest a b c p m sway) 3 sway := by
  by_cases h : area2 a b c = 0
  · rw [triangleTest, if_pos h]
    exact sound_supportCountFail 3 sway
  · have hr : -2048 ≤ (if 0 < area2 a b c then triangleMargin a b c p else triangleMargin a c b p) ∧
        (if 0 < area2 a b c then triangleMargin a b c p else triangleMargin a c b p) ≤ 2047 := by
      split <;> exact clampMargin_range _
    rw [triangleTest_eq h]
    generalize (if 0 < area2 a b c then triangleMargin a b c p else triangleMargin a c b p) = v at hr
    split
    · exact ⟨nofun, fun _ => ⟨rfl, rfl⟩, rfl, hr, nofun⟩
    · refine ⟨fun _ => .inr rfl, nofun, rfl, hr, ?_⟩
      intro u hu
      obtain rfl := Option.some.inj hu
      unfold swayAsked
      constructor <;> dsimp only <;> omega

theorem sound_corridorTest (a b p : P2) (w sway : Nat) : Sound (corridorTest a b p w) 2 sway := by
  by_cases h : a = b
  · rw [corridorTest_of_eq h]
    exact sound_supportCountFail 2 sway
  · have hb : Decidable (Between a b p) := Classical.dec _
    rw [corridorTest_eq h p w hb]
    split
    · exact ⟨nofun, fun _ => ⟨rfl, rfl⟩, rfl, clampMargin_range _, nofun⟩
    · exact ⟨fun _ => .inr rfl, nofun, rfl, clampMargin_range _, nofun⟩

theorem sound_checkResult (sn : Snapshot) (m w sway : Nat) : Sound (checkResult sn m w sway) sn.feet.length sway := by
  unfold checkResult
  split
  next h => rw [h]; exact sound_triangleTest _ _ _ _ m sway
  next h =>
    rw [h]
    split
    · exact sound_corridorTest _ _ _ w sway
    · exact sound_supportCountFail 2 sway
  next => exact sound_supportCountFail _ sway

/-- Settles O60: the margins by their edges, the passes by their conditions, and what every result keeps. -/
theorem supportTestsSafe : Obligations.SupportTestsSafe := by
  intro sn m w sway r failed
  obtain ⟨hfailed, hpassed, hcount, hrange, hbound⟩ := sound_checkResult sn m w sway
  have htwo : ∀ a b, sn.feet = [a, b] → r = if sn.gait = .diagonal ∧ otherDiagonal sn.own a.pos b.pos = true then
      corridorTest a.at2 b.at2 sn.com w else supportCountFail 2 := fun a b h => by
    simp only [r, checkResult, h]
  have hfail : ∀ a b, sn.feet = [a, b] → supportCountFail 2 = failed := fun a b h => by
    simp only [failed, h]; rfl
  refine ⟨fun a b c h harea => ?_, fun a b c h harea => ?_, fun a b h hgait hdiag ha hb => ?_, fun a b h hpass => ?_,
    fun a b h hother => ?_, fun h2 h3 => ?_, hfailed, hpassed, hcount, hrange, hbound⟩
  · obtain ⟨margin, hmargin⟩ : ∃ v, v = if 0 < area2 a.at2 b.at2 c.at2 then triangleMargin a.at2 b.at2 c.at2 sn.com
      else triangleMargin a.at2 c.at2 b.at2 sn.com := ⟨_, rfl⟩
    have hr : r = if (m : Int) ≤ margin then { pass := true, reason := .none, n := 3, margin := margin, sway := none }
        else { pass := false, reason := .margin, n := 3, margin := margin
               sway := some (swayAsked a.at2 b.at2 c.at2 sn.com sway) } := by
      rw [hmargin, ← triangleTest_eq harea]
      simp only [r, checkResult, h]
    have hrm : r.margin = margin := by rw [hr]; split <;> rfl
    have hccw : 0 < area2 a.at2 b.at2 c.at2 → TriangleMarginIs a.at2 b.at2 c.at2 sn.com r.margin := fun hpos => by
      rw [hrm, hmargin, if_pos hpos]
      exact triangleMargin_is harea
    have hcw : area2 a.at2 b.at2 c.at2 < 0 → TriangleMarginIs a.at2 c.at2 b.at2 sn.com r.margin := fun hneg => by
      rw [hrm, hmargin, if_neg (by omega)]
      exact triangleMargin_is (by rw [area2_swap]; omega)
    refine ⟨hccw, hcw, ?_, fun hno => ?_, fun h0 hpos => inside_of_triangleMargin (hccw hpos) h0,
      fun h0 hneg => inside_of_triangleMargin (hcw hneg) h0⟩
    · rw [hrm, hr]
      split
      next hle => simp [hle]
      next hle => simp [hle]
    · rw [hr] at hno ⊢
      split
      next hle => rw [if_pos hle] at hno; cases hno
      next => exact ⟨rfl, rfl⟩
  · simp only [r, failed, checkResult, h, triangleTest, if_pos harea]
    rfl
  · have hr : r = corridorTest a.at2 b.at2 sn.com w := by
      rw [htwo a b h, if_pos ⟨hgait, (otherDiagonal_iff _ _ _).2 ⟨hdiag, ha, hb⟩⟩]
    refine ⟨fun heq => ?_, fun hne => ?_⟩
    · rw [hr, ← hfail a b h, corridorTest_of_eq heq]
    · have hdec : Decidable (Between a.at2 b.at2 sn.com) := Classical.dec _
      rw [corridorTest_eq hne sn.com w hdec] at hr
      have hrm : r.margin = corridorMargin a.at2 b.at2 sn.com w := by rw [hr]; split <;> rfl
      refine ⟨hrm ▸ corridorMargin_is hne w, ?_, fun hno => ?_, ?_⟩
      · rw [hrm, hr]
        split
        next hc => simp [hc]
        next hc => simp [hc]
      · rw [hr] at hno ⊢
        split
        next hc => rw [if_pos hc] at hno; cases hno
        next => rfl
      · rw [hr]; split <;> rfl
  · have hchosen : sn.gait = .diagonal ∧ otherDiagonal sn.own a.pos b.pos = true := by
      by_contra hno
      rw [htwo a b h, if_neg hno] at hpass
      cases hpass
    obtain ⟨hdiag, ha, hb⟩ := (otherDiagonal_iff _ _ _).1 hchosen.2
    have hr : r = corridorTest a.at2 b.at2 sn.com w := by rw [htwo a b h, if_pos hchosen]
    have hne : a.at2 ≠ b.at2 := fun heq => by
      rw [hr, corridorTest_of_eq heq] at hpass
      cases hpass
    have hdec : Decidable (Between a.at2 b.at2 sn.com) := Classical.dec _
    rw [hr, corridorTest_eq hne sn.com w hdec] at hpass
    split at hpass
    next hc => exact ⟨hchosen.1, hdiag, ha, hb, inCorridor_of_margin hne (corridorMargin_is hne w) hc.1 hc.2⟩
    next => cases hpass
  · rw [htwo a b h, ← hfail a b h, if_neg]
    rintro ⟨hgait, hd⟩
    obtain ⟨hdiag, ha, hb⟩ := (otherDiagonal_iff _ _ _).1 hd
    obtain h | h | h | h := hother
    · exact h hgait
    · exact h hdiag
    · exact ha h
    · exact hb h
  · show checkResult sn m w sway = _
    unfold checkResult
    split
    next h => rw [h] at h3; exact absurd rfl h3
    next h => rw [h] at h2; exact absurd rfl h2
    next => rfl

end Sys2Proof.SupportTests
end

section
/-! What reports leave behind when they follow one another (R150, R158, R159): the events, the first-fault record and the
offer of the ring compose. -/

-- Elaborated in order: elaborated at once, the many proofs here take more threads than the check has memory for.
set_option Elab.async false

namespace Sys2Proof.Telling
open Sys2Proof Sys2Proof.Machine Sys2Proof.Laws Sys2Proof.QueueRules Sys2Proof.Keeping Sys2Proof.IntentStorage
  Sys2Proof.FaultCommands Sys2Proof.ClassAFaults

/-! ## Events, first-fault record and flags (R150, R158) -/

/-- From `s` to `t` these events have been recorded, and first-fault record and flags are what their faults make of them. -/
structure Told (s t : State) (ns : List Note) : Prop where
  epoch : t.time.epoch = s.time.epoch
  lets : letIn t = letIn s
  logs : Logs s t ns
  first : t.flt.first = firstAfter s ns
  flags : ∀ c : FaultCode, t.flt.flags[c.idx] = (s.flt.flags[c.idx] || ns.any fun n => n.fault == some c)

/-- The first fault among events whose flag is clear. -/
def newFault (flags : Vector Bool 17) (ns : List Note) : Option FaultCode :=
  ns.findSome? fun n => n.fault.filter fun c => !flags[c.idx]

theorem firstAfter_eq (s : State) (ns : List Note) : firstAfter s ns =
    s.flt.first.or ((newFault s.flt.flags ns).map fun c => { code := c, epoch := s.time.epoch }) := rfl

theorem any_fault_eq_false {ms : List Note} (h : ∀ n ∈ ms, n.fault = none) (c : FaultCode) :
    (ms.any fun n => n.fault == some c) = false := List.any_eq_false.2 fun n hn => by simp [h n hn]

/-- Events that tell of no new fault latch no flag. -/
theorem any_fault_of_newFault_eq_none {flags : Vector Bool 17} {ns : List Note} (h : newFault flags ns = none)
    {c : FaultCode} (hany : (ns.any fun n => n.fault == some c) = true) : flags[c.idx] = true := by
  obtain ⟨n, hn, hc⟩ := List.any_eq_true.1 hany
  have hnone := List.findSome?_eq_none_iff.1 h n hn
  rw [beq_iff_eq.1 hc] at hnone
  simpa [Option.filter] using hnone

namespace Told
variable {s t u : State} {ns ms : List Note}

theorem noteIn (h : Told s t ns) : noteIn t = noteIn s := noteIn_congr h.lets h.epoch

theorem trans (h : Told s t ns) (h' : Told t u ms) : Told s u (ns ++ ms) where
  epoch := h'.epoch.trans h.epoch
  lets := h'.lets.trans h.lets
  logs := logs_append h.logs h'.logs h.noteIn
  first := by
    rw [h'.first, firstAfter_eq, firstAfter_eq, h.first, h.epoch, firstAfter_eq, Option.or_assoc]
    congr 1
    have happ : newFault s.flt.flags (ns ++ ms) = (newFault s.flt.flags ns).or (newFault s.flt.flags ms) :=
      List.findSome?_append
    rw [happ]
    cases hnew : newFault s.flt.flags ns with
    | some c => rfl
    | none =>
      have hflags : ∀ c : FaultCode, t.flt.flags[c.idx] = s.flt.flags[c.idx] := fun c => by
        rw [h.flags c]
        cases hany : ns.any fun n => n.fault == some c with
        | false => exact Bool.or_false _
        | true => rw [any_fault_of_newFault_eq_none hnew hany]; rfl
      have heq : newFault t.flt.flags ms = newFault s.flt.flags ms := by simp only [newFault, hflags]
      rw [heq]
      rfl
  flags c := by rw [h'.flags, h.flags, List.any_append, Bool.or_assoc]

theorem reported (h : Told s t ns) : Reported s t ns := ⟨h.logs, h.first⟩

/-- A flag of which no event tells stays (R150). -/
theorem flag_eq (h : Told s t ns) {c : FaultCode} (hc : ∀ n ∈ ns, n.fault ≠ some c) :
    t.flt.flags[c.idx] = s.flt.flags[c.idx] := by
  rw [h.flags, List.any_eq_false.2 fun n hn => by simpa using hc n hn, Bool.or_false]

end Told

/-- What the records of events are made of. -/
def logBasis (s : State) : BitVec 16 × (Nat → Bool) × List EventRecord × Byte × Option FirstFault × Vector Bool 17 :=
  (s.time.epoch, letIn s, s.flt.ring, s.flt.lost, s.flt.first, s.flt.flags)

theorem firstAfter_nil (s : State) : firstAfter s [] = s.flt.first := Option.or_none

theorem told_of_logBasis {s t : State} (h : logBasis t = logBasis s) : Told s t [] := by
  simp only [logBasis, Prod.mk.injEq] at h
  obtain ⟨hepoch, hlets, hring, hlost, hfirst, hflags⟩ := h
  exact ⟨hepoch, hlets, by simp [Logs, hring, hlost], by rw [firstAfter_nil, hfirst], fun c => by rw [hflags]; simp⟩

/-- Events that tell of no fault move no first-fault record. -/
theorem firstAfter_faultless {s : State} {ns ms : List Note} (h : ∀ n ∈ ms, n.fault = none) :
    firstAfter s (ns ++ ms) = firstAfter s ns := by
  have hnone : newFault s.flt.flags ms = none := List.findSome?_eq_none_iff.2 fun n hn => by simp [h n hn]
  have happ : newFault s.flt.flags (ns ++ ms) = (newFault s.flt.flags ns).or (newFault s.flt.flags ms) :=
    List.findSome?_append
  rw [firstAfter_eq, happ, hnone, Option.or_none, ← firstAfter_eq]

/-- Of the events, "fault latched" and "peer silent" alone tell of a fault. -/
theorem fault_noteOf {e : EventKind} (h1 : e ≠ .faultLatched) (h2 : e ≠ .peerSilent) (d : Byte) :
    (noteOf e d).fault = none := by
  have hkind : ¬ (e.categoryBit = 4 ∧ e.code = 0x01) ∧ ¬ (e.categoryBit = 4 ∧ e.code = 0x02) := by
    cases e with
    | faultLatched => exact absurd rfl h1
    | peerSilent => exact absurd rfl h2
    | alarmFrom n => simp only [EventKind.code]; omega
    | _ => decide
  unfold Note.fault noteOf
  rw [if_neg hkind.1, if_neg hkind.2]

/-- The event of a report of class B tells of its fault (R150). -/
theorem fault_of_latchNote {s : State} {c : FaultCode} {n : Note} (h : n ∈ latchNote s c) : n.fault = some c := by
  unfold latchNote at h
  split at h
  · cases h
  · obtain rfl := List.mem_singleton.1 h
    exact fault_of_code c

theorem any_latchNote (s : State) (c d : FaultCode) : (s.flt.flags[d.idx] || (latchNote s c).any fun n => n.fault == some d) =
    (s.flt.flags[d.idx] || c == d) := by
  unfold latchNote
  split
  next h =>
    by_cases hcd : c = d
    · rw [← hcd, h]; rfl
    · simp [hcd]
  next => simp [fault_of_code]

theorem idx_inj {c d : FaultCode} (h : c.idx = d.idx) : c = d := by
  cases c <;> cases d <;> first | rfl | exact absurd h (by decide)

/-- A vector of flags with one of them set, read at a fault. -/
theorem set_idx (v : Vector Bool 17) (c d : FaultCode) (b : Bool) :
    (v.set c.idx b)[d.idx] = if c = d then b else v[d.idx] := by
  by_cases h : c = d
  · rw [if_pos h, h]
    exact Vector.getElem_set_self _
  · rw [if_neg h]
    exact Vector.getElem_set_ne c.idx.isLt d.idx.isLt fun he => h (idx_inj (Fin.ext he))

theorem set_true_idx (v : Vector Bool 17) (c d : FaultCode) : (v.set c.idx true)[d.idx] = (v[d.idx] || c == d) := by
  rw [set_idx]
  by_cases h : c = d
  · simp [h]
  · simp [h]

/-- The events of a report but for the entry to HOLD tell of its fault alone. -/
theorem faults_of_report (s : State) (r : Report) :
    firstAfter s (reportNotes s r) =
        (if latched s r.fault then s.flt.first else some (s.flt.first.getD { code := r.fault, epoch := s.time.epoch })) ∧
      ∀ d : FaultCode, (s.flt.flags[d.idx] || (reportNotes s r).any fun n => n.fault == some d) =
        (s.flt.flags[d.idx] || r.fault == d) := by
  have hclash (e : EventKind) (d : Byte) (b : Bool) (h1 : e ≠ .faultLatched) (h2 : e ≠ .peerSilent) :
      ∀ n ∈ (if b then [] else [noteOf e d]), n.fault = none := by
    intro n hn
    cases b with
    | true => cases hn
    | false => rw [List.mem_singleton.1 hn]; exact fault_noteOf h1 h2 d
  have hplain (c : FaultCode) (ms : List Note) (hms : ∀ n ∈ ms, n.fault = none) :
      firstAfter s (latchNote s c ++ ms) =
          (if latched s c then s.flt.first else some (s.flt.first.getD { code := c, epoch := s.time.epoch })) ∧
        ∀ d : FaultCode, (s.flt.flags[d.idx] || (latchNote s c ++ ms).any fun n => n.fault == some d) =
          (s.flt.flags[d.idx] || c == d) := by
    refine ⟨by rw [firstAfter_faultless hms, firstAfter_latchNote], fun d => ?_⟩
    rw [List.any_append, any_fault_eq_false hms, Bool.or_false, any_latchNote]
  cases r with
  | stationClash k a => exact hplain .clash _ (hclash .stationClash _ _ nofun nofun)
  | positionClash n p => exact hplain .clash _ (hclash .positionClash _ _ nofun nofun)
  | peerSilent n =>
    have hfault : (noteOf .peerSilent (BitVec.ofNat 8 n.val)).fault = some .peerSilent := rfl
    refine ⟨?_, fun d => by simp [reportNotes, clashNotes, hfault, Report.fault]⟩
    have hnew : newFault s.flt.flags [noteOf .peerSilent (BitVec.ofNat 8 n.val)] =
        if latched s .peerSilent then none else some .peerSilent := by
      unfold newFault latched
      rw [List.findSome?_cons, hfault]
      cases hl : s.flt.flags[FaultCode.peerSilent.idx] <;> simp [Option.filter, hl]
    show firstAfter s [noteOf .peerSilent _] = _
    rw [firstAfter_eq, hnew]
    show _ = if latched s .peerSilent then _ else _
    split
    · exact Option.or_none
    · cases s.flt.first <;> rfl
  | plain | filterLimit | workspaceClamp | overlap | driveFault => exact hplain _ [] nofun

/-- Every report records its events, and its fault is in flag and first-fault record (R150, R152). -/
theorem reportFault_told (s : State) (r : Report) :
    Told s (reportFault s r) (reportNotes s r ++ if r.fault.classA then holdNote s else []) := by
  have hhold : ∀ n ∈ (if r.fault.classA then holdNote s else []), n.fault = none := by
    intro n hn
    split at hn
    · unfold holdNote at hn
      split at hn
      · rw [List.mem_singleton.1 hn]; rfl
      · cases hn
    · cases hn
  obtain ⟨hfirst, hflags⟩ := faults_of_report s r
  refine ⟨by simp, ?_, ?_, ?_, fun c => ?_⟩
  · have hleg : ((reportFault s r).pe.leg == .setup) = (s.pe.leg == .setup) := by
      rw [reportFault_leg]
      split
      next hw =>
        have hwalk : s.pe.leg.walking = true := (by simpa using hw : _ ∧ _).2
        cases hl : s.pe.leg with
        | setup => rw [hl] at hwalk; cases hwalk
        | _ => rfl
      next => rfl
    funext bit
    simp [letIn, hleg, State.eventMask]
  · split
    next hA => exact reportFault_logs hA
    next hB =>
      have heq : reportFault s r = recorded s r := if_neg hB
      rw [List.append_nil, heq]
      exact (recorded_spec s r).logs
  · rw [firstAfter_faultless hhold, hfirst, reportFault_first]
  · rw [(reportFault_flt s r).1, set_true_idx, List.any_append, any_fault_eq_false hhold, Bool.or_false,
      hflags c]

/-! ## The offer of the ring (R159) -/

/-- The ring makes no offer: an Event frame waits, or the retry mark is set. -/
def Shut (s : State) : Prop := s.txq.frames.any TxFrame.isEvent = true ∨ s.flt.retry = true

/-- A frame that is placed makes the queue longer by one at most (R140 to R142). -/
theorem place_length_le (q : TxQueue) (f : TxFrame) : (q.place f).1.frames.length ≤ q.frames.length + 1 := by
  obtain h | ⟨_, _, _, h⟩ | h := place_cases q f
  · simp [h]
  · simp [h]
  · rw [h]
    obtain ⟨-, hin⟩ | ⟨-, i, v, -, -, hin⟩ | ⟨-, hin⟩ := admit_cases q f
    · rw [hin, insertFrame_length]
    · rw [hin, insertFrame_length]
      exact Nat.succ_le_succ (List.length_eraseIdx_le ..)
    · rw [hin]
      exact Nat.le_succ _

theorem eventFrame_kind (s : State) (r : EventRecord) : (s.eventFrame r).kind = some .event := newFrame_kind s .event _

/-- From `s` to `t` the queue has taken nothing but an Event frame of the oldest record. -/
structure Offers (s t : State) : Prop where
  sbi : t.sbi = s.sbi
  head : ∀ r, s.flt.ring.head? = some r → t.flt.ring.head? = some r
  shut : Shut s → t.txq = s.txq ∧ t.flt.retry = s.flt.retry
  queue : (t.txq = s.txq ∧ t.flt.retry = s.flt.retry) ∨
    ∃ r, t.flt.ring.head? = some r ∧ t.txq = (s.txq.place (s.eventFrame r)).1 ∧ Shut t

namespace Offers
variable {s t u : State}

theorem trans (h : Offers s t) (h' : Offers t u) : Offers s u where
  sbi := h'.sbi.trans h.sbi
  head r hr := h'.head r (h.head r hr)
  shut hs := by
    obtain ⟨hq, hretry⟩ := h.shut hs
    obtain ⟨hq', hretry'⟩ := h'.shut (by rwa [Shut, hq, hretry])
    exact ⟨hq'.trans hq, hretry'.trans hretry⟩
  queue := by
    obtain ⟨hq, hretry⟩ | ⟨r, hr, hq, hshut⟩ := h.queue
    · obtain ⟨hq', hretry'⟩ | ⟨r, hr, hq', hshut⟩ := h'.queue
      · exact .inl ⟨hq'.trans hq, hretry'.trans hretry⟩
      · refine .inr ⟨r, hr, ?_, hshut⟩
        rw [hq', hq]
        simp only [State.eventFrame, State.newFrame, h.sbi]
    · obtain ⟨hq', hretry'⟩ := h'.shut hshut
      exact .inr ⟨r, h'.head r hr, hq'.trans hq, by rwa [Shut, hq', hretry']⟩

theorem offered (h : Offers s t) : Offered s t s.txq := h.queue.imp And.left fun ⟨r, hr, hq, _⟩ => ⟨r, hr, hq⟩

theorem mem (h : Offers s t) : ∀ g ∈ t.txq.frames, g.isEvent = true ∨ g ∈ s.txq.frames := fun g hg => by
  by_cases hk : g.kind = some .event
  · exact .inl (by simp [TxFrame.isEvent, hk])
  · exact .inr (mem_of_offered h.offered hg hk)

/-- An offer adds one frame at most. -/
theorem length_le (h : Offers s t) : t.txq.frames.length ≤ s.txq.frames.length + 1 := by
  obtain ⟨hq, -⟩ | ⟨r, -, hq, -⟩ := h.queue
  · rw [hq]; omega
  · rw [hq]; exact place_length_le s.txq _

end Offers

/-- What an offer goes by. -/
def offerBasis (s : State) : Sbi × List EventRecord × TxQueue × Bool := (s.sbi, s.flt.ring, s.txq, s.flt.retry)

theorem offers_of_offerBasis {s t : State} (h : offerBasis t = offerBasis s) : Offers s t := by
  simp only [offerBasis, Prod.mk.injEq] at h
  obtain ⟨hsbi, hring, hq, hretry⟩ := h
  exact ⟨hsbi, fun r hr => by rwa [hring], fun _ => ⟨hq, hretry⟩, .inl ⟨hq, hretry⟩⟩

/-- An Event frame that is placed waits, or is lost, and the retry mark is set (R142, R159). -/
theorem placeEvent_shut (s : State) (r : EventRecord) : Shut (placeFrame s (s.eventFrame r)) := by
  have hkind := eventFrame_kind s r
  have hevent : (s.eventFrame r).isEvent = true := by simp [TxFrame.isEvent, hkind]
  have hplace : s.txq.place (s.eventFrame r) = s.txq.takeIn (s.eventFrame r) :=
    place_eq_takeIn hkind fun _ hne => absurd rfl hne
  have henters {l : List TxFrame} (hl : (s.txq.place (s.eventFrame r)).1.frames = insertFrame (s.eventFrame r) l) :
      Shut (placeFrame s (s.eventFrame r)) := by
    refine .inl (List.any_eq_true.2 ⟨s.eventFrame r, ?_, hevent⟩)
    rw [placeFrame_txq, hl]
    exact mem_insertFrame.2 (.inl rfl)
  obtain ⟨-, hin⟩ | ⟨-, i, v, -, -, hin⟩ | ⟨-, hin⟩ := admit_cases s.txq (s.eventFrame r)
  · exact henters (by rw [hplace, hin])
  · exact henters (by rw [hplace, hin])
  · refine .inr ?_
    rw [placeFrame, hplace, hin]
    dsimp only
    rw [tellLost, if_neg (by simp [not_isLift_of_isEvent hevent]), if_pos hevent]

theorem offers_offerEvent (s : State) : Offers s (offerEvent s) := by
  unfold offerEvent
  split
  next => exact offers_of_offerBasis rfl
  next r rest hring =>
    split
    next => exact offers_of_offerBasis rfl
    next hopen =>
      refine ⟨by simp, fun r' hr' => by simpa using hr', fun hshut => absurd ?_ hopen,
        .inr ⟨r, by simp [hring], placeFrame_txq _ _, placeEvent_shut s r⟩⟩
      simpa [Shut] using hshut

theorem offers_recordEvent (s : State) (e : EventKind) (d : Byte) : Offers s (recordEvent s e d) := by
  have hadd : Offers s (addRecord s e d) := by
    unfold addRecord
    split
    · exact ⟨rfl, fun r hr => by simp [List.head?_append, hr], fun _ => ⟨rfl, rfl⟩, .inl ⟨rfl, rfl⟩⟩
    · exact offers_of_offerBasis rfl
  unfold recordEvent
  split
  · exact hadd.trans (offers_offerEvent _)
  · exact offers_of_offerBasis rfl

theorem offers_of_noted {s t : State} {ns : List Note} (h : Noted s ns t) : Offers s t := by
  induction h with
  | nil => exact offers_of_offerBasis rfl
  | snoc _ e d ih => exact ih.trans (offers_recordEvent _ e d)

/-- A report of class B places nothing but the ring's offer (R150, R159). -/
theorem offers_reportFault {s : State} {r : Report} (hB : r.fault.classA = false) : Offers s (reportFault s r) := by
  obtain ⟨u, hu⟩ : ∃ u, u = latchFlag (raiseCondition s r) r.fault := ⟨_, rfl⟩
  have heq : reportFault s r = recorded s r := if_neg (by simp [hB])
  obtain ⟨-, hsbi, -, -, -, -, -, -, htxq, hring, -⟩ := latched_frame s r u hu
  have hretry : u.flt.retry = s.flt.retry := by
    rw [hu]
    unfold latchFlag
    split <;> rfl
  rw [heq]
  have hstill : Offers s u := offers_of_offerBasis (by simp [offerBasis, hsbi, hring, htxq, hretry])
  have hnoted : Noted u (reportNotes s r) (recorded s r) := hu ▸ recorded_noted s r
  exact hstill.trans (offers_of_noted hnoted)

/-! ## Both together -/

/-- From `s` to `t` these events have been recorded, with their faults, and the ring has been offered; no other frame has
been placed. -/
structure Tells (s t : State) (ns : List Note) : Prop extends Told s t ns, Offers s t

namespace Tells
variable {s t u : State} {ns ms : List Note}

theorem trans (h : Tells s t ns) (h' : Tells t u ms) : Tells s u (ns ++ ms) :=
  ⟨h.toTold.trans h'.toTold, h.toOffers.trans h'.toOffers⟩

/-- A step that moves neither the log nor the queue. -/
theorem still (hl : logBasis t = logBasis s := by rfl) (ho : offerBasis t = offerBasis s := by rfl) : Tells s t [] :=
  ⟨told_of_logBasis hl, offers_of_offerBasis ho⟩

theorem of_reportFault {r : Report} (hB : r.fault.classA = false := by rfl) : Tells s (reportFault s r) (reportNotes s r) := by
  have h := reportFault_told s r
  rw [hB, if_neg Bool.false_ne_true, List.append_nil] at h
  exact ⟨h, offers_reportFault hB⟩

/-- An event that tells of no fault. -/
theorem of_recordEvent {e : EventKind} (d : Byte) (h1 : e ≠ .faultLatched := by nofun) (h2 : e ≠ .peerSilent := by nofun) :
    Tells s (recordEvent s e d) [noteOf e d] := by
  have hfault := fault_noteOf h1 h2 d
  refine ⟨⟨by simp, by funext b; simp [letIn, State.eventMask], recordEvent_logs s e d, ?_, fun c => ?_⟩, offers_recordEvent s e d⟩
  · have hsame := firstAfter_faultless (s := s) (ns := []) (ms := [noteOf e d]) (by simpa using hfault)
    rw [List.nil_append, firstAfter_nil] at hsame
    rw [hsame]
    simp
  · simp [hfault]

end Tells

end Sys2Proof.Telling
end

section
/-! Reads of the Peer Table (R53 to R56): a read finds a record as its age makes it, and beside the mark that it sets it
leaves its silence fault and event alone. -/

-- Elaborated in order: elaborated at once, the many proofs here take more threads than the check has memory for.
set_option Elab.async false

namespace Sys2Proof.Reading
open Sys2Proof Sys2Proof.Machine Sys2Proof.Laws Sys2Proof.Keeping Sys2Proof.IntentStorage Sys2Proof.FaultCommands
  Sys2Proof.ClassAFaults Sys2Proof.LineFaults Sys2Proof.Telling

/-! ## Records by their age (R53) -/

/-- A record as its age at this instant makes it. -/
def agedRecord (s : State) (r : Record) : Record :=
  { r with stale := r.stale || decide (staleLimit s r < ageOf s r.tag) }

theorem record_aged (s : State) (n : Fin 8) : (aged s).record n = (s.record n).map (agedRecord s) := aged_record s n

theorem agedRecord_of_not_marks {s : State} {r : Record} (h : r.stale = true ∨ ¬ staleLimit s r < ageOf s r.tag) :
    agedRecord s r = r := by
  have hs : (r.stale || decide (staleLimit s r < ageOf s r.tag)) = r.stale := by
    obtain h | h := h
    · rw [h]; rfl
    · rw [decide_eq_false h, Bool.or_false]
  rw [agedRecord, hs]

theorem agedRecord_of_old {s : State} {r : Record} (h : staleLimit s r < ageOf s r.tag) :
    agedRecord s r = { r with stale := true } := by
  have hs : (r.stale || decide (staleLimit s r < ageOf s r.tag)) = true := by
    rw [decide_eq_true h, Bool.or_true]
  rw [agedRecord, hs]

/-- A record that is judged twice at one instant is as after the first time. -/
theorem agedRecord_idem (s : State) (r : Record) : agedRecord s (agedRecord s r) = agedRecord s r := by
  show ({ r with stale := _ } : Record) = { r with stale := _ }
  congr 1
  show ((r.stale || decide (staleLimit s r < ageOf s r.tag)) || decide (staleLimit s r < ageOf s r.tag)) = _
  rw [Bool.or_assoc, Bool.or_self]

theorem staleLimit_congr {s t : State} (hs : t.setup = s.setup) (r : Record) : staleLimit t r = staleLimit s r := by
  simp only [staleLimit, State.intentStale, State.staleMs, State.uword, hs]

theorem agedRecord_congr {s t : State} (ht : t.time.us = s.time.us) (hs : t.setup = s.setup) (r : Record) :
    agedRecord t r = agedRecord s r := by
  simp only [agedRecord, ageOf, ht, staleLimit_congr hs] <;> rfl

/-- What the read of a record finds is what it leaves (R53). -/
theorem judge_record (s : State) (n m : Fin 8) :
    (judge s n).record m = if m = n then (aged s).record n else s.record m := by
  have hmarks : (if marks s n = true then marked (s.record n) else s.record n) = (aged s).record n := by
    rw [record_aged]
    unfold marks
    cases hr : s.record n with
    | none => rfl
    | some r =>
      by_cases hkept : r.stale = true ∨ ¬ staleLimit s r < ageOf s r.tag
      · rw [if_neg (by simpa [imp_iff_not_or] using hkept), Option.map_some, agedRecord_of_not_marks hkept]
      · push Not at hkept
        rw [if_pos (by simpa using hkept), Option.map_some, agedRecord_of_old hkept.2]
        rfl
  rw [← hmarks, State.record, judge_records]
  by_cases hmn : m = n
  · subst hmn
    rw [if_pos rfl]
    split
    · exact Vector.getElem_set_self _
    · rfl
  · rw [if_neg hmn]
    split
    · exact Vector.getElem_set_ne n.isLt m.isLt fun he => hmn (Fin.ext he.symm)
    · rfl

/-! ## What reads leave -/

/-- The faults of silence (R54). -/
def silences : List FaultCode := [.peerSilent, .bodySilent, .intentSilent]

/-- A record that carries its mark in `t` carried it in `s`, or is older than its limit and its silence fault is latched and
active (R53, R54); no silence fault that stood has ended. -/
structure Marking (s t : State) : Prop where
  us : t.time.us = s.time.us
  setup : t.setup = s.setup
  marks : ∀ n q, t.record n = some q → q.stale = true → s.record n = some q ∨
    (staleLimit s q < ageOf s q.tag ∧ t.flt.flags[(silenceOf q.part).idx] = true ∧
      t.flt.conds[(silenceOf q.part).idx] = true)
  kept : ∀ c ∈ silences, (s.flt.flags[c.idx] = true → t.flt.flags[c.idx] = true) ∧
    (s.flt.conds[c.idx] = true → t.flt.conds[c.idx] = true)

theorem silenceOf_mem (p : Part) : silenceOf p ∈ silences := by
  cases p <;> simp [silenceOf, silences]

/-- A step that leaves the Peer Table's records marks nothing. -/
theorem Marking.still {s t : State} (hus : t.time.us = s.time.us) (hsetup : t.setup = s.setup)
    (hrec : t.pt.records = s.pt.records) (hkept : ∀ c ∈ silences,
      (s.flt.flags[c.idx] = true → t.flt.flags[c.idx] = true) ∧
      (s.flt.conds[c.idx] = true → t.flt.conds[c.idx] = true)) : Marking s t where
  us := hus
  setup := hsetup
  marks n q hq _ := .inl (by rw [← hq, State.record, State.record, hrec])
  kept := hkept

theorem Marking.refl (s : State) : Marking s s := .still rfl rfl rfl fun _ _ => ⟨id, id⟩

theorem Marking.trans {s t u : State} (h : Marking s t) (h' : Marking t u) : Marking s u where
  us := h'.us.trans h.us
  setup := h'.setup.trans h.setup
  marks n q hq hs := by
    obtain hr | ⟨hold, hmarked⟩ := h'.marks n q hq hs
    · obtain hr | ⟨hold, hflag, hcond⟩ := h.marks n q hr hs
      · exact .inl hr
      · have hkept := h'.kept _ (silenceOf_mem q.part)
        exact .inr ⟨hold, hkept.1 hflag, hkept.2 hcond⟩
    · rw [staleLimit_congr h.setup, ageOf, h.us] at hold
      exact .inr ⟨hold, hmarked⟩
  kept c hc := ⟨(h'.kept c hc).1 ∘ (h.kept c hc).1, (h'.kept c hc).2 ∘ (h.kept c hc).2⟩

/-- `t` is `s` after some records have been judged, and with them at most their marks and silence faults told. Queue, leg
and motion may have moved besides. -/
structure Judged (s t : State) : Prop where
  time : t.time = s.time
  sbi : t.sbi = s.sbi
  setup : t.setup = s.setup
  fsu : t.fsu = s.fsu
  record : ∀ n, t.record n = s.record n ∨ t.record n = (aged s).record n
  others : ∀ c, c ∉ silences →
    t.flt.flags[c.idx] = s.flt.flags[c.idx] ∧ t.flt.conds[c.idx] = s.flt.conds[c.idx]
  told : ∃ ns, (∀ x ∈ ns, SilenceNote s x) ∧ Told s t ns
  table : (∀ n, ¬ ReadMarks s n) → t.pt = s.pt
  marking : Marking s t

/-- `t` is `s` after some records have been read. -/
structure Reads (s t : State) : Prop where
  time : t.time = s.time
  sbi : t.sbi = s.sbi
  setup : t.setup = s.setup
  fsu : t.fsu = s.fsu
  pe : t.pe = s.pe
  scu : t.scu = s.scu
  tu : t.tu = s.tu
  pending : t.pending = s.pending
  record : ∀ n, t.record n = s.record n ∨ t.record n = (aged s).record n
  others : ∀ c, c ∉ silences →
    t.flt.flags[c.idx] = s.flt.flags[c.idx] ∧ t.flt.conds[c.idx] = s.flt.conds[c.idx]
  alarms : t.flt.alarmsInHold = s.flt.alarmsInHold
  told : ∃ ns, (∀ x ∈ ns, SilenceNote s x) ∧ Tells s t ns
  unmarked : (∀ n, ¬ ReadMarks s n) → t = s
  marking : Marking s t

theorem Reads.judged {s t : State} (h : Reads s t) : Judged s t where
  time := h.time
  sbi := h.sbi
  setup := h.setup
  fsu := h.fsu
  record := h.record
  others := h.others
  told := let ⟨ns, hns, ht⟩ := h.told; ⟨ns, hns, ht.toTold⟩
  table hno := by rw [h.unmarked hno]
  marking := h.marking

namespace Judged
variable {s t u : State}

/-- After records have been judged they are as old as before. -/
theorem aged_record (h : Judged s t) (n : Fin 8) : (aged t).record n = (aged s).record n := by
  have hcongr : agedRecord t = agedRecord s := funext (agedRecord_congr (by rw [h.time]) h.setup)
  rw [record_aged, record_aged, hcongr]
  obtain hr | hr := h.record n <;> rw [hr]
  rw [record_aged, Option.map_map]
  cases s.record n with
  | none => rfl
  | some r => exact congrArg some (agedRecord_idem s r)

theorem found_mono {n : Fin 8} (hf : t.record n = (aged s).record n) (h : Judged s t) (h' : Judged t u) :
    u.record n = (aged s).record n := by
  obtain hr | hr := h'.record n
  · rw [hr, hf]
  · rw [hr, h.aged_record]

theorem readMarks (h : Judged s t) {n : Fin 8} (hm : ReadMarks t n) : ReadMarks s n ∧ t.record n = s.record n := by
  obtain ⟨r, hr, hs, hage⟩ := hm
  have hage' : staleLimit s r < ageOf s r.tag := by rwa [staleLimit_congr h.setup, ageOf, h.time] at hage
  obtain hrec | hrec := h.record n
  · exact ⟨⟨r, by rw [← hrec, hr], hs, hage'⟩, hrec⟩
  · rw [hrec, record_aged] at hr
    obtain ⟨q, hq, rfl⟩ := Option.map_eq_some_iff.1 hr
    have hold : staleLimit s q < ageOf s q.tag := hage'
    rw [agedRecord_of_old hold] at hs
    cases hs

theorem silenceNote (h : Judged s t) {x : Note} (hx : SilenceNote t x) : SilenceNote s x := by
  obtain ⟨n, r, hr, hm, hx⟩ := hx
  obtain ⟨hm', hrec⟩ := h.readMarks hm
  refine ⟨n, r, by rw [← hrec, hr], hm', ?_⟩
  have hlatch {c : FaultCode} (hmem : x ∈ latchNote t c) : x ∈ latchNote s c := by
    obtain ⟨ns, -, ht⟩ := h.told
    unfold latchNote at hmem ⊢
    have hflag := ht.flags c
    split at hmem
    · cases hmem
    next hclear =>
      cases hs : s.flt.flags[c.idx] with
      | false => exact hmem
      | true => rw [hflag, hs] at hclear; exact absurd rfl hclear
  cases hc : silenceOf r.part with
  | peerSilent => rwa [hc] at hx
  | _ => rw [hc] at hx; exact hlatch hx

theorem silenceNotes (h : Judged s t) {ns ms : List Note} (hns : ∀ x ∈ ns, SilenceNote s x)
    (hms : ∀ x ∈ ms, SilenceNote t x) : ∀ x ∈ ns ++ ms, SilenceNote s x := fun x hx => by
  obtain hx | hx := List.mem_append.1 hx
  · exact hns x hx
  · exact h.silenceNote (hms x hx)

theorem trans (h : Judged s t) (h' : Judged t u) : Judged s u where
  time := h'.time.trans h.time
  sbi := h'.sbi.trans h.sbi
  setup := h'.setup.trans h.setup
  fsu := h'.fsu.trans h.fsu
  record n := by
    obtain hr | hr := h'.record n
    · rw [hr]; exact h.record n
    · rw [hr, h.aged_record]; exact .inr rfl
  others c hc := ⟨(h'.others c hc).1.trans (h.others c hc).1, (h'.others c hc).2.trans (h.others c hc).2⟩
  told := by
    obtain ⟨ns, hns, ht⟩ := h.told
    obtain ⟨ms, hms, hu⟩ := h'.told
    exact ⟨ns ++ ms, h.silenceNotes hns hms, ht.trans hu⟩
  table hno := (h'.table fun n hm => hno n (h.readMarks hm).1).trans (h.table hno)
  marking := h.marking.trans h'.marking

/-- The parts of the records stay (R55). -/
theorem legOf (h : Judged s t) (n : Fin 8) : t.legOf n = s.legOf n := by
  obtain hr | hr := h.record n <;> simp only [State.legOf, hr]
  rw [record_aged]
  cases s.record n <;> rfl

theorem flags_of_logBasis (h : logBasis t = logBasis s) : t.flt.flags = s.flt.flags := by
  simp only [logBasis, Prod.mk.injEq] at h
  exact h.2.2.2.2.2

/-- A step that leaves clock, bus, setup, sensing, Peer Table and log. -/
theorem still (htime : t.time = s.time) (hsbi : t.sbi = s.sbi) (hsetup : t.setup = s.setup) (hfsu : t.fsu = s.fsu)
    (hpt : t.pt = s.pt) (hlog : logBasis t = logBasis s) (hconds : t.flt.conds = s.flt.conds) : Judged s t where
  time := htime
  sbi := hsbi
  setup := hsetup
  fsu := hfsu
  record n := .inl (by rw [State.record, hpt]; rfl)
  others c _ := ⟨by rw [flags_of_logBasis hlog], by rw [hconds]⟩
  told := ⟨[], nofun, told_of_logBasis hlog⟩
  table _ := hpt
  marking := .still (by rw [htime]) hsetup (by rw [hpt]) fun c _ => by
    rw [flags_of_logBasis hlog, hconds]; exact ⟨id, id⟩

theorem refl (s : State) : Judged s s := .still rfl rfl rfl rfl rfl rfl rfl

end Judged

namespace Reads
variable {s t u : State}

theorem refl (s : State) : Reads s s :=
  ⟨rfl, rfl, rfl, rfl, rfl, rfl, rfl, rfl, fun _ => .inl rfl, fun _ _ => ⟨rfl, rfl⟩, rfl, ⟨[], nofun, .still⟩, fun _ => rfl, .refl s⟩

theorem offers (h : Reads s t) : Offers s t := let ⟨_, _, ht⟩ := h.told; ht.toOffers

theorem aged_record (h : Reads s t) (n : Fin 8) : (aged t).record n = (aged s).record n := h.judged.aged_record n

theorem found_mono {n : Fin 8} (hf : t.record n = (aged s).record n) (h : Reads s t) (h' : Reads t u) :
    u.record n = (aged s).record n := h.judged.found_mono hf h'.judged

theorem readMarks (h : Reads s t) {n : Fin 8} (hm : ReadMarks t n) : ReadMarks s n ∧ t.record n = s.record n :=
  h.judged.readMarks hm

theorem silenceNote (h : Reads s t) {x : Note} (hx : SilenceNote t x) : SilenceNote s x := h.judged.silenceNote hx

theorem trans (h : Reads s t) (h' : Reads t u) : Reads s u where
  time := h'.time.trans h.time
  sbi := h'.sbi.trans h.sbi
  setup := h'.setup.trans h.setup
  fsu := h'.fsu.trans h.fsu
  pe := h'.pe.trans h.pe
  scu := h'.scu.trans h.scu
  tu := h'.tu.trans h.tu
  pending := h'.pending.trans h.pending
  record := (h.judged.trans h'.judged).record
  others := (h.judged.trans h'.judged).others
  alarms := h'.alarms.trans h.alarms
  told := by
    obtain ⟨ns, hns, ht⟩ := h.told
    obtain ⟨ms, hms, hu⟩ := h'.told
    exact ⟨ns ++ ms, h.judged.silenceNotes hns hms, ht.trans hu⟩
  unmarked hno := by
    obtain rfl := h.unmarked hno
    exact h'.unmarked hno
  marking := h.marking.trans h'.marking

/-- The parts of the records stay (R55). -/
theorem legOf (h : Reads s t) (n : Fin 8) : t.legOf n = s.legOf n := h.judged.legOf n

theorem foldl {α : Type} {f : State → α → State} (hf : ∀ t a, Reads t (f t a)) (l : List α) (s : State) :
    Reads s (l.foldl f s) := by
  induction l generalizing s with
  | nil => exact refl s
  | cons a l ih => exact (hf s a).trans (ih _)

end Reads

/-! ## One read -/

/-- The mark of an old record and its silence fault make a read of it (R53, R54). -/
theorem reads_raise {s v : State} {n : Fin 8} {r : Record} {rep : Report} (hr : s.record n = some r)
    (hs : r.stale = false) (hage : staleLimit s r < ageOf s r.tag) (hv : { v with pt := s.pt } = s)
    (hrec : v.pt.records = s.pt.records.set n (some { r with stale := true })) (hB : rep.fault.classA = false)
    (hsilent : rep.fault = silenceOf r.part) (hnotes : ∀ x ∈ reportNotes v rep, SilenceNote s x) :
    Reads s (reportFault v rep) := by
  obtain ⟨htime, hsbi, hsetup, hfsu, hpe, hscu, htu, htxq, hflt, hpending⟩ : v.time = s.time ∧ v.sbi = s.sbi ∧
      v.setup = s.setup ∧ v.fsu = s.fsu ∧ v.pe = s.pe ∧ v.scu = s.scu ∧ v.tu = s.tu ∧ v.txq = s.txq ∧ v.flt = s.flt ∧
      v.pending = s.pending := by
    rw [← hv]
    exact ⟨rfl, rfl, rfl, rfl, rfl, rfl, rfl, rfl, rfl, rfl⟩
  obtain ⟨hflags, hconds, -, -, halarms⟩ := reportFault_flt v rep
  have hlets : letIn v = letIn s := by funext b; simp [letIn, State.eventMask, hsetup, hpe]
  have hstill : Tells s v [] := .still (by simp [logBasis, hlets, htime, hflt]) (by simp [offerBasis, hsbi, hflt, htxq])
  refine {
    time := by simp [htime], sbi := by simp [hsbi], setup := by simp [hsetup], fsu := by simp [hfsu]
    pe := by rw [reportFault_pe v rep hB, hpe], scu := by simp [hscu]
    tu := by rw [reportFault_tu v rep hB, htu], pending := by simp [hpending]
    record := fun m => ?_, others := fun c hc => ?_, alarms := by rw [halarms, hflt]
    told := ⟨_, hnotes, hstill.trans (.of_reportFault hB)⟩
    unmarked := fun hno => absurd ⟨r, hr, hs, hage⟩ (hno n)
    marking := ⟨by simp [htime], by simp [hsetup], fun m q hq hq' => ?_, fun c _ => ?_⟩ }
  · show (reportFault v rep).pt.records[m] = s.record m ∨ _
    rw [reportFault_pt, hrec]
    by_cases hmn : n = m
    · subst hmn
      refine .inr ?_
      rw [record_aged, hr, Option.map_some, agedRecord_of_old hage, State.record, reportFault_pt, hrec]
      exact Vector.getElem_set_self _
    · exact .inl (Vector.getElem_set_ne n.isLt m.isLt fun he => hmn (Fin.ext he))
  · have hne : rep.fault ≠ c := fun he => hc (he ▸ hsilent ▸ silenceOf_mem r.part)
    rw [hflags, hconds, set_idx, set_idx, if_neg hne, if_neg hne, hflt]
    exact ⟨rfl, rfl⟩
  · have hrecord : (reportFault v rep).record m = (s.pt.records.set n (some { r with stale := true }))[m] := by
      rw [State.record, reportFault_pt, hrec]
    rw [hrecord] at hq
    by_cases hmn : n = m
    · subst hmn
      rw [show (s.pt.records.set n (some { r with stale := true }))[n] = _ from Vector.getElem_set_self _] at hq
      obtain rfl := Option.some.inj hq
      refine .inr ⟨hage, ?_, ?_⟩
      · rw [hflags, set_idx, if_pos hsilent]
      · rw [hconds, set_idx, if_pos hsilent]
    · exact .inl (hq ▸ (Vector.getElem_set_ne n.isLt m.isLt fun he => hmn (Fin.ext he)).symm)
  · rw [hflags, hconds, set_idx, set_idx, hflt]
    exact ⟨fun h => by rw [h, ite_self], fun h => by rw [h, ite_self]⟩

/-- One read (R53 to R55). -/
theorem reads_judge (s : State) (n : Fin 8) : Reads s (judge s n) := by
  unfold judge
  split
  next => exact .refl s
  next r hr =>
    split
    next => exact .refl s
    next hfresh =>
      have hs : r.stale = false := by simpa using hfresh
      split
      next hage =>
        have hnote {x : Note} (hx : match silenceOf r.part with
            | .peerSilent => x = { bit := 4, code := 0x02, detail := BitVec.ofNat 8 n.val }
            | c => x ∈ latchNote s c) : SilenceNote s x := ⟨n, r, hr, ⟨r, hr, hs, hage⟩, hx⟩
        unfold raiseSilence
        split
        next hp =>
          refine reads_raise hr hs hage rfl rfl rfl (by rw [hp]; rfl) fun x hx => hnote ?_
          rw [hp]
          exact List.mem_singleton.1 hx
        next hp =>
          refine reads_raise hr hs hage rfl rfl rfl (by rw [hp]; rfl) fun x hx => hnote ?_
          rw [hp]
          rwa [reportNotes_plain] at hx
        next hp =>
          refine reads_raise hr hs hage rfl rfl rfl (by rw [hp]; rfl) fun x hx => hnote ?_
          rw [hp]
          rwa [reportNotes_plain] at hx
      next => exact .refl s

theorem reads_judgeAt (s : State) (p : LegPos) : Reads s (judgeAt s p) := by
  unfold judgeAt
  split
  · exact reads_judge s _
  · exact .refl s

theorem reads_judgeRole (s : State) (r : Role) : Reads s (judgeRole s r) := by
  unfold judgeRole
  split
  · exact reads_judge s _
  · exact .refl s

theorem reads_judgeLegs (s : State) : Reads s (judgeLegs s) :=
  .foldl (fun t n => by split; exacts [reads_judge t n, .refl t]) _ s

theorem reads_judgeExclusive (s : State) : Reads s (judgeExclusive s) := .foldl reads_judgeAt _ s

/-- The read of a role's record finds it by its age, and reads no other (R53, R56). -/
theorem judgeRole_record (s : State) (role : Role) (n : Fin 8) :
    (judgeRole s role).record n = if s.stationOf role = some n then (aged s).record n else s.record n := by
  unfold judgeRole
  cases hst : s.stationOf role with
  | none => rw [if_neg nofun]
  | some m =>
    rw [judge_record]
    by_cases h : n = m
    · rw [if_pos h, if_pos (by rw [h]), h]
    · rw [if_neg h, if_neg fun he => h (Option.some.inj he).symm]

theorem judgeRole_unmarked {s : State} {role : Role} (h : ∀ n, s.stationOf role = some n → ¬ ReadMarks s n) :
    judgeRole s role = s := by
  unfold judgeRole
  split
  next n hst =>
    unfold judge
    split
    next => rfl
    next r hr =>
      split
      next => rfl
      next hfresh =>
        split
        next hage => exact absurd ⟨r, hr, by simpa using hfresh, hage⟩ (h n hst)
        next => rfl
  next => rfl

/-! ## The effective intent and the change point (R50, R80) -/

theorem stationOf_congr {s t : State} (h : t.setup = s.setup) (r : Role) : t.stationOf r = s.stationOf r := by
  simp only [State.stationOf, State.role, h]

theorem effIntent_congr {s t : State} (hs : t.setup = s.setup)
    (hr : ∀ n, s.stationOf .mission = some n → t.record n = s.record n) : effIntent t = effIntent s := by
  unfold effIntent
  rw [stationOf_congr hs]
  cases hst : s.stationOf .mission with
  | none => rfl
  | some n => simp only [hr n hst]

/-- The intent that a read of the MISSION record finds (R50, R53). -/
theorem effIntent_judgeRole (s : State) : effIntent (judgeRole s .mission) = effIntent (aged s) :=
  effIntent_congr (by simp) fun n hn => by
    rw [judgeRole_record, if_pos (by rwa [stationOf_congr (aged_apply s).2.2.1] at hn)]

/-- The Phase Engine after a change point (R80). -/
def changedPe (s : State) (i : EffIntent) : PhaseEngine :=
  { s.pe with
    applied := appliedOf i
    turn := if i.gait != s.pe.applied.gait then none else s.pe.turn
    lead := (i.gait != s.pe.applied.gait) || s.pe.lead }

theorem changePoint_eq (s : State) :
    changePoint s = { judgeRole s .mission with pe := changedPe s (effIntent (aged s)) } := by
  rw [← effIntent_judgeRole, changePoint, judgeRole_pe]
  rfl

theorem aged_record_congr {s t : State} (ht : t.time.us = s.time.us) (hs : t.setup = s.setup)
    (hr : t.pt.records = s.pt.records) (n : Fin 8) : (aged t).record n = (aged s).record n := by
  rw [record_aged, record_aged, funext (agedRecord_congr ht hs), State.record, State.record, hr]

theorem readMarks_congr {s t : State} (ht : t.time.us = s.time.us) (hs : t.setup = s.setup)
    (hr : t.pt.records = s.pt.records) (n : Fin 8) : ReadMarks t n ↔ ReadMarks s n := by
  simp only [ReadMarks, State.record, hr, staleLimit_congr hs, ageOf, ht]

/-- The intent by age depends on clock, setup and records alone. -/
theorem effIntent_aged_congr {s t : State} (ht : t.time.us = s.time.us) (hs : t.setup = s.setup)
    (hr : t.pt.records = s.pt.records) : effIntent (aged t) = effIntent (aged s) :=
  effIntent_congr (by simpa using hs) fun n _ => aged_record_congr ht hs hr n

end Sys2Proof.Reading
end

section
/-! The frames that the node builds of its own state (R26, R77, R145 to R148): placing one moves the queue and the retry mark
alone, and in a queue that has room it stands. -/

-- Elaborated in order: elaborated at once, the many proofs here take more threads than the check has memory for.
set_option Elab.async false

namespace Sys2Proof.OwnReports
open Sys2Proof Sys2Proof.Machine Sys2Proof.Laws Sys2Proof.QueueRules Sys2Proof.Attempts Sys2Proof.ClassAFaults
  Sys2Proof.FaultCommands Sys2Proof.Telling Sys2Proof.Reading

/-! ## Frames of a higher claim value than a Phase Notice -/

/-- `t` is `s` but for its queue, and the retry mark that a lost Event frame sets. -/
def QueueOnly (s t : State) : Prop := t = { s with txq := t.txq, flt := { s.flt with retry := t.flt.retry } }

theorem QueueOnly.refl (s : State) : QueueOnly s s := rfl

theorem QueueOnly.trans {s t u : State} (h : QueueOnly s t) (h' : QueueOnly t u) : QueueOnly s u := by
  unfold QueueOnly at *
  rw [h'] at *
  rw [h]

theorem kind_of_isLift {g : TxFrame} (h : g.isLift = true) : g.kind = some .phaseNotice := by
  simp only [TxFrame.isLift, Bool.and_eq_true, beq_iff_eq] at h
  exact h.1

/-- A frame does not leave for one of a kind with a higher code (R140, R142). -/
theorem mem_place_of_code {q : TxQueue} {f g : TxFrame} {j k : FrameKind} (hf : f.kind = some k) (hg : g.kind = some j)
    (hcode : j.code < k.code) (hmem : g ∈ q.frames) : g ∈ (q.place f).1.frames := by
  have hne : f.kind ≠ g.kind := by
    rw [hf, hg]
    rintro h
    rw [Option.some.inj h] at hcode
    exact absurd hcode (lt_irrefl _)
  have hslot : sameSlot f g = false := by
    rw [← Bool.not_eq_true, sameSlot_iff]
    exact fun h => hne h.1
  refine (mem_place_of_mem hf hmem (.inr (.inr hslot))).resolve_right fun hlost => ?_
  have hlt : g.claim < f.claim := claim_lt_of_code (by rwa [claimCode_of_kind hg, claimCode_of_kind hf])
  obtain rfl | ⟨-, -, hgt⟩ := place_lost hlost
  · exact hne rfl
  · bv_omega

/-- No Lift Notice leaves for a frame of a higher kind code: the claim stands (R107, R142). -/
theorem placeFrame_queueOnly {s : State} {f : TxFrame} {k : FrameKind} (hf : f.kind = some k)
    (hcode : FrameKind.phaseNotice.code < k.code) : QueueOnly s (placeFrame s f) := by
  have hpe : (placeFrame s f).pe = s.pe := by
    refine (placeFrame_pe s f).resolve_right ?_
    rintro ⟨-, ⟨v, hlost, hlift⟩, -⟩
    have hv := kind_of_isLift hlift
    have hlt : v.claim < f.claim := claim_lt_of_code (by rwa [claimCode_of_kind hv, claimCode_of_kind hf])
    obtain rfl | ⟨-, -, hgt⟩ := place_lost hlost
    · rw [hf] at hv
      rw [Option.some.inj hv] at hcode
      exact absurd hcode (lt_irrefl _)
    · bv_omega
  obtain ⟨htime, hsbi, hsetup, hpt, hfsu, hscu, htu, hpending⟩ := placeFrame_frame s f
  have hflt := placeFrame_flt s f
  unfold QueueOnly
  rw [← hflt, ← htime, ← hsbi, ← hsetup, ← hpt, ← hfsu, ← hscu, ← htu, ← hpending, ← hpe]

/-- A report enters a queue with room that holds no locked frame of its place (R140, R141). -/
theorem report_enters {q : TxQueue} {f : TxFrame}
    (hk : f.kind = some .legReport ∨ f.kind = some .footDetail ∨ f.kind = some .diagnostic)
    (hroom : q.frames.length < 8) (hopen : ∀ g ∈ q.frames, g.kind = f.kind → g.locked = false) :
    f ∈ (q.place f).1.frames := by
  cases hfind : q.frames.find? (sameSlot f) with
  | none =>
    have hfree : q.place f = q.takeIn f := place_free (.inl (by simpa using List.find?_eq_none.1 hfind))
    rw [hfree]
    exact mem_takeIn (.inl hroom)
  | some held =>
    have hmem := List.mem_of_find?_eq_some hfind
    have hslot : sameSlot f held = true := List.find?_some hfind
    have hlock : held.locked = false := hopen held hmem (sameSlot_iff.1 hslot).1.symm
    have hrenewed : q.place f = ({ q with frames := q.frames.map fun g => if sameSlot f g then f else g }, none) := by
      unfold TxQueue.place
      obtain hk | hk | hk := hk
      all_goals
        rw [hk]
        dsimp only
        rw [hfind]
        simp [hlock]
    rw [hrenewed]
    exact List.mem_map.2 ⟨held, hmem, if_pos hslot⟩

/-! ## The Report Schedule (R145, R146) -/

theorem legReport_kind (s : State) (l : List Byte) : (s.newFrame .legReport l).kind = some .legReport := newFrame_kind s _ l
theorem footDetail_kind (s : State) (l : List Byte) : (s.newFrame .footDetail l).kind = some .footDetail :=
  newFrame_kind s _ l

theorem queueOnly_placeLegReport (s : State) : QueueOnly s (placeLegReport s) :=
  placeFrame_queueOnly (legReport_kind s _) (by decide)

theorem queueOnly_placeFootDetail (s : State) : QueueOnly s (placeFootDetail s) :=
  placeFrame_queueOnly (footDetail_kind s _) (by decide)

/-- The schedule's first entry, the Leg Report. -/
def afterLegReport (s : State) : State := if legReportDue s then placeLegReport s else s

theorem examineSchedule_eq (s : State) : examineSchedule s =
    if footDetailDue (afterLegReport s) then placeFootDetail (afterLegReport s) else afterLegReport s := rfl

theorem queueOnly_afterLegReport (s : State) : QueueOnly s (afterLegReport s) := by
  unfold afterLegReport
  split
  exacts [queueOnly_placeLegReport s, .refl s]

theorem mem_afterLegReport {s : State} {g : TxFrame} (h : g ∈ (afterLegReport s).txq.frames) :
    g.kind = some .legReport ∨ g ∈ s.txq.frames := by
  unfold afterLegReport at h
  split at h
  · rw [placeLegReport, placeFrame_txq] at h
    refine (mem_place h).imp_left ?_
    rintro rfl
    exact legReport_kind s _
  · exact .inr h

theorem afterLegReport_length_le (s : State) : (afterLegReport s).txq.frames.length ≤ s.txq.frames.length + 1 := by
  unfold afterLegReport
  split
  · rw [placeLegReport, placeFrame_txq]
    exact place_length_le _ _
  · omega

theorem queueOnly_examineSchedule (s : State) : QueueOnly s (examineSchedule s) := by
  rw [examineSchedule_eq]
  split
  · exact (queueOnly_afterLegReport s).trans (queueOnly_placeFootDetail _)
  · exact queueOnly_afterLegReport s

/-- The schedule brings Leg Reports and Foot Details alone into the queue. -/
theorem mem_examineSchedule {s : State} {g : TxFrame} (h : g ∈ (examineSchedule s).txq.frames) :
    g.kind = some .legReport ∨ g.kind = some .footDetail ∨ g ∈ s.txq.frames := by
  rw [examineSchedule_eq] at h
  split at h
  · rw [placeFootDetail, placeFrame_txq] at h
    obtain rfl | h := mem_place h
    · exact .inr (.inl (footDetail_kind _ _))
    · exact (mem_afterLegReport h).imp_right .inr
  · exact (mem_afterLegReport h).imp_right .inr

theorem examineSchedule_length_le (s : State) : (examineSchedule s).txq.frames.length ≤ s.txq.frames.length + 2 := by
  have hfirst := afterLegReport_length_le s
  rw [examineSchedule_eq]
  split
  · rw [placeFootDetail, placeFrame_txq]
    exact (place_length_le _ _).trans (by omega)
  · omega

/-- A Leg Report that is due stands after the schedule has been examined (R141, R146). -/
theorem legReport_placed {s : State} (hdue : legReportDue s = true) (hroom : s.txq.frames.length < 8)
    (hopen : ∀ g ∈ s.txq.frames, g.kind = some .legReport → g.locked = false) :
    s.newFrame .legReport (legReportPayload s) ∈ (examineSchedule s).txq.frames := by
  have hk := legReport_kind s (legReportPayload s)
  have hplaced : s.newFrame .legReport (legReportPayload s) ∈ (placeLegReport s).txq.frames := by
    rw [placeLegReport, placeFrame_txq]
    exact report_enters (.inl hk) hroom fun g hg he => hopen g hg (he.trans hk)
  have hfirst : afterLegReport s = placeLegReport s := if_pos hdue
  rw [examineSchedule_eq, hfirst]
  split
  · rw [placeFootDetail, placeFrame_txq]
    exact mem_place_of_code (footDetail_kind _ _) hk (by decide) hplaced
  · exact hplaced

/-- A Foot Detail that is due stands after the schedule has been examined (R141, R146). -/
theorem footDetail_placed {s : State} (hdue : footDetailDue s = true) (hroom : s.txq.frames.length ≤ 6)
    (hopen : ∀ g ∈ s.txq.frames, g.kind = some .footDetail → g.locked = false) :
    s.newFrame .footDetail (footDetailPayload s) ∈ (examineSchedule s).txq.frames := by
  obtain ⟨t, ht⟩ : ∃ t, t = afterLegReport s := ⟨_, rfl⟩
  have hsame : QueueOnly s t := ht ▸ queueOnly_afterLegReport s
  have hlen : t.txq.frames.length ≤ s.txq.frames.length + 1 := ht ▸ afterLegReport_length_le s
  have hmem : ∀ g ∈ t.txq.frames, g.kind = some .footDetail → g ∈ s.txq.frames := fun g hg hk =>
    (mem_afterLegReport (ht ▸ hg)).resolve_left fun h => by rw [h] at hk; cases hk
  have hframe : t.newFrame .footDetail (footDetailPayload t) = s.newFrame .footDetail (footDetailPayload s) := by
    rw [hsame]; rfl
  have hdue' : footDetailDue t = true := by rw [hsame]; exact hdue
  have hk := footDetail_kind s (footDetailPayload s)
  rw [examineSchedule_eq, ← ht, if_pos hdue', placeFootDetail, placeFrame_txq, hframe]
  exact report_enters (.inr (.inl hk)) (by omega) fun g hg he => hopen g (hmem g hg (he.trans hk)) (he.trans hk)

theorem dueAt_iff {epoch offset period : Nat} :
    dueAt epoch offset period = true ↔ offset ≤ epoch ∧ (epoch - offset) % period = 0 := by
  simp [dueAt]

/-- A schedule with no entry due does nothing (R146). -/
theorem examineSchedule_idle {s : State} (h1 : legReportDue s = false) (h2 : footDetailDue s = false) :
    examineSchedule s = s := by
  have hfirst : afterLegReport s = s := if_neg (by simp [h1])
  rw [examineSchedule_eq, hfirst, if_neg (by simp [h2])]

end Sys2Proof.OwnReports
end

section
/-! The bytes of the frames that the node builds of its own state (R26, R77, R118, R139, R147), and the epoch tick (R145,
R146). -/

-- Elaborated in order: elaborated at once, the many proofs here take more threads than the check has memory for.
set_option Elab.async false

namespace Sys2Proof.EpochReports
open Sys2Proof Sys2Proof.Machine Sys2Proof.Laws Sys2Proof.LineFaults Sys2Proof.OwnReports

/-! ## Bytes -/

/-- The two bytes of a word, put together, are the word. -/
theorem ofBytes_hiByte_loByte (h : Half) : ofBytes (hiByte h) (loByte h) = h := by
  show h.extractLsb' 8 8 ++ h.extractLsb' 0 8 = h
  ext i hi
  simp only [BitVec.getElem_append, BitVec.getElem_extractLsb']
  split
  · simp only [Nat.zero_add]
    exact (BitVec.getLsbD_eq_getElem hi).symm ▸ rfl
  · rw [show 8 + (i - 8) = i by omega]
    exact BitVec.getLsbD_eq_getElem hi

theorem toNat_ofNat_byte {n : Nat} (h : n < 256) : (BitVec.ofNat 8 n).toNat = n := by
  rw [BitVec.toNat_ofNat]
  exact Nat.mod_eq_of_lt h

theorem toInt_ofInt_byte {v : Int} (hlo : -128 ≤ v) (hhi : v ≤ 127) : (BitVec.ofInt 8 v).toInt = v := by
  rw [BitVec.toInt_ofInt]
  exact Int.bmod_eq_of_le (by omega) (by omega)

theorem legPos_code_le (p : LegPos) : p.code ≤ 3 := by cases p <;> decide
theorem legState_code_le (l : LegState) : l.code ≤ 7 := by cases l <;> decide
theorem gait_code_le (g : Gait) : g.code ≤ 2 := by cases g <;> decide
theorem contact_code_le (c : Contact) : c.code ≤ 2 := by cases c <;> decide
theorem wait_code_le (w : WaitReason) : w.code ≤ 12 := by cases w <;> decide

/-- A sway byte is 0 unless the wait reason is MARGIN (R118). -/
theorem swayByte_of_ne {s : State} (h : s.pe.wait ≠ .margin) (pick : P2 → Int) : swayByte s pick = 0#8 := if_neg h

theorem swayByte_margin {s : State} {r : P2} (h : s.pe.wait = .margin) (hr : s.pe.ownSway = some r) (pick : P2 → Int) :
    (swayByte s pick).toInt = max (-127) (min 127 ((pick r).tdiv 2)) := by
  rw [swayByte, if_pos h, hr]
  show (BitVec.ofInt 8 (swayUnit (pick r))).toInt = _
  rw [swayUnit, clampInt_eq _ _ _ (by omega)]
  exact toInt_ofInt_byte (by omega) (by omega)

/-- The Leg Report and Foot Detail of a state in their bytes (R26, R147, R77). -/
theorem legReport_bytes (s : State) :
    let b := byteAt (legReportPayload s)
    (legReportPayload s).length = 13 ∧
    (b 0).toNat = s.legPos.code * 64 + s.pe.leg.code * 8 + s.pe.applied.gait.code * 2 + s.fsu.slipping.toNat ∧
    (b 1).toNat = s.fsu.contact.code * 64 + s.pe.wait.code * 4 + (classALatched s).toNat * 2 + (classBLatched s).toNat ∧
    (b 2).toNat = s.pe.phi.toNat / 256 ∧ b 3 = s.pe.steps ∧
    (s.tu.measured.x.natAbs ≤ 3276800 → RoundsTo 1000 (ofBytes (b 4) (b 5)) s.tu.measured.x) ∧
    (s.tu.measured.y.natAbs ≤ 3276800 → RoundsTo 1000 (ofBytes (b 6) (b 7)) s.tu.measured.y) ∧
    (s.tu.measured.z.natAbs ≤ 3276800 → RoundsTo 1000 (ofBytes (b 8) (b 9)) s.tu.measured.z) ∧
    (s.pe.wait ≠ .margin → b 10 = 0#8 ∧ b 11 = 0#8) ∧
    (s.pe.wait = .margin → ∀ r, s.pe.ownSway = some r →
      (b 10).toInt = max (-127) (min 127 (r.x.tdiv 2)) ∧ (b 11).toInt = max (-127) (min 127 (r.y.tdiv 2))) ∧
    (b 12).toNat = s.tu.stanceLimit.toNat * 128 + s.fsu.degraded.toNat * 64 + s.tu.driveLimit.toNat * 32 := by
  have hbool (b : Bool) : b.toNat ≤ 1 := Bool.toNat_le b
  have hrounds (v : Int) (h : v.natAbs ≤ 3276800) :
      RoundsTo 1000 (ofBytes (hiByte (BitVec.ofInt 16 (footMm v))) (loByte (BitVec.ofInt 16 (footMm v)))) v := by
    rw [ofBytes_hiByte_loByte]
    exact footMm_roundsTo v h
  refine ⟨rfl, toNat_ofNat_byte ?_, toNat_ofNat_byte ?_, toNat_ofNat_byte ?_, rfl, hrounds _, hrounds _, hrounds _,
    fun h => ⟨swayByte_of_ne h _, swayByte_of_ne h _⟩, fun h r hr => ⟨swayByte_margin h hr _, swayByte_margin h hr _⟩,
    toNat_ofNat_byte ?_⟩
  · have h1 := legPos_code_le s.legPos
    have h2 := legState_code_le s.pe.leg
    have h3 := gait_code_le s.pe.applied.gait
    have h4 := hbool s.fsu.slipping
    omega
  · have h1 := contact_code_le s.fsu.contact
    have h2 := wait_code_le s.pe.wait
    have h3 := hbool (classALatched s)
    have h4 := hbool (classBLatched s)
    omega
  · have h := s.pe.phi.isLt
    omega
  · have h1 := hbool s.tu.stanceLimit
    have h2 := hbool s.fsu.degraded
    have h3 := hbool s.tu.driveLimit
    omega

theorem footDetail_bytes (s : State) :
    let b := byteAt (footDetailPayload s)
    (footDetailPayload s).length = 8 ∧
    ofBytes (b 0) (b 1) = BitVec.ofInt 16 s.fsu.ax.out ∧ ofBytes (b 2) (b 3) = BitVec.ofInt 16 s.fsu.ay.out ∧
    ofBytes (b 4) (b 5) = BitVec.ofInt 16 s.fsu.az.out ∧ (b 6).toNat = s.fsu.contact.code ∧
    (b 7).toNat = s.fsu.slipping.toNat * 128 + s.fsu.degraded.toNat * 64 + s.fsu.ax.limit.toNat * 32 +
      s.fsu.ay.limit.toNat * 16 + s.fsu.az.limit.toNat * 8 := by
  have hbool (b : Bool) : b.toNat ≤ 1 := Bool.toNat_le b
  refine ⟨rfl, ofBytes_hiByte_loByte _, ofBytes_hiByte_loByte _, ofBytes_hiByte_loByte _, toNat_ofNat_byte ?_,
    toNat_ofNat_byte ?_⟩
  · have h := contact_code_le s.fsu.contact
    omega
  · have h1 := hbool s.fsu.slipping
    have h2 := hbool s.fsu.degraded
    have h3 := hbool s.fsu.ax.limit
    have h4 := hbool s.fsu.ay.limit
    have h5 := hbool s.fsu.az.limit
    omega

/-! ## The epoch tick -/

/-- Settles O59: the tick examines the schedule, which places what is due. -/
theorem epochTicks : Obligations.EpochTicks := by
  refine ⟨fun dt s k htimer hk => ?_, legReport_bytes, footDetail_bytes⟩
  intro e isDue
  have hexec : exec (.epochTick dt) s = .next (examineSchedule e) :=
    congrArg Host.Outcome.next (if_pos (due_after htimer hk))
  have hlegDue : legReportDue e = true ↔ isDue s.reportPeriod := dueAt_iff
  have hdetailDue : footDetailDue e = true ↔ s.detailPeriod ≠ 0 ∧ isDue s.detailPeriod := by
    unfold footDetailDue
    rw [Bool.and_eq_true, bne_iff_ne, dueAt_iff]
    rfl
  have hframe (k : FrameKind) (p : List Byte) :
      e.newFrame k p = { claim := claimByte k s.sbi.station, payload := p, locked := false } := by
    simp [State.newFrame, e]
  refine ⟨_, hexec, queueOnly_examineSchedule e, fun hleg hdetail => ?_, fun hdue hroom hopen => ?_,
    fun hon hdue hroom hopen => ?_⟩
  · refine examineSchedule_idle ?_ ?_
    · rw [← Bool.not_eq_true, hlegDue]; exact hleg
    · rw [← Bool.not_eq_true, hdetailDue]
      rintro ⟨hon, hdue⟩
      exact hdetail.elim hon fun h => h hdue
  · rw [← hframe]
    exact legReport_placed (hlegDue.2 hdue) hroom hopen
  · rw [← hframe]
    exact footDetail_placed (hdetailDue.2 ⟨hon, hdue⟩) hroom hopen

end Sys2Proof.EpochReports
end

section
/-! The Control commands START (R37), RESTART (R38), RESUME (R155) and QUERY (R148). -/

-- Elaborated in order: elaborated at once, the many proofs here take more threads than the check has memory for.
set_option Elab.async false

namespace Sys2Proof.ControlCommands
open Sys2Proof Sys2Proof.Machine Sys2Proof.Laws Sys2Proof.QueueRules Sys2Proof.Keeping Sys2Proof.Attempts
  Sys2Proof.IntentStorage Sys2Proof.FaultCommands Sys2Proof.ClassAFaults Sys2Proof.Telling Sys2Proof.Reading
  Sys2Proof.OwnReports Sys2Proof.EpochReports

/-! ## START -/

/-- The state in which an accepted START takes its change point (R37). -/
def startState (s : State) : State :=
  { s with pe := { s.pe.enter .stance with phi := 0#16, steps := 0#8 }, tu := { s.tu with p := s.tu.measured } }

theorem beginWalk_eq (s : State) : beginWalk s = { judgeRole (startState s) .mission with
    pe := { changedPe (startState s) (effIntent (aged s)) with turn := none, lead := true } } := by
  have hintent : effIntent (aged (startState s)) = effIntent (aged s) := effIntent_aged_congr rfl rfl rfl
  show { changePoint (startState s) with pe := { (changePoint (startState s)).pe with turn := none, lead := true } } = _
  rw [changePoint_eq, hintent]

/-- Settles O41: START in READY begins to walk or is refused, and while walking does nothing. -/
theorem startTaken : Obligations.StartTaken := by
  intro dt s f hcom h
  have hexec : exec (.start dt f) s = .next (takeStart h) := congrArg _ (receiveControl_commanded hcom dt takeStart)
  rw [hexec]
  refine ⟨fun hleg hfault hstarted => ⟨_, rfl, ?_⟩, fun hleg hfault => ⟨_, rfl, ?_⟩,
    fun hleg hfault hstarted => ⟨_, rfl, ?_⟩, fun hwalk => ?_⟩
  · have htake : takeStart h = beginWalk h := by
      rw [takeStart, if_pos (c := h.pe.leg = .ready) hleg, if_neg (c := classALatched h = true) (Bool.eq_false_iff.1 hfault),
        if_pos (c := h.tu.started = true) hstarted]
    have hreads := reads_judgeRole (startState h) .mission
    rw [htake, beginWalk_eq]
    refine ⟨rfl, hreads.tu, hreads.time, hreads.sbi, hreads.setup, hreads.fsu, hreads.scu,
      judgeRole_record (startState h) .mission, fun hno => ?_⟩
    rw [judgeRole_unmarked (s := startState h) hno]
    exact ⟨rfl, rfl, rfl⟩
  · have htake : takeStart h = recordEvent h .startRefused 1#8 := by
      rw [takeStart, if_pos (c := h.pe.leg = .ready) hleg, if_pos (c := classALatched h = true) hfault]
    rw [htake]
    exact recordEvent_onlyLogs h .startRefused 1#8
  · have htake : takeStart h = recordEvent h .startRefused 2#8 := by
      rw [takeStart, if_pos (c := h.pe.leg = .ready) hleg, if_neg (c := classALatched h = true) (Bool.eq_false_iff.1 hfault),
        if_neg (c := h.tu.started = true) (Bool.eq_false_iff.1 hstarted)]
    rw [htake]
    exact recordEvent_onlyLogs h .startRefused 2#8
  · have hready : ¬ h.pe.leg = .ready := fun hr => by
      rw [show s.pe.leg = .ready from hr] at hwalk
      cases hwalk
    rw [takeStart, if_neg hready]

/-! ## RESUME -/

/-- The state in which a taken RESUME takes its change point (R155). -/
def resumeState0 (s : State) : State := { s with pe := { s.pe with phi := 0#16 } }

/-- The Phase Engine as a taken RESUME leaves HOLD (R155). -/
def resumedPe (s : State) (i : EffIntent) : PhaseEngine :=
  { s.pe with
    phi := 0#16, applied := appliedOf i, turn := none, lead := true, origin := none, wait := .none, ownSway := none }

theorem leaveHold_eq (s : State) : leaveHold s = { judgeRole (resumeState0 s) .mission with
    pe := resumedPe s (effIntent (aged s)) } := by
  have hintent : effIntent (aged (resumeState0 s)) = effIntent (aged s) := effIntent_aged_congr rfl rfl rfl
  show { changePoint (resumeState0 s) with
    pe := { (changePoint (resumeState0 s)).pe with turn := none, lead := true, origin := none }.withWait .none } = _
  rw [changePoint_eq, hintent]
  rfl

/-- The entry by the contact class moves the Phase Engine and the Trajectory Unit alone (R155). -/
theorem resumeEnter_eq (s : State) :
    resumeEnter s = { s with pe := (resumeEnter s).pe, tu := (resumeEnter s).tu } ∧
      (resumeEnter s).pe.leg = resumeState s.fsu.contact := by
  unfold resumeEnter
  cases s.fsu.contact <;> exact ⟨rfl, rfl⟩

/-- The alarms counted in HOLD are told, and the count is emptied (R155). -/
theorem recordHeldAlarms_tells (s : State) :
    Tells s (recordHeldAlarms s) (if s.flt.alarmsInHold = 0#8 then []
      else [{ bit := 4, code := 0x10, detail := s.flt.alarmsInHold }]) := by
  unfold recordHeldAlarms
  split
  · exact .still
  · exact (Tells.of_recordEvent (e := .alarmsDuringHold) s.flt.alarmsInHold).trans (ms := []) .still

theorem recordHeldAlarms_frame (s : State) :
    (recordHeldAlarms s).time = s.time ∧ (recordHeldAlarms s).setup = s.setup ∧ (recordHeldAlarms s).pt = s.pt ∧
      (recordHeldAlarms s).fsu = s.fsu ∧ (recordHeldAlarms s).scu = s.scu ∧ (recordHeldAlarms s).tu = s.tu ∧
      (recordHeldAlarms s).flt.conds = s.flt.conds ∧ (recordHeldAlarms s).flt.alarmsInHold = 0#8 := by
  unfold recordHeldAlarms
  split
  next h => exact ⟨rfl, rfl, rfl, rfl, rfl, rfl, rfl, h⟩
  next => simp

/-- Settles O43: the alarms told, HOLD left at the change point, the state entered by the contact class, the event told. -/
theorem resumeTaken : Obligations.ResumeTaken := by
  intro dt s f hcom hleg hfault h i
  obtain ⟨a, ha⟩ : ∃ a, a = recordHeldAlarms h := ⟨_, rfl⟩
  obtain ⟨l, hl⟩ : ∃ l, l = leaveHold a := ⟨_, rfl⟩
  obtain ⟨e, he⟩ : ∃ e, e = resumeEnter l := ⟨_, rfl⟩
  obtain ⟨t, ht⟩ : ∃ t, t = recordEvent e .resumeTaken (BitVec.ofNat 8 e.pe.leg.code) := ⟨_, rfl⟩
  have htake : takeResume h = t := by
    rw [takeResume, if_pos (c := h.pe.leg = .hold) hleg, if_neg (c := classALatched h = true) (Bool.eq_false_iff.1 hfault), ht,
      he, hl, ha]
    rfl
  have hexec : exec (.resume dt f) s = .next t := congrArg _ ((receiveControl_commanded hcom dt takeResume).trans htake)
  obtain ⟨atime, asetup, apt, afsu, ascu, atu, aconds, aalarms⟩ := ha ▸ recordHeldAlarms_frame h
  obtain ⟨ape, aflags, asbi⟩ := ha ▸ recordHeldAlarms_pe h
  have atells := ha ▸ recordHeldAlarms_tells h
  have hi : effIntent (aged a) = i := effIntent_aged_congr (by rw [atime]) asetup (by rw [apt])
  have hleave : l = { judgeRole (resumeState0 a) .mission with pe := resumedPe h i } := by
    rw [hl, leaveHold_eq, hi, resumedPe, ape, resumedPe]
  have hreads := reads_judgeRole (resumeState0 a) .mission
  obtain ⟨henter, hentered⟩ := he ▸ resumeEnter_eq l
  have lfsu : l.fsu = h.fsu := by rw [hleave]; exact hreads.fsu.trans afsu
  have ltu : l.tu = h.tu := by rw [hleave]; exact hreads.tu.trans atu
  have lsetup : l.setup = h.setup := by rw [hleave]; exact hreads.setup.trans asetup
  have lpe : l.pe = resumedPe h i := by rw [hleave]
  have ept : e.pt = (judgeRole (resumeState0 a) .mission).pt := by rw [henter, hleave]
  have eflt : e.flt = (judgeRole (resumeState0 a) .mission).flt := by rw [henter, hleave]
  have tpe : t.pe = e.pe := by simp [ht]
  have ttu : t.tu = e.tu := by simp [ht]
  have tpt : t.pt = e.pt := by simp [ht]
  have hoffers : Offers h t := by
    have h1 : Offers a (resumeState0 a) := offers_of_offerBasis rfl
    have h2 : Offers (judgeRole (resumeState0 a) .mission) e := offers_of_offerBasis (by rw [henter, hleave]; rfl)
    exact (((atells.toOffers.trans h1).trans hreads.offers).trans h2).trans (ht ▸ offers_recordEvent e _ _)
  have hentry (c : Contact) (hc : s.fsu.contact = c) : l.fsu.contact = c := by rw [lfsu]; exact hc
  refine ⟨t, hexec, ⟨fun hc => ?_, fun hc => ?_, fun hc => ?_⟩, fun n => ?_, ?_, ?_, ?_, ?_, ?_, ?_, hoffers.mem,
    fun hno => ?_⟩
  · have heq : e = { l with pe := l.pe.enter .stance } := by rw [he, resumeEnter, hentry _ hc]
    have tleg : t.pe.leg = .stance := by rw [tpe, heq]; rfl
    refine ⟨tleg, ?_, by rw [ttu, heq, ltu]⟩
    rw [tleg, tpe, heq, lpe]
    rfl
  · have heq : e = resumeLoad l := by rw [he, resumeEnter, hentry _ hc]
    have tleg : t.pe.leg = .load := by rw [tpe, heq]; rfl
    refine ⟨tleg, ?_, by rw [ttu, heq, resumeLoad, ltu]; rfl⟩
    have hload : l.loadMs = s.loadMs := by simp only [State.loadMs, State.uword, lsetup]; rfl
    rw [tleg, tpe, heq, resumeLoad, lpe, hload]
    rfl
  · have heq : e = resumeSearch l := by rw [he, resumeEnter, hentry _ hc]
    have tleg : t.pe.leg = .search := by rw [tpe, heq]; rfl
    refine ⟨tleg, ?_, ?_⟩
    · have hfoothold : l.footholdMs = (appliedOf i).tSw * s.footholdF / 8 := by
        simp only [State.footholdMs, State.footholdF, State.uword, lpe, lsetup]; rfl
      rw [tleg, tpe, heq, resumeSearch, lpe, hfoothold]
      rfl
    · rw [ttu, heq, resumeSearch, lpe, ltu]
      rfl
  · have hrecord := judgeRole_record (resumeState0 a) .mission n
    rw [stationOf_congr (s := h) (t := resumeState0 a) asetup, aged_record_congr (s := h) (t := resumeState0 a) (by exact congrArg _ atime) asetup
      (by exact congrArg _ apt)] at hrecord
    have hkept : (resumeState0 a).record n = s.record n := congrArg (fun pt => pt.records[n]) apt
    rw [State.record, tpt, ept, ← hkept]
    exact hrecord
  · rw [ht, (recordEvent_keeps _ _ _).2.2.2.2.2.2, eflt, hreads.alarms]
    exact aalarms
  · rw [ht, (recordEvent_frame _ _ _).1, henter, hleave]
    exact hreads.time.trans atime
  · exact hoffers.sbi
  · rw [ht, (recordEvent_frame _ _ _).2.2.1, henter, hleave]
    exact hreads.setup.trans asetup
  · rw [ht, (recordEvent_frame _ _ _).2.2.2.2.1, henter]
    exact lfsu
  · rw [ht, (recordEvent_frame _ _ _).2.2.2.2.2.1, henter, hleave]
    exact hreads.scu.trans ascu
  · have hstill : judgeRole (resumeState0 a) .mission = resumeState0 a := judgeRole_unmarked fun n hn hm => by
      rw [stationOf_congr (s := h) (t := resumeState0 a) asetup] at hn
      exact hno n hn ((readMarks_congr (by exact congrArg _ atime) asetup (by exact congrArg _ apt) n).1 hm)
    rw [hstill] at ept eflt
    have hnot (c : Contact) : resumeState c ≠ .setup := by cases c <;> nofun
    have eleg : e.pe.leg ≠ .setup := by rw [hentered]; exact hnot _
    have aleg : a.pe.leg ≠ .setup := by rw [ape, show h.pe.leg = .hold from hleg]; nofun
    have hentered' : Tells a e [] := .still
      (by
        have hlets : letIn e = letIn a := letIn_congr aleg eleg (by rw [henter]; exact lsetup.trans asetup.symm)
        have htime : e.time = a.time := by rw [henter, hleave]; exact hreads.time
        simp only [logBasis, hlets, htime, eflt]
        rfl)
      (by rw [henter, hleave, hstill]; rfl)
    have htells := (atells.trans hentered').trans (.of_recordEvent (e := .resumeTaken) (BitVec.ofNat 8 e.pe.leg.code))
    rw [← ht, List.append_nil] at htells
    refine ⟨tpt.trans (ept.trans apt), ?_, ?_, ?_, ?_⟩
    · rw [ht, (recordEvent_keeps _ _ _).2.1, eflt]
      exact aflags
    · rw [ht, (recordEvent_keeps _ _ _).2.2.1, eflt]
      exact aconds
    · exact (offered_congr (by simp [h]) _).1 hoffers.offered
    · rw [tpe]
      exact htells.logs

/-! ## RESTART -/

theorem reportPayloads_congr {s t : State} (h : QueueOnly s t) :
    legReportPayload t = legReportPayload s ∧ footDetailPayload t = footDetailPayload s := by
  unfold QueueOnly at h
  rw [h]
  exact ⟨rfl, rfl⟩

/-- The first frame of an empty queue (R140). -/
theorem place_in_empty {q : TxQueue} (h : q.frames = []) (f : TxFrame) : q.place f = ({ q with frames := [f] }, none) := by
  rw [place_free (.inl (by simp [h])), TxQueue.takeIn, if_pos (by simp [h, queueMax]), h]
  rfl

/-- A Foot Detail stands behind the Leg Report (R140). -/
theorem place_behind_report {q : TxQueue} {f g : TxFrame} {n : Fin 8} (h : q.frames = [g])
    (hg : g.claim = claimByte .legReport n) (hf : f.claim = claimByte .footDetail n) :
    q.place f = ({ q with frames := [g, f] }, none) := by
  have hslot : sameSlot f g = false := by
    rw [← Bool.not_eq_true, sameSlot_iff, kind_of_claim hf, kind_of_claim hg]
    exact fun h => nomatch h.1
  have hclaims : ∀ n : Fin 8, ¬ claimByte .footDetail n < claimByte .legReport n := by decide
  have hbehind : ¬ f.claim < g.claim := by rw [hf, hg]; exact hclaims n
  rw [place_free (.inl (by simp [h, hslot])), TxQueue.takeIn, if_pos (by simp [h, queueMax]), h, insertFrame,
    if_neg hbehind]
  rfl

theorem dueAt_zero (offset period : Nat) : dueAt 0 offset period = decide (offset = 0) := by
  simp [dueAt]

/-- What the schedule makes of a restarted node (R145, R146). -/
theorem examineSchedule_restarted {r : State} (hempty : r.txq.frames = []) (hepoch : r.time.epoch = 0#16) :
    examineSchedule r = { r with txq := { r.txq with frames :=
      if r.reportOffset ≠ 0 then []
      else if r.detailPeriod = 0 then [r.newFrame .legReport (legReportPayload r)]
      else [r.newFrame .legReport (legReportPayload r), r.newFrame .footDetail (footDetailPayload r)] } } := by
  have hzero : r.time.epoch.toNat = 0 := by rw [hepoch]; rfl
  have hleg : legReportDue r = decide (r.reportOffset = 0) := by rw [legReportDue, hzero, dueAt_zero]
  have hdetail : footDetailDue r = (r.detailPeriod != 0 && decide (r.reportOffset = 0)) := by
    rw [footDetailDue, hzero, dueAt_zero]
  have hnone : r = { r with txq := { r.txq with frames := [] } } := by rw [← hempty]
  by_cases hoff : r.reportOffset = 0
  · have hreport : placeLegReport r =
        { r with txq := { r.txq with frames := [r.newFrame .legReport (legReportPayload r)] } } := by
      have hplace := place_in_empty hempty (r.newFrame .legReport (legReportPayload r))
      rw [placeLegReport, placeFrame_of_kept (by rw [hplace]), hplace]
    have hfirst : afterLegReport r = placeLegReport r := if_pos (by simp [hleg, hoff])
    rw [if_neg (by simp [hoff]), examineSchedule_eq, hfirst, hreport]
    by_cases hon : r.detailPeriod = 0
    · rw [if_pos hon, if_neg]
      show ¬ footDetailDue r = true
      simp [hdetail, hon]
    · rw [if_neg hon, if_pos (by show footDetailDue r = true; simp [hdetail, hon, hoff])]
      have hplace := place_behind_report (q := { r.txq with frames := [r.newFrame .legReport (legReportPayload r)] })
        (f := r.newFrame .footDetail (footDetailPayload r)) rfl (n := r.sbi.station) rfl rfl
      rw [placeFootDetail]
      exact (placeFrame_of_kept (by exact congrArg Prod.snd hplace)).trans 
        (congrArg (fun q => ({ r with txq := q } : State)) (congrArg Prod.fst hplace))
  · rw [if_pos hoff, examineSchedule_idle (by simp [hleg, hoff]) (by simp [hdetail, hoff])]
    exact hnone

/-- Settles O42: RESTART gives the blocks their values and examines the schedule at epoch 0. -/
theorem restartTaken : Obligations.RestartTaken := by
  intro dt s f hcom h
  have ⟨⟨_, hleg, _⟩, _⟩ := hcom
  have hexec : exec (.restart dt f) s = .next (restartNode h) := congrArg _ (receiveControl_commanded hcom dt restartNode)
  have hrestart : restartNode h = examineSchedule (restartBlocks h) := if_neg hleg
  obtain ⟨hreport, hdetail⟩ := reportPayloads_congr (queueOnly_examineSchedule (restartBlocks h))
  have hframe (k : FrameKind) (p : List Byte) : (restartBlocks h).newFrame k p =
      { claim := claimByte k s.sbi.station, payload := p, locked := false } := by
    simp [State.newFrame, restartBlocks, h]
  have hframes : (examineSchedule (restartBlocks h)).txq.frames =
      if s.reportOffset ≠ 0 then []
      else if s.detailPeriod = 0 then [(restartBlocks h).newFrame .legReport (legReportPayload (restartBlocks h))]
      else [(restartBlocks h).newFrame .legReport (legReportPayload (restartBlocks h)),
        (restartBlocks h).newFrame .footDetail (footDetailPayload (restartBlocks h))] := by
    rw [examineSchedule_restarted (r := restartBlocks h) rfl rfl]
    rfl
  refine ⟨_, hexec.trans (congrArg _ hrestart), ?_⟩
  refine ⟨?_, ?_, ?_, ?_, ?_, ?_, ?_, ?_, ?_, ?_, fun g hg => ?_, ?_⟩
  iterate 10 rw [examineSchedule_restarted (r := restartBlocks h) rfl rfl]; rfl
  · rw [hframes] at hg
    split at hg
    · cases hg
    · split at hg
      · obtain rfl := List.mem_singleton.1 hg
        exact .inl (legReport_kind _ _)
      · obtain rfl | hg := List.mem_cons.1 hg
        · exact .inl (legReport_kind _ _)
        · obtain rfl := List.mem_singleton.1 hg
          exact .inr (footDetail_kind _ _)
  · rw [hframes, hreport, hdetail, hframe, hframe]

/-! ## QUERY -/

theorem diagnostic_kind (s : State) (l : List Byte) : (s.newFrame .diagnostic l).kind = some .diagnostic :=
  newFrame_kind s _ l

theorem queueOnly_placeDiagnostic {s : State} {block : Nat} (h : block ≠ 3) : QueueOnly s (placeDiagnostic s block) := by
  unfold placeDiagnostic
  rw [if_neg h]
  exact placeFrame_queueOnly (diagnostic_kind s _) (by decide)

/-- A word built bit by bit from a test of each bit. -/
theorem getLsbD_foldl_or {w : Nat} {α : Type} (p : α → Bool) (at_ : α → Nat) (l : List α) (b : BitVec w) {j : Nat} (hj : j < w) :
    (l.foldl (fun b i => if p i then b ||| BitVec.ofNat w (2 ^ at_ i) else b) b).getLsbD j =
      (b.getLsbD j || l.any fun i => p i && decide (at_ i = j)) := by
  induction l generalizing b with
  | nil => simp
  | cons i l ih =>
    have hpow : (BitVec.ofNat w (2 ^ at_ i)).getLsbD j = decide (at_ i = j) := by
      rw [BitVec.getLsbD_ofNat, Nat.testBit_two_pow]
      simp [hj]
    rw [List.foldl_cons, ih, List.any_cons]
    cases hp : p i with
    | false => simp
    | true => rw [if_pos rfl, BitVec.getLsbD_or, hpow, Bool.true_and, Bool.or_assoc]

theorem any_finRange_at {n : Nat} (p : Fin n → Bool) (j : Fin n) :
    ((List.finRange n).any fun i => p i && decide (i.val = j.val)) = p j := by
  rw [Bool.eq_iff_iff, List.any_eq_true]
  constructor
  · rintro ⟨i, -, hi⟩
    obtain ⟨hp, hij⟩ := Bool.and_eq_true_iff.1 hi
    rwa [Fin.ext (of_decide_eq_true hij)] at hp
  · exact fun hp => ⟨j, List.mem_finRange j, by simp [hp]⟩

/-- The bits of the class-A flags (R26). -/
theorem classABits_bit (s : State) (i : Fin 8) : (classABits s).getLsbD i.val = s.flt.flags[i.val] := by
  have h := getLsbD_foldl_or (w := 8) (fun i : Fin 8 => s.flt.flags[i.val]) Fin.val (List.finRange 8) 0#8 i.isLt
  rw [any_finRange_at (fun i : Fin 8 => s.flt.flags[i.val]), BitVec.getLsbD_zero, Bool.false_or] at h
  exact h

/-- The bits of the class-B flags (R26). -/
theorem classBBits_bit (s : State) (i : Fin 9) : (classBBits s).getLsbD i.val = s.flt.flags[i.val + 8] := by
  have h := getLsbD_foldl_or (w := 16) (fun i : Fin 9 => s.flt.flags[i.val + 8]) Fin.val (List.finRange 9) 0#16
    (j := i.val) (by omega)
  rw [any_finRange_at (fun i : Fin 9 => s.flt.flags[i.val + 8]), BitVec.getLsbD_zero, Bool.false_or] at h
  exact h

theorem classBBits_high (s : State) {i : Nat} (h9 : 9 ≤ i) (h16 : i < 16) : (classBBits s).getLsbD i = false := by
  have h := getLsbD_foldl_or (w := 16) (fun i : Fin 9 => s.flt.flags[i.val + 8]) Fin.val (List.finRange 9) 0#16 h16
  have hnone : ((List.finRange 9).any fun k => s.flt.flags[k.val + 8] && decide (k.val = i)) = false := by
    rw [List.any_eq_false]
    intro k _
    have : k.val ≠ i := by omega
    simp [this]
  rw [hnone, BitVec.getLsbD_zero, Bool.false_or] at h
  exact h

/-- Settles O46: a QUERY places the block it names, read at its arrival. -/
theorem queryAnswered : Obligations.QueryAnswered := by
  refine ⟨fun dt s f hcom => ?_, fun s => ⟨rfl, rfl, rfl, ?_, ?_⟩⟩
  · intro h
    have hexec : exec (.query dt f) s = .next (takeQuery h (f.b 2)) :=
      congrArg _ (receiveControl_commanded hcom dt fun t => takeQuery t (f.b 2))
    have hblock : BitVec.ofNat 8 (f.b 2).toNat = f.b 2 := BitVec.eq_of_toNat_eq (by simp)
    have hframe (u : State) (hu : u.sbi = h.sbi) (p : List Byte) : u.newFrame .diagnostic p =
        { claim := claimByte .diagnostic s.sbi.station, payload := p, locked := false } := by
      simp [State.newFrame, hu, h]
    rw [hexec]
    refine ⟨fun hle hne => ⟨_, rfl, ?_⟩, fun h3 => ⟨_, rfl, ?_⟩, fun h6 => ?_⟩
    · have htake : takeQuery h (f.b 2) = placeDiagnostic h (f.b 2).toNat := if_pos hle
      have hq := queueOnly_placeDiagnostic (s := h) hne
      rw [htake]
      have htxq : (placeDiagnostic h (f.b 2).toNat).txq =
          (h.txq.place (h.newFrame .diagnostic (BitVec.ofNat 8 (f.b 2).toNat :: blockContent h (f.b 2).toNat))).1 := by
        unfold placeDiagnostic
        rw [if_neg hne, placeFrame_txq]
      rw [hblock, hframe h rfl] at htxq
      refine ⟨?_, ?_, ?_, ?_, htxq⟩
      · rw [hq]; exact ⟨rfl, rfl, rfl, rfl, rfl, rfl, rfl⟩
      · rw [hq]
      · rw [hq]
      · rw [hq]; rfl
    · have htake : takeQuery h (f.b 2) = placeDiagnostic h 3 := by
        rw [takeQuery, h3]; rfl
      obtain ⟨j, hj⟩ : ∃ j, j = judgeRole h .mission := ⟨_, rfl⟩
      have hreads : Reads h j := hj ▸ reads_judgeRole h .mission
      have hplace : placeDiagnostic h 3 = placeFrame j (j.newFrame .diagnostic (3#8 :: blockContent j 3)) := by
        rw [hj]; rfl
      have hq := placeFrame_queueOnly (s := j) (diagnostic_kind j (3#8 :: blockContent j 3)) (by decide)
      have hrecord (n : Fin 8) : (placeFrame j (j.newFrame .diagnostic (3#8 :: blockContent j 3))).record n = j.record n := by
        rw [hq]; rfl
      rw [htake, hplace]
      refine ⟨?_, ?_, ?_, ?_, ?_, ?_, fun n => ?_, fun hno => ?_⟩
      · rw [hq]; exact hreads.pe
      · rw [hq]; exact hreads.tu
      · rw [hq]; exact hreads.sbi
      · rw [hq]; exact hreads.setup
      · rw [hq]; exact hreads.fsu
      · rw [hq]; exact hreads.scu
      · rw [hrecord, hj]
        exact judgeRole_record h .mission n
      · have hsame : j = h := hj.trans (judgeRole_unmarked hno)
        rw [placeFrame_txq, hsame, hframe h rfl]
        rfl
    · have htake : takeQuery h (f.b 2) = h := if_neg (by unfold lastBlock; omega)
      rw [htake]
  · have hpass : BitVec.ofNat 8 s.scu.last.pass.toNat = if s.scu.last.pass then 1#8 else 0#8 := by
      cases s.scu.last.pass <;> rfl
    rw [← hpass]
    unfold blockContent storedSequence
    cases (s.stationOf .mission).bind s.record with
    | none => rfl
    | some r =>
      obtain ⟨tag, stale, guard, part⟩ := r
      cases part <;> rfl
  · intro b
    have hb12 : ofBytes (b 1) (b 2) = classBBits s := ofBytes_hiByte_loByte (classBBits s)
    refine ⟨?_, fun i => classABits_bit s i, fun i => ?_, fun i hi => ?_, fun hnone => ?_, fun f hf => ?_, ?_⟩
    · show ([classABits s, _, _] ++ _ ++ [0#8, 0#8, 0#8, 0#8]).length = 10
      cases s.flt.first <;> rfl
    · rw [hb12]; exact classBBits_bit s i
    · rw [hb12]; exact classBBits_high s hi i.isLt
    · simp only [b, blockContent, hnone]; rfl
    · simp only [b, blockContent, hf]
      exact ⟨rfl, ofBytes_hiByte_loByte f.epoch⟩
    · simp only [b, blockContent]
      cases s.flt.first <;> exact ⟨rfl, rfl, rfl, rfl⟩

end Sys2Proof.ControlCommands
end

section
/-! Setup (R29 to R35): the words are stored in order, and the last of them completes setup. -/

-- Elaborated in order: elaborated at once, the many proofs here take more threads than the check has memory for.
set_option Elab.async false

namespace Sys2Proof.SetupCompletion
open Sys2Proof Sys2Proof.Machine Sys2Proof.Laws Sys2Proof.QueueRules Sys2Proof.Keeping Sys2Proof.IntentStorage
  Sys2Proof.FaultCommands Sys2Proof.SetupKept Sys2Proof.LineFaults Sys2Proof.Telling Sys2Proof.Reading
  Sys2Proof.OwnReports Sys2Proof.ControlCommands

/-! ## Words in order (R29) -/

theorem takeSetup_next {s : State} {i : Fin 54} (h : s.setup.ptr = i.val) (hi : i.val < 53) (v : Half) :
    takeSetup s i.val v = { s with setup := { s.setup with words := s.setup.words.set i v, ptr := i.val + 1 } } := by
  rw [takeSetup, dif_pos i.isLt]
  dsimp only
  rw [if_pos h.symm, if_neg (by omega), h]

theorem takeSetup_last {s : State} (h : s.setup.ptr = 53) (v : Half) :
    takeSetup s 53 v =
      completeSetup { s with setup := { s.setup with words := s.setup.words.set 53 v, ptr := 54 } } := by
  rw [takeSetup, dif_pos (by omega)]
  dsimp only
  rw [if_pos h.symm, if_pos rfl, h]

theorem takeSetup_again {s : State} (h : s.setup.ptr ≠ 0) (v : Half) :
    takeSetup s 0 v = { s with setup := { s.setup with words := s.setup.words.set 0 v, ptr := 1 } } := by
  rw [takeSetup, dif_pos (by omega)]
  dsimp only
  rw [if_neg (by omega), if_pos rfl]

theorem takeSetup_refused {s : State} {n : Nat} (h0 : n ≠ 0) (h : n ≠ s.setup.ptr ∨ 54 ≤ n) (v : Half) :
    takeSetup s n v = refuseSetup s := by
  unfold takeSetup
  split
  next hn => rw [if_neg (h.resolve_right (by omega)), if_neg h0]
  next => rfl

/-- A Setup frame for this node in SETUP (R29). -/
theorem exec_setupFrame {s : State} {f : RxFrame} (h : FromPeer s f .setup) (hleg : s.pe.leg = .setup)
    (hown : (f.b 0).toNat = s.sbi.station.val) (dt : Nat) :
    exec (.setupFrame dt f) s = .next (takeSetup (heard s dt) (f.b 1).toNat (ofBytes (f.b 2) (f.b 3))) := by
  rw [execSetupFrame_heard h, handSetup, if_pos (by simpa [heard] using hown), if_pos (c := (heard s dt).pe.leg = .setup) hleg]
  rfl

/-! ## Completion (R32 to R35) -/

/-- The events of the report of SETUP_CLAMPED, and what it leaves of the Fault Unit. -/
theorem reportClamped_spec (s : State) :
    Tells s (reportClamped s) (if s.setup.clampCount = 0#8 then [] else latchNote s .setupClamped) ∧
      (reportClamped s).flt.flags =
        (if s.setup.clampCount = 0#8 then s.flt.flags else s.flt.flags.set FaultCode.setupClamped.idx true) ∧
      (reportClamped s).flt.conds =
        (if s.setup.clampCount = 0#8 then s.flt.conds else s.flt.conds.set FaultCode.setupClamped.idx false) ∧
      (reportClamped s).time = s.time ∧ (reportClamped s).sbi = s.sbi ∧ (reportClamped s).pt = s.pt ∧
      (reportClamped s).fsu = s.fsu ∧ (reportClamped s).scu = s.scu ∧ (reportClamped s).tu = s.tu := by
  unfold reportClamped
  split
  · exact ⟨.still, rfl, rfl, rfl, rfl, rfl, rfl, rfl, rfl⟩
  · obtain ⟨hflags, hconds, -⟩ := reportFault_flt s (.plain .setupClamped)
    have htells := Tells.of_reportFault (s := s) (r := .plain .setupClamped)
    rw [reportNotes_plain] at htells
    refine ⟨?_, hflags, ?_, by simp, by simp, by simp, by simp, by simp, ?_⟩
    · have h := htells.trans (u := reportOccurrence s (.plain .setupClamped)) .still
      rwa [List.append_nil] at h
    · show (reportFault s (.plain .setupClamped)).flt.conds.set FaultCode.setupClamped.idx false = _
      rw [hconds]
      exact Vector.set_set ..
    · exact reportFault_tu s (.plain .setupClamped) rfl

/-- In SETUP the events do not go by the mask, so that new words move nothing of the log (R28). -/
theorem tells_of_setup {s t : State} (hleg : s.pe.leg = .setup) (h : t = { s with setup := t.setup }) : Tells s t [] := by
  have hlets : letIn t = letIn s := by
    have hleg' : t.pe.leg = .setup := by rw [h]; exact hleg
    funext b
    simp [letIn, hleg, hleg']
  have hflt : t.flt = s.flt := by rw [h]
  have htime : t.time = s.time := by rw [h]
  have hsbi : t.sbi = s.sbi := by rw [h]
  have htxq : t.txq = s.txq := by rw [h]
  exact .still (by simp only [logBasis, hlets, hflt, htime]) (by simp only [offerBasis, hsbi, hflt, htxq])

theorem fields_of_queueOnly {s t : State} (h : QueueOnly s t) :
    t.time = s.time ∧ t.sbi = s.sbi ∧ t.setup = s.setup ∧ t.pt = s.pt ∧ t.fsu = s.fsu ∧ t.pe = s.pe ∧ t.scu = s.scu ∧
      t.tu = s.tu ∧ t.flt.flags = s.flt.flags ∧ t.flt.conds = s.flt.conds ∧ t.flt.ring = s.flt.ring ∧
      t.flt.lost = s.flt.lost ∧ t.flt.first = s.flt.first := by
  unfold QueueOnly at h
  rw [h]
  exact ⟨rfl, rfl, rfl, rfl, rfl, rfl, rfl, rfl, rfl, rfl, rfl, rfl, rfl⟩

/-- Block 0 of a node in READY (R26, R35). -/
theorem blockContent_summary {s : State} (hleg : s.pe.leg = .ready) (b : SetupBlock) (hb : s.setup = b) :
    blockContent s 0 = [b.sumC2, b.sumC1, b.clampCount, (b.firstClamped.map (BitVec.ofNat 8)).getD 0xFF#8, 0#8,
      b.refused, 0#8, 0#8, 0#8, 0#8] := by
  rw [blockContent_zero, hleg, hb]
  cases b.firstClamped <;> rfl

/-- The frames of the node after setup completion: Diagnostic block 0 finds room (R35). -/
theorem summary_placed {s : State} (hroom : s.txq.frames.length ≤ 5) (hnone : ∀ g ∈ s.txq.frames, g.kind ≠ some .diagnostic) :
    let t := examineSchedule s
    t.newFrame .diagnostic (0#8 :: blockContent t 0) ∈ (placeDiagnostic t 0).txq.frames := by
  intro t
  have hlen := examineSchedule_length_le s
  have hk := diagnostic_kind t (0#8 :: blockContent t 0)
  have hother : ∀ g ∈ t.txq.frames, g.kind ≠ some .diagnostic := by
    intro g hg
    obtain hg | hg | hg := mem_examineSchedule hg
    · rw [hg]; nofun
    · rw [hg]; nofun
    · exact hnone g hg
  show _ ∈ (placeFrame t (t.newFrame .diagnostic (0#8 :: blockContent t 0))).txq.frames
  rw [placeFrame_txq]
  exact report_enters (.inr (.inr hk)) (by show (examineSchedule s).txq.frames.length < 8; omega)
    fun g hg he => absurd (he.trans hk) (hother g hg)

theorem releaseNode_setup (s : State) : (releaseNode s).setup = s.setup := rfl

theorem settledState_with (s : State) (b : SetupBlock) :
    settledState { s with setup := b } = { s with setup := (settledState { s with setup := b }).setup } := rfl

theorem settledState_ptr (s : State) : (settledState s).setup.ptr = s.setup.ptr := by
  obtain ⟨-, -, -, -, -, hptr, -⟩ := SetupWords.settledWords s.setup s.sbi.station
  exact hptr

theorem completeSetup_queueOnly (s : State) :
    QueueOnly (releaseNode (reportClamped (settledState s))) (completeSetup s) := by
  rw [completeSetup_eq]
  exact (queueOnly_examineSchedule _).trans (queueOnly_placeDiagnostic (by decide))

/-- Settles O27: `takeSetup` by the index, and completion block by block. -/
theorem setupTaken : Obligations.SetupTaken := by
  have hcompleted (dt : Nat) (s : State) (f : RxFrame) (hpeer : FromPeer s f .setup) (hleg : s.pe.leg = .setup)
      (hown : (f.b 0).toNat = s.sbi.station.val) (hindex : (f.b 1).toNat = 53) (hptr : s.setup.ptr = 53) :=
    (exec_setupFrame hpeer hleg hown dt).trans (congrArg Host.Outcome.next
      ((congrArg (fun n => takeSetup (heard s dt) n (ofBytes (f.b 2) (f.b 3))) hindex).trans
        (takeSetup_last (s := heard s dt) hptr _)))
  refine ⟨fun dt s f hpeer hleg hown => ?_, fun dt s f hpeer hleg hown hindex hptr => ?_⟩
  · intro h v
    have hexec := exec_setupFrame hpeer hleg hown dt
    refine ⟨fun i hi hindex hptr => ?_, fun hindex hptr => ?_, fun hne hbad => ?_, fun hindex hptr => ?_⟩
    · rw [hexec, hindex, takeSetup_next (s := h) hptr hi]
      rfl
    · rw [hexec, hindex, takeSetup_again (s := h) hptr]
      rfl
    · rw [hexec, takeSetup_refused (s := h) hne hbad]
      rfl
    · refine ⟨_, hcompleted dt s f hpeer hleg hown hindex hptr, ?_⟩
      obtain ⟨-, -, hsetup, -, -, hpe, -⟩ := fields_of_queueOnly (completeSetup_queueOnly
        { h with setup := { h.setup with words := h.setup.words.set 53 v, ptr := 54 } })
      refine ⟨by rw [hpe]; rfl, ?_⟩
      rw [hsetup, releaseNode_setup, reportClamped_setup, settledState_ptr]
  · intro h b
    obtain ⟨d, hd⟩ : ∃ d, d = settledState { h with
      setup := { h.setup with words := h.setup.words.set 53 (ofBytes (f.b 2) (f.b 3)), ptr := 54 } } := ⟨_, rfl⟩
    obtain ⟨c, hc⟩ : ∃ c, c = reportClamped d := ⟨_, rfl⟩
    obtain ⟨t, ht⟩ : ∃ t, t = placeDiagnostic (examineSchedule (releaseNode c)) 0 := ⟨_, rfl⟩
    have hexec : exec (.setupFrame dt f) s = .next t := by
      rw [hcompleted dt s f hpeer hleg hown hindex hptr, ht, hc, hd]
      rfl
    have hstation : h.sbi.station = s.sbi.station := by simp [h]
    have dsetup : d.setup = b := by
      rw [hd]
      exact congrArg (settleWords _) hstation
    clear_value b
    have dsame : d = { h with setup := d.setup } := by rw [hd]; exact settledState_with _ _
    obtain ⟨ctells, cflags, cconds, ctime, csbi, cpt, cfsu, cscu, ctu⟩ := reportClamped_spec d
    rw [← hc, dsetup] at ctells cflags cconds
    rw [← hc] at ctime csbi cpt cfsu cscu ctu
    have csetup : c.setup = b := by rw [hc, reportClamped_setup, dsetup]
    have htells : Tells h c (if b.clampCount = 0#8 then [] else latchNote s .setupClamped) := by
      have h1 : Tells h d [] := tells_of_setup (s := h) hleg dsame
      have hnote : latchNote d .setupClamped = latchNote s .setupClamped := by rw [dsame]; rfl
      rw [hnote] at ctells
      have h2 := h1.trans ctells
      rwa [List.nil_append] at h2
    have hqueue : QueueOnly (releaseNode c) t := by
      rw [ht]
      exact (queueOnly_examineSchedule _).trans (queueOnly_placeDiagnostic (by decide))
    obtain ⟨ttime, tsbi, tsetup, tpt, tfsu, tpe, tscu, ttu, tflags, tconds, tring, tlost, tfirst⟩ :=
      fields_of_queueOnly hqueue
    refine ⟨t, hexec, tsetup.trans csetup, ?_, ?_, ?_, ?_, tpe, ?_, ?_, ?_, ?_, ?_, fun hroom hnone => ?_⟩
    · rw [tsbi]; exact csbi.trans (by rw [dsame])
    · rw [ttime]
      show ({ c.time with epoch := 0#16, epochTimer := some epochUs } : TimeBase) = _
      rw [ctime, dsame]
      rfl
    · rw [tpt]
      show ({ c.pt with tilt := false } : PeerTable) = _
      rw [cpt, dsame]
      rfl
    · rw [tfsu]
      show ({ FootSense.reset with link := c.fsu.link, bad := c.fsu.bad, watch := some linkWatchUs } : FootSense) = _
      rw [cfsu, dsame]
      rfl
    · have hx : t.neutralX = c.neutralX := by simp only [State.neutralX, State.sword, tsetup]; rfl
      have hy : t.neutralY = c.neutralY := by simp only [State.neutralY, State.sword, tsetup]; rfl
      have hz : t.neutralZ = c.neutralZ := by simp only [State.neutralZ, State.sword, tsetup]; rfl
      have hctu : c.tu = h.tu := ctu.trans (by rw [dsame])
      rw [ttu, hx, hy, hz]
      show ({ Trajectory.reset with
        p := { x := c.neutralX * 1000, y := c.neutralY * 1000, z := c.neutralZ * 1000 }
        measured := c.tu.measured, tag := c.tu.tag, link := c.tu.link } : Trajectory) = _
      rw [hctu]
      rfl
    · rw [tscu]
      exact cscu.trans (by rw [dsame]; rfl)
    · rw [tflags]
      refine cflags.trans ?_
      rw [dsame]
      rfl
    · rw [tconds]
      refine cconds.trans ?_
      rw [dsame]
      rfl
    · show (t.flt.ring, t.flt.lost) = _ ∧ t.flt.first = _
      rw [tring, tlost, tfirst]
      exact htells.reported
    · have hlen := htells.length_le
      have hmem : ∀ g ∈ (releaseNode c).txq.frames, g.kind ≠ some .diagnostic := fun g hg hk => by
        obtain hevent | hold := htells.mem g hg
        · rw [TxFrame.isEvent, hk] at hevent; cases hevent
        · exact hnone g hold hk
      have hplaced := summary_placed (s := releaseNode c) (hlen.trans (Nat.succ_le_succ hroom)) hmem
      obtain ⟨-, esbi, esetup, -, -, epe, -⟩ := fields_of_queueOnly (queueOnly_examineSchedule (releaseNode c))
      refine ⟨_, by rw [ht]; exact hplaced, ?_, ?_⟩
      · show claimByte .diagnostic (examineSchedule (releaseNode c)).sbi.station = _
        have hstation' : (examineSchedule (releaseNode c)).sbi.station = s.sbi.station := by
          rw [esbi, ← hstation]
          exact congrArg Sbi.station (csbi.trans (by rw [dsame]))
        rw [hstation']
      · show 0#8 :: blockContent (examineSchedule (releaseNode c)) 0 = _
        rw [blockContent_summary (by rw [epe]; rfl) b (esetup.trans csetup)]

end Sys2Proof.SetupCompletion
end

section
/-! Change point and turn record at a new leg state (R80, R84), and the five deadlines (R92, R98, R102, R104, R108). -/

-- Elaborated in order: elaborated at once, the many proofs here take more threads than the check has memory for.
set_option Elab.async false

namespace Sys2Proof.Deadlines
open Sys2Proof Sys2Proof.Machine Sys2Proof.Laws Sys2Proof.QueueRules Sys2Proof.Attempts Sys2Proof.Keeping Sys2Proof.IntentStorage
  Sys2Proof.FaultCommands Sys2Proof.ClassAFaults Sys2Proof.LineFaults Sys2Proof.PeerFrames Sys2Proof.Telling
  Sys2Proof.Reading

/-! ## Reads beside a change of the Phase Engine -/

/-- Reads that follow a change of the Phase Engine are reads of the state before it. -/
theorem reads_beside_pe {s v : State} {p : PhaseEngine} (hp : (p.leg == .setup) = (s.pe.leg == .setup))
    (h : Reads { s with pe := p } v) : Reads s { v with pe := s.pe } where
  time := h.time
  sbi := h.sbi
  setup := h.setup
  fsu := h.fsu
  pe := rfl
  scu := h.scu
  tu := h.tu
  pending := h.pending
  record := h.record
  others := h.others
  alarms := h.alarms
  told := by
    obtain ⟨ns, hns, ht⟩ := h.told
    have hlets : letIn { v with pe := s.pe } = letIn v := by
      funext b
      show (s.pe.leg == .setup || _) = (v.pe.leg == .setup || _)
      rw [h.pe, ← hp]
      rfl
    have hlets' : letIn { s with pe := p } = letIn s := by
      funext b
      show (p.leg == .setup || _) = (s.pe.leg == .setup || _)
      rw [hp]
      rfl
    have h1 : Tells s { s with pe := p } [] := .still (by simp only [logBasis, hlets']) rfl
    have h2 : Tells v { v with pe := s.pe } [] := .still (by simp only [logBasis, hlets]) rfl
    have h3 := (h1.trans ht).trans h2
    rw [List.append_nil, List.nil_append] at h3
    exact ⟨ns, hns, h3⟩
  unmarked hno := by rw [h.unmarked hno]
  marking := ⟨h.marking.us, h.marking.setup, h.marking.marks, h.marking.kept⟩

/-! ## The turn record (R84) -/

theorem peerAt_congr {s t : State} (hst : t.sbi.station = s.sbi.station) (hleg : ∀ n, t.legOf n = s.legOf n) (p : LegPos) :
    t.peerAt p = s.peerAt p := by
  simp only [State.peerAt, State.peers, hst, hleg]

theorem legAt_congr {s t : State} (hst : t.sbi.station = s.sbi.station) (hleg : ∀ n, t.legOf n = s.legOf n) (p : LegPos) :
    t.legAt p = s.legAt p := by
  rw [State.legAt, State.legAt, peerAt_congr hst hleg, funext hleg]

theorem legAt_reads {s t : State} (h : Reads s t) (p : LegPos) : t.legAt p = s.legAt p :=
  legAt_congr (by rw [h.sbi]) h.legOf p

/-- The predecessor's step count, as the records give it (R84). -/
def turnRead (s : State) (g : Gait) : Option Byte := (predecessor g s.legPos).bind fun p => (s.legAt p).map LegPart.steps

theorem turnRead_congr {s t : State} (hst : t.sbi.station = s.sbi.station) (hsetup : t.setup = s.setup)
    (hleg : ∀ n, t.legOf n = s.legOf n) (g : Gait) : turnRead t g = turnRead s g := by
  simp only [turnRead, State.legPos, State.uword, hsetup, legAt_congr hst hleg]

theorem recordTurn_reads (s : State) : ∃ r, Reads s r ∧
    recordTurn s = { r with pe := { s.pe with turn := turnRead s s.pe.applied.gait } } := by
  unfold recordTurn turnRead
  cases predecessor s.pe.applied.gait s.legPos with
  | none => exact ⟨s, .refl s, rfl⟩
  | some p =>
    have h := reads_judgeAt s p
    refine ⟨judgeAt s p, h, ?_⟩
    dsimp only
    rw [legAt_reads h, judgeAt_pe]
    rfl

/-! ## The entry to STANCE (R102) -/

/-- An entry to STANCE from LOAD takes the change point and the turn record; the MISSION record is read (R80, R84, R102). -/
theorem enterStance_reads (s : State) (hleg : s.pe.leg ≠ .setup) : ∃ r, Reads s r ∧
    (∀ n, s.stationOf .mission = some n → r.record n = (aged s).record n) ∧
    ∀ notice, enterStance s notice =
      if notice then handNotice { r with pe := stancePe s } .loaded else { r with pe := stancePe s } := by
  obtain ⟨p, hp⟩ : ∃ p, p = ({ s.pe.enter .stance with loadT := none } : PhaseEngine).withWait .none := ⟨_, rfl⟩
  have hpleg : (p.leg == .setup) = (s.pe.leg == .setup) := by
    rw [hp, beq_false_of_ne hleg]; rfl
  obtain ⟨a, ha⟩ : ∃ a : State, a = { s with pe := p } := ⟨_, rfl⟩
  have hintent : effIntent (aged a) = effIntent (aged s) := effIntent_aged_congr (by rw [ha]) (by rw [ha]) (by rw [ha])
  obtain ⟨j, hj⟩ : ∃ j : State, j = { judgeRole a .mission with pe := s.pe } := ⟨_, rfl⟩
  have hread : Reads s j := hj ▸ reads_beside_pe hpleg (ha ▸ reads_judgeRole a .mission)
  obtain ⟨b, hb⟩ : ∃ b : State, b = { j with pe := changedPe a (effIntent (aged s)) } := ⟨_, rfl⟩
  have hchange : changePoint a = b := by rw [changePoint_eq, hintent, hb, hj]
  obtain ⟨v, hv, hturn⟩ := recordTurn_reads b
  have hbleg : ((changedPe a (effIntent (aged s))).leg == .setup) = (j.pe.leg == .setup) := by
    rw [hj, beq_false_of_ne hleg, ha, hp]; rfl
  obtain ⟨r, hr⟩ : ∃ r : State, r = { v with pe := j.pe } := ⟨_, rfl⟩
  have hread' : Reads j r := hr ▸ reads_beside_pe hbleg (hb ▸ hv)
  refine ⟨r, hread.trans hread', fun n hn => ?_, fun notice => ?_⟩
  · refine Reads.found_mono ?_ hread hread'
    have hrec := judgeRole_record a .mission n
    rw [stationOf_congr (s := s) (by rw [ha]), if_pos hn, aged_record_congr (s := s) (by rw [ha]) (by rw [ha]) (by rw [ha])]
      at hrec
    rw [hj]
    exact hrec
  · have hend : recordTurn (changePoint a) = { r with pe := stancePe s } := by
      have hread0 : turnRead b b.pe.applied.gait = turnRead s (effIntent (aged s)).gait := by
        have hgait : b.pe.applied.gait = (effIntent (aged s)).gait := by rw [hb]; rfl
        rw [hgait]
        refine turnRead_congr ?_ ?_ (fun n => ?_) _
        · rw [hb]; exact congrArg Sbi.station hread.sbi
        · rw [hb]; exact hread.setup
        · rw [hb]; exact hread.legOf n
      rw [hchange, hturn, hread0, hr, hb]
      show { v with pe := { changedPe a (effIntent (aged s)) with turn := turnRead s (effIntent (aged s)).gait } } =
        { v with pe := stancePe s }
      rw [ha, hp]
      rfl
    have hunfold : enterStance s notice =
        if notice then handNotice (recordTurn (changePoint a)) .loaded else recordTurn (changePoint a) := by
      rw [ha, hp]; rfl
    rw [hunfold, hend]

/-! ## The search is exhausted (R99, R133) -/

/-- The path of a re-place rise, fixed at p (R133). -/
theorem risePath_from (s : State) : RiseFrom s s.tu.p (risePath s) := by
  obtain ⟨nx, hnx⟩ : ∃ nx, nx = s.neutralX * 1000 - s.tu.p.x := ⟨_, rfl⟩
  obtain ⟨ny, hny⟩ : ∃ ny, ny = s.neutralY * 1000 - s.tu.p.y := ⟨_, rfl⟩
  obtain ⟨ld, hld⟩ : ∃ ld, ld = ceilSqrt (nx * nx + ny * ny).toNat := ⟨_, rfl⟩
  obtain ⟨hle, hleast⟩ := ceilSqrt_spec (nx * nx + ny * ny).toNat
  rw [← hld] at hle hleast
  have hpos : 0 ≤ nx * nx + ny * ny := add_nonneg (mul_self_nonneg _) (mul_self_nonneg _)
  have hcover : nx * nx + ny * ny ≤ (ld * ld : Int) := by
    have h := Int.toNat_le.1 hle
    push_cast at h
    exact h
  have hmost (m : Nat) (h : nx * nx + ny * ny ≤ (m * m : Int)) : ld ≤ m :=
    hleast m (Int.toNat_le.2 (by push_cast; exact h))
  have hnear : (ld : Int) ≤ (s.replaceStep : Int) * 1000 ↔
      nx * nx + ny * ny ≤ (s.replaceStep : Int) * 1000 * ((s.replaceStep : Int) * 1000) := by
    constructor
    · exact fun h => hcover.trans (mul_le_mul h h (by omega) (by omega))
    · intro h
      have h' := hmost (s.replaceStep * 1000) (by push_cast; exact h)
      push_cast [← Int.ofNat_le] at h'
      exact h'
  have hrise : risePath s = { sx := s.tu.p.x, sy := s.tu.p.y, sz := s.tu.p.z, j := 0
                              dx := if (ld : Int) ≤ (s.replaceStep : Int) * 1000 then nx
                                else ((s.replaceStep : Int) * 1000 * nx).tdiv ld
                              dy := if (ld : Int) ≤ (s.replaceStep : Int) * 1000 then ny
                                else ((s.replaceStep : Int) * 1000 * ny).tdiv ld } := by
    rw [hld, hnx, hny]; rfl
  unfold RiseFrom
  rw [hrise, ← hnx, ← hny]
  dsimp only
  refine ⟨rfl, rfl, rfl, rfl, fun h => ?_, fun h => ⟨ld, hcover, hmost, ?_⟩⟩
  · rw [if_pos (hnear.2 h), if_pos (hnear.2 h)]
    exact ⟨rfl, rfl⟩
  · have hfar : ¬ (ld : Int) ≤ (s.replaceStep : Int) * 1000 := fun hn => absurd (hnear.1 hn) (by omega)
    rw [if_neg hfar, if_neg hfar]
    exact ⟨rfl, rfl⟩

/-- An occurrence of class A: it is taken, and its condition has ended at the report (R150 to R152). -/
theorem occurrence_taken (s : State) {c : FaultCode} (hA : c.classA = true) :
    FaultTaken s (reportOccurrence s (.plain c)) c (latchNote s c ++ holdNote s) ∧
      (reportOccurrence s (.plain c)).flt.conds = s.flt.conds.set c.idx false := by
  refine ⟨faultTaken_conds (taken_plain s hA) s.flt.conds _, ?_⟩
  show (reportFault s (.plain c)).flt.conds.set c.idx false = _
  rw [(conds_plain s c).1]
  exact Vector.set_set ..

/-- A re-place begins (R99). -/
def replaceState (s : State) : State :=
  { s with
    pe := { s.pe with footholdT := none, attempts := s.pe.attempts + 1, replacing := true, watchArmed := false }
    tu := { s.tu with rise := risePath s } }

theorem exhaustSearch_again {s : State} (h : s.pe.attempts < s.replaceMax) :
    exhaustSearch s = recordEvent (replaceState s) .rePlace (BitVec.ofNat 8 (s.pe.attempts + 1)) := if_pos h

theorem exhaustSearch_last {s : State} (h : s.replaceMax ≤ s.pe.attempts) : exhaustSearch s =
    reportOccurrence { s with pe := { s.pe with footholdT := none } } (.plain .noFoothold) := if_neg (by omega)

/-- Settles O57: the foothold timer by the leg state. -/
theorem footholdTimerExpires : Obligations.FootholdTimerExpires := by
  intro dt s k htimer hk e u
  have hexec : exec (.footholdTimerExpiry dt) s = .next (expireFoothold e) :=
    congrArg Host.Outcome.next (if_pos (due_after htimer hk))
  have hsearch (hleg : s.pe.leg = .search) (hdescent : s.pe.replacing = false) : expireFoothold e = exhaustSearch u := by
    unfold expireFoothold
    rw [show e.pe.leg = .search from hleg]
    exact if_neg (Bool.eq_false_iff.1 hdescent)
  refine ⟨fun hleg => ?_, fun hleg hrise => ?_, fun hleg hdescent hleft => ?_, fun hleg hdescent hnone => ?_⟩
  · rw [hexec, expireFoothold, show e.pe.leg = .swing from hleg]
  · rw [hexec, expireFoothold, show e.pe.leg = .search from hleg]
    exact congrArg Host.Outcome.next (if_pos hrise)
  · have hstart : exhaustSearch u = recordEvent (replaceState u) .rePlace (BitVec.ofNat 8 (s.pe.attempts + 1)) :=
      exhaustSearch_again (s := u) hleft
    refine ⟨_, risePath u, hexec.trans (congrArg _ ((hsearch hleg hdescent).trans hstart)), ?_, ?_, ?_, risePath_from u, ?_, ?_⟩
    · simp [SameElsewhere, replaceState, u]
    · rw [(recordEvent_keeps _ _ _).1]; rfl
    · simp [replaceState, u]
    · simp [replaceState, u, e]
    · exact recordEvent_logs (replaceState u) .rePlace _
  · obtain ⟨htaken, hconds⟩ := occurrence_taken u (c := .noFoothold) rfl
    exact ⟨_, hexec.trans (congrArg _ ((hsearch hleg hdescent).trans (exhaustSearch_last (s := u) hnone))), htaken, hconds⟩

/-! ## The other deadlines -/

/-- The load timer's expiry (R102): the reads of the entry, and WEAK_FOOTHOLD told after them. -/
theorem expireLoad_spec (s : State) (hleg : s.pe.leg = .load) :
    (expireLoad s).pe = { stancePe s with loadPending := true } ∧
      (expireLoad s).flt.flags[FaultCode.weakFoothold.idx] = true ∧
      (expireLoad s).flt.conds[FaultCode.weakFoothold.idx] = true ∧
      ReportedAmongReads s (expireLoad s) [] (latchNote s .weakFoothold) ∧ Offers s (expireLoad s) ∧
      (∀ n, (expireLoad s).record n = s.record n ∨ (expireLoad s).record n = (aged s).record n) ∧
      (∀ n, s.stationOf .mission = some n → (expireLoad s).record n = (aged s).record n) ∧
      (expireLoad s).time = s.time ∧ (expireLoad s).setup = s.setup ∧
      (expireLoad s).fsu = s.fsu ∧ (expireLoad s).scu = s.scu ∧ (expireLoad s).tu = s.tu := by
  obtain ⟨r, hread, hmission, henter⟩ := enterStance_reads s (by rw [hleg]; nofun)
  obtain ⟨q, hq⟩ : ∃ q : State, q = { r with pe := stancePe s } := ⟨_, rfl⟩
  obtain ⟨w, hw⟩ : ∃ w, w = reportFault q (.plain .weakFoothold) := ⟨_, rfl⟩
  have hend : expireLoad s = { w with pe := { w.pe with loadPending := true } } := by
    unfold expireLoad
    rw [henter false, if_neg Bool.false_ne_true, hw, hq]
  have hpe : w.pe = stancePe s := by rw [hw, reportFault_pe q _ rfl, hq]
  have hpt : w.pt = r.pt := by rw [hw, reportFault_pt, hq]
  obtain ⟨hflags, hconds, -⟩ := reportFault_flt q (.plain .weakFoothold)
  rw [← hw] at hflags hconds
  obtain ⟨ns, hns, htold⟩ := hread.told
  have hnote : latchNote q .weakFoothold = latchNote s .weakFoothold := by
    obtain ⟨hflag, -⟩ := hread.others .weakFoothold (by decide)
    simp only [latchNote, hq, hflag]
  have htells : Tells s (expireLoad s) (ns ++ latchNote s .weakFoothold) := by
    have hlets (p : PhaseEngine) (hp : p.leg = .stance) : letIn { r with pe := p } = letIn r :=
      letIn_congr (by rw [hread.pe, hleg]; nofun) (by rw [hp]; nofun) rfl
    have h1 : Tells r q [] := .still (by rw [hq]; simp only [logBasis, hlets _ (show (stancePe s).leg = .stance from rfl)])
      (by rw [hq]; rfl)
    have h2 : Tells q w (latchNote s .weakFoothold) := by
      have h := Tells.of_reportFault (s := q) (r := .plain .weakFoothold)
      rwa [reportNotes_plain, hnote, ← hw] at h
    have h3 : Tells w (expireLoad s) [] := by rw [hend]; exact .still
    have h4 := ((htold.trans h1).trans h2).trans h3
    rwa [List.append_nil, List.append_nil] at h4
  rw [hend] at htells ⊢
  refine ⟨?_, ?_, ?_, ⟨ns, hns, htells.reported⟩, htells.toOffers, fun n => ?_, fun n hn => ?_, ?_, ?_, ?_, ?_, ?_⟩
  · rw [hpe]
  · rw [hflags, set_true_idx]; simp [Report.fault]
  · rw [hconds, set_true_idx]; simp [Report.fault]
  · rw [State.record, hpt]; exact hread.record n
  · rw [State.record, hpt]; exact hmission n hn
  all_goals
    rw [hw, hq]
    simp [reportFault_tu, Report.fault, FaultCode.classA, FaultCode.idx, hread.time, hread.setup, hread.fsu, hread.scu,
      hread.tu]

/-- Settles O56: each deadline at its expiry. -/
theorem deadlinesExpire : Obligations.DeadlinesExpire := by
  refine ⟨fun dt s k hk => ?_, fun dt s k hk => ?_⟩
  · intro e
    refine ⟨fun htimer hleg hlock => ?_, fun htimer hleg hlock => ?_, fun htimer hleg => ?_⟩
    · have hexec : exec (.claimTimerExpiry dt) s = .next (expireClaim e) :=
        congrArg Host.Outcome.next (if_pos ⟨due_after htimer hk, hleg⟩)
      exact hexec.trans (congrArg _ (if_pos hlock))
    · have hexec : exec (.claimTimerExpiry dt) s = .next (expireClaim e) :=
        congrArg Host.Outcome.next (if_pos ⟨due_after htimer hk, hleg⟩)
      exact hexec.trans (congrArg _ (if_neg (Bool.eq_false_iff.1 hlock)))
    · obtain ⟨w, hw⟩ : ∃ w, w = recordEvent e .unloadStuck 0#8 := ⟨_, rfl⟩
      have hexec : exec (.unloadTimerExpiry dt) s = .next (cancelUnload w) := by
        rw [hw]
        exact congrArg Host.Outcome.next (if_pos ⟨due_after htimer hk, hleg⟩)
      have htells : Tells e w [noteOf .unloadStuck 0#8] := hw ▸ Tells.of_recordEvent 0#8
      obtain ⟨hpe, htu, htxq, hflt, -⟩ := cancelUnload_spec w
      have wpe : w.pe = e.pe := by simp [hw]
      have wstation : w.sbi.station = s.sbi.station := by simp [hw, e]
      refine ⟨_, hexec, ?_, ?_, ?_, ?_, ?_, ?_, fun hroom => ?_⟩
      · simp [SameElsewhere, hw]
      · rw [hpe, cancelledPe_congr wpe]
      · rw [htu]; simp [hw]
      · rw [hflt]; simp [hw, e]
      · rw [hflt]; simp [hw, e]
      · show ((cancelUnload w).flt.ring, (cancelUnload w).flt.lost) = _ ∧ (cancelUnload w).flt.first = _
        rw [hflt]
        exact htells.reported
      · have hlen : w.txq.frames.length ≤ 7 := htells.length_le.trans (Nat.succ_le_succ hroom)
        have hnotice : noticeWith w .stance w.pe.applied.gait w.fsu.slipping 2 w.pe.steps 0xFF#8 =
            noticeWith s .stance s.pe.applied.gait s.fsu.slipping 2 s.pe.steps 0xFF#8 := by
          rw [noticeWith_congr wstation (by simp [hw, e]), wpe]
          simp [hw, e]
        rw [htxq, hnotice, place_free (.inr (by
          rw [kind_of_claim (f := noticeWith s _ _ _ _ _ _) rfl]
          rintro ((h | h | h) | h) <;> cases h))]
        exact mem_takeIn (.inl (by omega))
  · intro e
    refine ⟨fun htimer hleg => ?_, fun htimer => ?_⟩
    · obtain ⟨hpe, hflag, hcond, htold, hoffers, hrecord, hmission, htime, hsetup, hfsu, hscu, htu⟩ := expireLoad_spec e hleg
      exact ⟨_, congrArg Host.Outcome.next (if_pos ⟨due_after htimer hk, hleg⟩), hpe, hflag, hcond, htold, hoffers.mem, hrecord,
        hmission, htime, hoffers.sbi, hsetup, hfsu, hscu, htu⟩
    · have hexec : exec (.slipTimerExpiry dt) s = .next (expireSlip e) :=
        congrArg Host.Outcome.next (if_pos (due_after htimer hk))
      exact ⟨_, hexec, taken_plain { e with pe := { e.pe with slipT := none, slipReported := true } } (c := .slipPersist) rfl,
        (conds_plain { e with pe := { e.pe with slipT := none, slipReported := true } } .slipPersist).1⟩

end Sys2Proof.Deadlines
end

section
/-! The lift conditions and the support check (R85 to R87, R112): each test finds the records that it reads as their age
makes them. -/

-- Elaborated in order: elaborated at once, the many proofs here take more threads than the check has memory for.
set_option Elab.async false

namespace Sys2Proof.LiftTests
open Sys2Proof Sys2Proof.Machine Sys2Proof.Laws Sys2Proof.Keeping Sys2Proof.IntentStorage Sys2Proof.FaultCommands
  Sys2Proof.ClassAFaults Sys2Proof.PeerFrames Sys2Proof.Telling Sys2Proof.Reading Sys2Proof.Deadlines

/-! ## Stations and leg positions (R56) -/

theorem legOf_aged (s : State) (n : Fin 8) : (aged s).legOf n = s.legOf n := by
  simp only [State.legOf, record_aged]
  cases s.record n <;> rfl

theorem distinct_reads {s t : State} (h : PositionsDistinct s) (hr : Reads s t) : PositionsDistinct t := by
  obtain ⟨hown, hsetup, hpos, hdist⟩ := h
  have hnone (n : Fin 8) (hn : s.record n = none) : t.record n = none := by
    obtain h | h := hr.record n
    · rw [h, hn]
    · rw [h, record_aged, hn]; rfl
  refine ⟨?_, ?_, ?_, ?_⟩
  · rw [hr.sbi]; exact hnone _ hown
  · rw [hr.pe]; exact fun hl n => hnone n (hsetup hl n)
  · simp only [hr.legOf, State.legPos, State.uword, hr.setup]; exact hpos
  · simp only [hr.legOf]; exact hdist

theorem distinct_aged {s : State} (h : PositionsDistinct s) : PositionsDistinct (aged s) := by
  obtain ⟨hown, hsetup, hpos, hdist⟩ := h
  refine ⟨?_, fun hl n => ?_, fun n l hl => hpos n l (by rwa [legOf_aged] at hl), fun n m l k hne hl hk => ?_⟩
  · show (aged s).record s.sbi.station = none
    rw [record_aged, hown]; rfl
  · rw [record_aged, hsetup hl n]; rfl
  · rw [legOf_aged] at hl hk
    exact hdist n m l k hne hl hk

/-- With distinct positions the peer at a position is the one whose LEG record holds it. -/
theorem peerAt_iff {s : State} (h : PositionsDistinct s) (p : LegPos) (n : Fin 8) :
    s.peerAt p = some n ↔ ∃ l, s.legOf n = some l ∧ l.pos = p := by
  obtain ⟨hown, -, -, hdist⟩ := h
  have hholds (m : Fin 8) : (match s.legOf m with | some l => l.pos == p | none => false) = true ↔
      ∃ l, s.legOf m = some l ∧ l.pos = p := by
    cases s.legOf m <;> simp
  constructor
  · intro hfind
    have hsome := List.find?_some hfind
    exact (hholds n).1 hsome
  · rintro ⟨l, hl, hp⟩
    have hpeer : n ∈ s.peers := by
      rw [mem_peers]
      rintro rfl
      rw [State.legOf, hown] at hl
      cases hl
    cases hfind : s.peerAt p with
    | none => exact absurd ((hholds n).2 ⟨l, hl, hp⟩) (List.find?_eq_none.1 hfind n hpeer)
    | some m =>
      have hsome := List.find?_some hfind
      obtain ⟨k, hk, hkp⟩ := (hholds m).1 hsome
      by_contra hne
      exact hdist m n k l (fun e => hne (congrArg some e)) hk hl (hkp.trans hp.symm)

theorem legAt_iff {s : State} (h : PositionsDistinct s) (p : LegPos) (l : LegPart) :
    s.legAt p = some l ↔ ∃ n, s.legOf n = some l ∧ l.pos = p := by
  rw [State.legAt, Option.bind_eq_some_iff]
  constructor
  · rintro ⟨n, hn, hl⟩
    obtain ⟨k, hk, hp⟩ := (peerAt_iff h p n).1 hn
    rw [hk] at hl
    obtain rfl := Option.some.inj hl
    exact ⟨n, hk, hp⟩
  · rintro ⟨n, hl, hp⟩
    exact ⟨n, (peerAt_iff h p n).2 ⟨l, hl, hp⟩, hl⟩

theorem freshLegAt_iff {s : State} (h : PositionsDistinct s) (p : LegPos) (l : LegPart) :
    s.freshLegAt p = some l ↔ ∃ n, s.legOf n = some l ∧ l.pos = p ∧ Machine.fresh s n = true := by
  rw [State.freshLegAt, Option.bind_eq_some_iff]
  constructor
  · rintro ⟨n, hn, hl⟩
    obtain ⟨k, hk, hp⟩ := (peerAt_iff h p n).1 hn
    unfold freshLeg at hl
    split at hl
    next hf =>
      rw [hk] at hl
      obtain rfl := Option.some.inj hl
      exact ⟨n, hk, hp, hf⟩
    · cases hl
  · rintro ⟨n, hl, hp, hf⟩
    exact ⟨n, (peerAt_iff h p n).2 ⟨l, hl, hp⟩, by rw [freshLeg, if_pos hf, hl]⟩

theorem fresh_congr {s t : State} {n : Fin 8} (h : t.record n = s.record n) : Machine.fresh t n = Machine.fresh s n := by
  rw [Machine.fresh, Machine.fresh, h]

/-! ## What the reads find -/

/-- With the own record empty, no LEG record is the node's own (R41). -/
theorem ne_station_of_leg {s : State} (h : PositionsDistinct s) {n : Fin 8} (hl : (s.legOf n).isSome = true) :
    n ≠ s.sbi.station := by
  rintro rfl
  rw [State.legOf, h.1] at hl
  cases hl

/-- The records of all peers with a LEG part are found by their age (R56). -/
theorem judgeLegs_found {s : State} {n : Fin 8} (hn : n ≠ s.sbi.station) (hl : (s.legOf n).isSome = true) :
    (judgeLegs s).record n = (aged s).record n := by
  have hpeer : n ∈ s.peers := mem_peers.2 hn
  have hkeep (t : State) (m : Fin 8) : Reads t (if (t.legOf m).isSome then judge t m else t) := by
    split
    exacts [reads_judge t m, .refl t]
  have hmain : ∀ (l : List (Fin 8)) (t : State), Reads s t → n ∈ l →
      (l.foldl (fun t m => if (t.legOf m).isSome then judge t m else t) t).record n = (aged s).record n := by
    intro l
    induction l with
    | nil => exact fun _ _ hn => absurd hn List.not_mem_nil
    | cons m l ih =>
      intro t ht hn
      rw [List.foldl_cons]
      by_cases hm : n = m
      · subst hm
        refine Reads.found_mono ?_ (ht.trans (hkeep t n)) (.foldl hkeep l _)
        rw [if_pos (by rw [ht.legOf]; exact hl), judge_record, if_pos rfl, ht.aged_record]
      · exact ih _ (ht.trans (hkeep t m)) ((List.mem_cons.1 hn).resolve_left hm)
  exact hmain s.peers s (.refl s) hpeer

/-- The records of the exclusive positions are found by their age (R56). -/
theorem judgeExclusive_found {s : State} {p : LegPos} {n : Fin 8} (hp : p ∈ s.exclusivePositions)
    (hn : s.peerAt p = some n) : (judgeExclusive s).record n = (aged s).record n := by
  have hmain : ∀ (l : List LegPos) (t : State), Reads s t → p ∈ l → (l.foldl judgeAt t).record n = (aged s).record n := by
    intro l
    induction l with
    | nil => exact fun _ _ hp => absurd hp List.not_mem_nil
    | cons q l ih =>
      intro t ht hp
      rw [List.foldl_cons]
      by_cases hq : p = q
      · subst hq
        refine Reads.found_mono ?_ (ht.trans (reads_judgeAt t p)) (.foldl reads_judgeAt l _)
        have hpeer : t.peerAt p = some n := by rw [peerAt_congr (by rw [ht.sbi]) ht.legOf, hn]
        rw [judgeAt, hpeer]
        show (judge t n).record n = _
        rw [judge_record, if_pos rfl, ht.aged_record]
      · exact ih _ (ht.trans (reads_judgeAt t q)) ((List.mem_cons.1 hp).resolve_left hq)
  exact hmain s.exclusivePositions s (.refl s) hp

/-! ## The nine tests, one after another (R86) -/

/-- The tests of R86 with the wait reasons that they name. -/
def liftTests : List ((State → State × Bool) × WaitReason) :=
  [(fun s => let t := judgeRole s .mission; (t, (effIntent t).gait != .stand), .intent),
   (fun s => (s, s.pe.phi == s.beta), .phase),
   (condTurn, .turn),
   (fun s => (s, s.fsu.contact == .loaded && !s.fsu.slipping), .ownContact),
   (fun s => (s, !classALatched s), .fault),
   (condFresh, .peerStale),
   (condNeighbour, .neighbour),
   (condSlip, .slipNearby),
   (condBody, .bodyStale)]

/-- Tests in their order, to the first that fails. -/
def runTests : List ((State → State × Bool) × WaitReason) → State → State × Option WaitReason
  | [], s => (s, none)
  | (c, w) :: rest, s => andThen (c s) w (runTests rest)

theorem liftConditions_eq (s : State) : liftConditions s = runTests liftTests s := rfl

/-- The stations whose record a condition reads, whatever it finds. -/
def Looks (s : State) : WaitReason → Fin 8 → Prop
  | .intent, n => s.stationOf .mission = some n
  | .peerStale, n => ∃ l, s.legOf n = some l ∧ exclusiveUnder s.pe.applied.gait (relation s.legPos l.pos) = true
  | .slipNearby, n => (s.legOf n).isSome = true
  | .bodyStale, n => s.stationOf .body = some n
  | _, _ => False

/-- A test of the condition `P`, on records judged at the instant of `s`. -/
structure Tests (s : State) (c : State → State × Bool) (w : WaitReason) (P : Prop) : Prop where
  holds : ∀ t, Reads s t → ((c t).2 = true ↔ P)
  looks : ∀ t n, Reads s t → Looks s w n → (c t).1.record n = (aged s).record n

theorem reads_runTests : ∀ (l : List ((State → State × Bool) × WaitReason)), (∀ x ∈ l, ∀ t, Reads t (x.1 t).1) →
    ∀ t, Reads t (runTests l t).1
  | [], _, t => .refl t
  | (c, w) :: l, h, t => by
    have hc : Reads t (c t).1 := h _ (.head _) t
    show Reads t (if (c t).2 then runTests l (c t).1 else ((c t).1, some w)).1
    split
    exacts [hc.trans (reads_runTests l (fun x hx => h x (.tail _ hx)) _), hc]

/-- Tests to the first that fails: its reason, or none; and where none fails all records are found by their age. -/
theorem runTests_spec {s : State} {P : WaitReason → Prop} :
    ∀ (l : List ((State → State × Bool) × WaitReason)), (∀ x ∈ l, ∀ t, Reads t (x.1 t).1) →
      (∀ x ∈ l, Tests s x.1 x.2 (P x.2)) → ∀ t, Reads s t →
      ((runTests l t).2 = none → ∀ x ∈ l, P x.2 ∧ ∀ n, Looks s x.2 n → (runTests l t).1.record n = (aged s).record n) ∧
      (∀ (a : List WaitReason) (w : WaitReason) (b : List WaitReason), l.map Prod.snd = a ++ w :: b → (∀ v ∈ a, P v) → ¬ P w →
        (runTests l t).2 = some w) ∧
      ((∀ x ∈ l, P x.2) → (runTests l t).2 = none) := by
  intro l
  induction l with
  | nil => exact fun _ _ t _ => ⟨fun _ x hx => absurd hx List.not_mem_nil,
      fun a w b h => absurd h (by simp), fun _ => rfl⟩
  | cons x l ih =>
    intro hr hl t ht
    obtain ⟨c, w⟩ := x
    have hx : Tests s c w (P w) := hl _ (.head _)
    have hread : Reads s (c t).1 := ht.trans (hr _ (.head _) t)
    have hrest : ∀ y ∈ l, ∀ t, Reads t (y.1 t).1 := fun y hy => hr y (.tail _ hy)
    obtain ⟨ihfound, ihfirst, ihnone⟩ := ih hrest (fun y hy => hl y (.tail _ hy)) (c t).1 hread
    have hholds := hx.holds t ht
    by_cases hP : P w
    · have hrun : runTests ((c, w) :: l) t = runTests l (c t).1 := if_pos (hholds.2 hP)
      rw [hrun]
      refine ⟨fun hnone y hy => ?_, fun a v b hab ha hv => ?_, fun hall => ihnone fun y hy => hall y (.tail _ hy)⟩
      · obtain rfl | hy := List.mem_cons.1 hy
        · refine ⟨hP, fun n hn => ?_⟩
          exact Reads.found_mono (hx.looks t n ht hn) hread (reads_runTests l hrest _)
        · exact ihfound hnone y hy
      · cases a with
        | nil =>
          obtain ⟨rfl, -⟩ := List.cons.inj (hab : w :: l.map Prod.snd = v :: b)
          exact absurd hP hv
        | cons a0 a =>
          obtain ⟨-, hab⟩ := List.cons.inj (hab : w :: l.map Prod.snd = a0 :: (a ++ v :: b))
          exact ihfirst a v b hab (fun y hy => ha y (.tail _ hy)) hv
    · have hrun : runTests ((c, w) :: l) t = ((c t).1, some w) := if_neg fun h => hP (hholds.1 h)
      rw [hrun]
      refine ⟨nofun, fun a v b hab ha hv => ?_, fun hall => absurd (hall _ (.head _)) hP⟩
      cases a with
      | nil =>
        obtain ⟨rfl, -⟩ := List.cons.inj (hab : w :: l.map Prod.snd = v :: b)
        rfl
      | cons a0 a =>
        obtain ⟨rfl, -⟩ := List.cons.inj (hab : w :: l.map Prod.snd = a0 :: (a ++ v :: b))
        exact absurd (ha _ (.head _)) hP

/-! ## Each of the nine -/

/-- The codes 0x01 to 0x08 (R26). -/
def classACodes : Vector FaultCode 8 :=
  #v[.driveFault, .driveLost, .noFoothold, .slipPersist, .tilt, .clash, .busStuck, .overlap]

/-- Reads latch no class-A flag (R54). -/
theorem classAFlags_reads {s t : State} (h : Reads s t) (i : Fin 8) : t.flt.flags[i.val] = s.flt.flags[i.val] := by
  have hcode : ∀ j : Fin 8, classACodes[j].idx.val = j.val ∧ classACodes[j] ∉ silences := by decide
  obtain ⟨hidx, hnot⟩ := hcode i
  have hflag := (h.others classACodes[i] hnot).1
  have hget (v : Vector Bool 17) : v[classACodes[i].idx] = v[i.val] := getElem_congr_idx (c := v) hidx
  rwa [hget, hget] at hflag

theorem classALatched_eq_false {s : State} : classALatched s = false ↔ ∀ i : Fin 8, s.flt.flags[i.val] = false := by
  rw [classALatched, List.any_eq_false]
  constructor
  · intro h i
    simpa using h ⟨i.val, by omega⟩ (List.mem_finRange _)
  · intro h j _
    by_cases hj : j.val < 8
    · simpa [hj] using h ⟨j.val, hj⟩
    · simp [hj]

theorem beta_toNat (g : Gait) : (BitVec.ofNat 16 g.beta).toNat = match g with | .diagonal => 32768 | _ => 49152 := by
  cases g <;> rfl

section
variable {s : State}

theorem legPos_reads {t : State} (h : Reads s t) : t.legPos = s.legPos := by
  simp only [State.legPos, State.uword, h.setup]

theorem exclusivePositions_reads {t : State} (h : Reads s t) : t.exclusivePositions = s.exclusivePositions := by
  simp only [State.exclusivePositions, h.pe, legPos_reads h]

theorem mem_exclusivePositions {p : LegPos} :
    p ∈ s.exclusivePositions ↔ exclusiveUnder s.pe.applied.gait (relation s.legPos p) = true := by
  rw [State.exclusivePositions, List.mem_filter, and_iff_right (by cases p <;> simp [legPositions])]

theorem tests_intent (s : State) :
    Tests s (fun s => let t := judgeRole s .mission; (t, (effIntent t).gait != .stand)) .intent
      (LiftHolds (aged s) .intent) where
  holds t ht := by
    have hintent : effIntent (judgeRole t .mission) = effIntent (aged s) := by
      rw [effIntent_judgeRole]
      exact effIntent_congr (by simpa using ht.setup) fun n _ => ht.aged_record n
    show ((effIntent (judgeRole t .mission)).gait != .stand) = true ↔ _
    rw [hintent, bne_iff_ne]
    rfl
  looks t n ht hn := by
    show (judgeRole t .mission).record n = _
    rw [judgeRole_record, stationOf_congr ht.setup, if_pos (c := s.stationOf .mission = some n) hn, ht.aged_record]

theorem tests_phase (s : State) : Tests s (fun s => (s, s.pe.phi == s.beta)) .phase (LiftHolds (aged s) .phase) where
  holds t ht := by
    show (t.pe.phi == t.beta) = true ↔ s.pe.phi.toNat = _
    rw [beq_iff_eq, State.beta, ht.pe, ← BitVec.toNat_inj, beta_toNat]
    rfl
  looks _ _ _ hn := hn.elim

theorem reads_condTurn (s : State) : Reads s (condTurn s).1 := by
  unfold condTurn
  split
  · exact .refl s
  · split
    exacts [reads_judgeAt s _, .refl s]

/-- The turn has passed (R85). -/
theorem condTurn_iff {s : State} (h : PositionsDistinct s) : (condTurn s).2 = true ↔ LiftHolds s .turn := by
  unfold condTurn
  split
  next hlead => exact iff_of_true rfl (.inl (by simpa [leadTurn] using hlead))
  next hlead =>
    have hnot : ¬ (s.pe.lead = true ∧ isLead s.pe.applied.gait s.legPos = true) := by simpa [leadTurn] using hlead
    split
    next c p hc hp =>
      dsimp only
      rw [legAt_reads (reads_judgeAt s p)]
      constructor
      · intro hsteps
        cases hl : s.legAt p with
        | none => rw [hl] at hsteps; cases hsteps
        | some l =>
          obtain ⟨n, hn, hpos⟩ := (legAt_iff h p l).1 hl
          exact .inr ⟨c, hc, n, l, hn, by rw [hpos, hp], by simpa [hl] using hsteps⟩
      · rintro (hl | ⟨c', hc', n, l, hn, hpos, hsteps⟩)
        · exact absurd hl hnot
        · obtain rfl : c = c' := Option.some.inj (hc.symm.trans hc')
          have hl : s.legAt p = some l := (legAt_iff h p l).2 ⟨n, hn, (Option.some.inj (hp.symm.trans hpos)).symm⟩
          rw [hl]
          simpa using hsteps
    next hnone =>
      refine iff_of_false nofun ?_
      rintro (hl | ⟨c, hc, n, l, -, hpos, -⟩)
      · exact hnot hl
      · exact hnone c l.pos hc hpos

theorem tests_turn (h : PositionsDistinct s) : Tests s condTurn .turn (LiftHolds (aged s) .turn) where
  holds t ht := by
    rw [condTurn_iff (distinct_reads h ht)]
    simp only [LiftHolds, ht.pe, legPos_reads ht, ht.legOf, legOf_aged]
    rfl
  looks _ _ _ hn := hn.elim

theorem tests_ownContact (s : State) :
    Tests s (fun s => (s, s.fsu.contact == .loaded && !s.fsu.slipping)) .ownContact (LiftHolds (aged s) .ownContact) where
  holds t ht := by
    show (t.fsu.contact == .loaded && !t.fsu.slipping) = true ↔ s.fsu.contact = .loaded ∧ s.fsu.slipping = false
    simp [ht.fsu]
  looks _ _ _ hn := hn.elim

theorem tests_fault (s : State) : Tests s (fun s => (s, !classALatched s)) .fault (LiftHolds (aged s) .fault) where
  holds t ht := by
    show (!classALatched t) = true ↔ ∀ i : Fin 8, s.flt.flags[i.val] = false
    simp [classALatched_eq_false, classAFlags_reads ht]
  looks _ _ _ hn := hn.elim

theorem judgeExclusive_found_reads (h : PositionsDistinct s) {t : State} (ht : Reads s t) {n : Fin 8} {l : LegPart}
    (hl : s.legOf n = some l) (hex : exclusiveUnder s.pe.applied.gait (relation s.legPos l.pos) = true) :
    (judgeExclusive t).record n = (aged s).record n := by
  have hp : l.pos ∈ t.exclusivePositions := by rwa [exclusivePositions_reads ht, mem_exclusivePositions]
  have hn : t.peerAt l.pos = some n := (peerAt_iff (distinct_reads h ht) _ n).2 ⟨l, by rw [ht.legOf, hl], rfl⟩
  rw [judgeExclusive_found hp hn, ht.aged_record]

theorem tests_peerStale (h : PositionsDistinct s) : Tests s condFresh .peerStale (LiftHolds (aged s) .peerStale) where
  holds t ht := by
    have hread := ht.trans (reads_judgeExclusive t)
    have hdist := distinct_reads h hread
    show ((judgeExclusive t).exclusivePositions.all fun p => ((judgeExclusive t).freshLegAt p).isSome) = true ↔
      ∀ p, exclusiveUnder s.pe.applied.gait (relation s.legPos p) = true →
        ∃ n l, (aged s).legOf n = some l ∧ l.pos = p ∧ Machine.fresh (aged s) n = true
    rw [List.all_eq_true, exclusivePositions_reads hread]
    refine forall_congr' fun p => ?_
    rw [mem_exclusivePositions]
    refine imp_congr_right fun hp => ?_
    rw [Option.isSome_iff_exists, exists_comm]
    refine exists_congr fun l => ?_
    rw [freshLegAt_iff hdist]
    refine exists_congr fun n => ?_
    rw [hread.legOf, legOf_aged]
    refine and_congr_right fun hl => and_congr_right fun hpos => ?_
    rw [fresh_congr (s := aged s) (t := judgeExclusive t) (judgeExclusive_found_reads h ht hl (hpos ▸ hp))]
  looks t n ht hn := by
    obtain ⟨l, hl, hex⟩ := hn
    exact judgeExclusive_found_reads h ht hl hex

theorem moving_eq_false {l : LegState} : l.moving = false ↔
    l ≠ .claim ∧ l ≠ .unload ∧ l ≠ .swing ∧ l ≠ .search ∧ l ≠ .load := by cases l <;> decide

theorem tests_neighbour (h : PositionsDistinct s) : Tests s condNeighbour .neighbour (LiftHolds (aged s) .neighbour) where
  holds t ht := by
    have hread := ht.trans (reads_judgeExclusive t)
    have hdist := distinct_reads h hread
    show ((judgeExclusive t).exclusivePositions.all fun p => match (judgeExclusive t).legAt p with
        | some l => !l.state.moving | none => true) = true ↔
      ∀ n l, (aged s).legOf n = some l → exclusiveUnder s.pe.applied.gait (relation s.legPos l.pos) = true → _
    rw [List.all_eq_true, exclusivePositions_reads hread]
    simp only [mem_exclusivePositions, ← moving_eq_false, legOf_aged]
    constructor
    · intro hall n l hl hex
      have hat : (judgeExclusive t).legAt l.pos = some l := (legAt_iff hdist _ l).2 ⟨n, by rw [hread.legOf, hl], rfl⟩
      have hmove := hall l.pos hex
      rw [hat] at hmove
      simpa using hmove
    · intro hall p hex
      cases hat : (judgeExclusive t).legAt p with
      | none => rfl
      | some l =>
        obtain ⟨n, hl, rfl⟩ := (legAt_iff hdist p l).1 hat
        rw [hread.legOf] at hl
        simpa using hall n l hl hex
  looks _ _ _ hn := hn.elim

theorem judgeLegs_found_reads (h : PositionsDistinct s) {t : State} (ht : Reads s t) {n : Fin 8}
    (hl : (s.legOf n).isSome = true) : (judgeLegs t).record n = (aged s).record n := by
  rw [judgeLegs_found (by rw [ht.sbi]; exact ne_station_of_leg h hl) (by rwa [ht.legOf]), ht.aged_record]

theorem tests_slipNearby (h : PositionsDistinct s) : Tests s condSlip .slipNearby (LiftHolds (aged s) .slipNearby) where
  holds t ht := by
    have hread := ht.trans (reads_judgeLegs t)
    have hfound {n : Fin 8} {l : LegPart} (hl : s.legOf n = some l) :
        Machine.fresh (judgeLegs t) n = Machine.fresh (aged s) n :=
      fresh_congr (judgeLegs_found_reads h ht (by rw [hl]; rfl))
    show ((judgeLegs t).peers.all fun n => match freshLeg (judgeLegs t) n with
        | some l => !l.slip | none => true) = true ↔
      ∀ n l, (aged s).legOf n = some l → Machine.fresh (aged s) n = true → l.slip = false
    rw [List.all_eq_true]
    simp only [mem_peers, legOf_aged, freshLeg, hread.legOf]
    constructor
    · intro hall n l hl hf
      have hpeer : n ≠ (judgeLegs t).sbi.station := by
        rw [hread.sbi]
        rintro rfl
        rw [State.legOf, h.1] at hl
        cases hl
      have hslip := hall n hpeer
      rw [if_pos (by rw [hfound hl, hf]), hl] at hslip
      simpa using hslip
    · intro hall n _
      cases hl : s.legOf n with
      | none => simp
      | some l =>
        cases hf : Machine.fresh (judgeLegs t) n with
        | false => rfl
        | true => simpa using hall n l hl (by rw [← hfound hl, hf])
  looks t n ht hn := judgeLegs_found_reads h ht hn

theorem tests_bodyStale (s : State) : Tests s condBody .bodyStale (LiftHolds (aged s) .bodyStale) where
  holds t ht := by
    have hread := ht.trans (reads_judgeRole t .body)
    show (match (judgeRole t .body).stationOf .body with
        | some n => Machine.fresh (judgeRole t .body) n | none => false) = true ↔
      ∃ n, s.stationOf .body = some n ∧ Machine.fresh (aged s) n = true
    rw [stationOf_congr hread.setup]
    cases hst : s.stationOf .body with
    | none => simp
    | some n =>
      have hfound : (judgeRole t .body).record n = (aged s).record n := by
        rw [judgeRole_record, stationOf_congr ht.setup, if_pos hst, ht.aged_record]
      simp [fresh_congr hfound]
  looks t n ht hn := by
    show (judgeRole t .body).record n = _
    rw [judgeRole_record, stationOf_congr ht.setup, if_pos (c := s.stationOf .body = some n) hn, ht.aged_record]

theorem liftTests_reads : ∀ x ∈ liftTests, ∀ t, Reads t (x.1 t).1 := by
  simp only [liftTests, List.forall_mem_cons]
  exact ⟨fun t => reads_judgeRole t _, .refl, reads_condTurn, .refl, .refl, reads_judgeExclusive, reads_judgeExclusive,
    reads_judgeLegs, fun t => reads_judgeRole t _, nofun⟩

theorem reads_liftConditions (s : State) : Reads s (liftConditions s).1 := reads_runTests liftTests liftTests_reads s

/-- The nine tests are those of the nine conditions (R86). -/
theorem liftTests_test (h : PositionsDistinct s) : ∀ x ∈ liftTests, Tests s x.1 x.2 (LiftHolds (aged s) x.2) := by
  simp only [liftTests, List.forall_mem_cons]
  exact ⟨tests_intent s, tests_phase s, tests_turn h, tests_ownContact s, tests_fault s, tests_peerStale h,
    tests_neighbour h, tests_slipNearby h, tests_bodyStale s, nofun⟩

/-- The lift conditions (R86): the first that fails is named; with none named all hold, and each record that they read has
been found by its age. -/
theorem liftConditions_spec (h : PositionsDistinct s) :
    ((liftConditions s).2 = none → ∀ w ∈ liftOrder, LiftHolds (aged s) w ∧
      ∀ n, Looks s w n → (liftConditions s).1.record n = (aged s).record n) ∧
    (∀ i : Fin 9, (∀ j : Fin 9, j < i → LiftHolds (aged s) liftOrder[j]) → ¬ LiftHolds (aged s) liftOrder[i] →
      (liftConditions s).2 = some liftOrder[i]) ∧
    ((∀ i : Fin 9, LiftHolds (aged s) liftOrder[i]) → (liftConditions s).2 = none) := by
  obtain ⟨hfound, hfirst, hnone⟩ := runTests_spec liftTests liftTests_reads (liftTests_test h) s (.refl s)
  have horder : liftTests.map Prod.snd = liftOrder.toList := rfl
  have hmem (w : WaitReason) : w ∈ liftOrder ↔ ∃ x ∈ liftTests, x.2 = w := by
    rw [← List.mem_map, horder, Vector.mem_toList_iff]
  rw [liftConditions_eq]
  refine ⟨fun hn w hw => ?_, fun i hbefore hfails => ?_, fun hall => hnone fun x hx => ?_⟩
  · obtain ⟨x, hx, rfl⟩ := (hmem w).1 hw
    exact hfound hn x hx
  · refine hfirst (liftOrder.toList.take i) _ (liftOrder.toList.drop (i + 1)) ?_ (fun v hv => ?_) hfails
    · rw [horder]
      simpa using (List.take_append_drop i.val liftOrder.toList).symm.trans
        (congrArg _ (List.drop_eq_getElem_cons (by simp)))
    · obtain ⟨j, hj, rfl⟩ := List.mem_take_iff_getElem.1 hv
      exact hbefore ⟨j, by omega⟩ (show j < i.val by omega)
  · obtain ⟨i, hi, hx⟩ := Vector.mem_iff_getElem.1 ((hmem x.2).2 ⟨x, hx, rfl⟩)
    exact hx ▸ hall ⟨i, hi⟩

end

end Sys2Proof.LiftTests
end

section
/-! The request of a support check and its result (R87, R91, R112, R113, R121), and the entry to CLAIM (R89). -/

-- Elaborated in order: elaborated at once, the many proofs here take more threads than the check has memory for.
set_option Elab.async false

namespace Sys2Proof.SupportChecks
open Sys2Proof Sys2Proof.Machine Sys2Proof.Laws Sys2Proof.QueueRules Sys2Proof.Attempts Sys2Proof.IntentStorage
  Sys2Proof.FaultCommands Sys2Proof.ClassAFaults Sys2Proof.PeerFrames Sys2Proof.Telling Sys2Proof.Reading
  Sys2Proof.Deadlines Sys2Proof.LiftTests Sys2Proof.LegMoves

/-! ## A Phase Notice in a queue with room (R94, R140) -/

/-- A Phase Notice enters a queue with room, and nobody is told. -/
theorem notice_placed {u : State} {f : TxFrame} (hk : f.kind = some .phaseNotice) (hroom : u.txq.frames.length < 8) :
    placeFrame u f = { u with txq := (u.txq.place f).1 } ∧ f ∈ (u.txq.place f).1.frames := by
  have hplace : u.txq.place f = u.txq.takeIn f := place_free (.inr (by
    rw [hk]
    rintro ((h | h | h) | h) <;> cases h))
  refine ⟨placeFrame_of_kept ?_, ?_⟩
  · rw [hplace, TxQueue.takeIn, if_pos (show u.txq.frames.length < queueMax from hroom)]
  · rw [hplace]
    exact mem_takeIn (.inl hroom)

theorem noticeWith_kind (s : State) (leg : LegState) (g : Gait) (slip : Bool) (code : Nat) (steps named : Byte) :
    (noticeWith s leg g slip code steps named).kind = some .phaseNotice := kind_of_claim rfl

/-! ## The snapshot (R112) -/

theorem supportAt_iff {s : State} (h : PositionsDistinct s) (p : LegPos) (f : SupportFoot) :
    supportAt s p = some f ↔ ∃ n l, s.legOf n = some l ∧ l.pos = p ∧ Machine.fresh s n = true ∧ isSupport l = true ∧
      f = { pos := p, at2 := { x := snapCoord l.footX, y := snapCoord l.footY } } := by
  unfold supportAt
  cases hat : s.freshLegAt p with
  | none =>
    refine iff_of_false nofun ?_
    rintro ⟨n, l, hl, hp, hf, -⟩
    rw [(freshLegAt_iff h p l).2 ⟨n, hl, hp, hf⟩] at hat
    cases hat
  | some l =>
    obtain ⟨n, hl, hp, hf⟩ := (freshLegAt_iff h p l).1 hat
    dsimp only
    constructor
    · intro hfoot
      split at hfoot
      next hsup => exact ⟨n, l, hl, hp, hf, hsup, (Option.some.inj hfoot).symm⟩
      · cases hfoot
    · rintro ⟨m, k, hk, hkp, hkf, hsup, rfl⟩
      obtain rfl : l = k := Option.some.inj (hat.symm.trans ((freshLegAt_iff h p k).2 ⟨m, hk, hkp, hkf⟩))
      rw [if_pos hsup]

/-- The support feet are the fresh, LOADED feet in STANCE or CLAIM, in the order of their positions (R112). -/
theorem mem_supportFeet {s : State} (h : PositionsDistinct s) (f : SupportFoot) : f ∈ supportFeet s ↔
    ∃ n l, s.legOf n = some l ∧ Machine.fresh s n = true ∧ isSupport l = true ∧
      f = { pos := l.pos, at2 := { x := snapCoord l.footX, y := snapCoord l.footY } } := by
  rw [supportFeet, List.mem_filterMap]
  constructor
  · rintro ⟨p, -, hp⟩
    obtain ⟨n, l, hl, rfl, hf, hsup, rfl⟩ := (supportAt_iff h p f).1 hp
    exact ⟨n, l, hl, hf, hsup, rfl⟩
  · rintro ⟨n, l, hl, hf, hsup, rfl⟩
    have hown := h.2.2.1
    refine ⟨l.pos, List.mem_filter.2 ⟨by cases l.pos <;> simp [legPositions], ?_⟩,
      (supportAt_iff h _ _).2 ⟨n, l, hl, rfl, hf, hsup, rfl⟩⟩
    exact bne_iff_ne.2 (hown n l hl)

theorem supportFeet_sorted {s : State} (h : PositionsDistinct s) :
    (supportFeet s).Pairwise fun a b => a.pos.code < b.pos.code := by
  have horder : legPositions.Pairwise fun p q => p.code < q.code := by decide
  refine List.pairwise_filterMap.2 ((horder.filter _).imp fun {p q} hpq f hf g hg => ?_)
  obtain ⟨-, -, -, -, -, -, rfl⟩ := (supportAt_iff h p f).1 hf
  obtain ⟨-, -, -, -, -, -, rfl⟩ := (supportAt_iff h q g).1 hg
  exact hpq

theorem snapCoord_eq (h : Half) : snapCoord h = max (-2000) (min 2000 h.toInt) := by
  unfold snapCoord sgn clampInt
  omega

theorem isSupport_iff {l : LegPart} :
    isSupport l = true ↔ (l.state = .stance ∨ l.state = .claim) ∧ l.contact = .loaded := by
  simp [isSupport]

/-- The snapshot of a state whose LEG records and BODY record have been read is that of R112, by the age of the records. -/
theorem snapshotOf_is {s t : State} (h : PositionsDistinct s) (hread : Reads s t)
    (hlegs : ∀ n, (s.legOf n).isSome = true → t.record n = (aged s).record n)
    (hbody : ∀ n, s.stationOf .body = some n → t.record n = (aged s).record n) :
    SnapshotIs (aged s) (snapshotOf t) := by
  have hdist := distinct_reads h hread
  have hfresh {n : Fin 8} {l : LegPart} (hl : s.legOf n = some l) :
      Machine.fresh t n = Machine.fresh (aged s) n := fresh_congr (hlegs n (by rw [hl]; rfl))
  have hpos : t.legPos = s.legPos := legPos_reads hread
  refine ⟨hpos, by rw [snapshotOf, hread.pe]; rfl, supportFeet_sorted hdist, fun n l hl hf hst hc => ?_,
    fun f hf => ?_, fun n r b hn hr hb => ?_⟩
  · rw [legOf_aged] at hl
    exact (mem_supportFeet hdist _).2
      ⟨n, l, by rw [hread.legOf, hl], by rw [hfresh hl, hf], isSupport_iff.2 ⟨hst, hc⟩, by rw [snapCoord_eq, snapCoord_eq]⟩
  · obtain ⟨n, l, hl, hfl, hsup, rfl⟩ := (mem_supportFeet hdist f).1 hf
    rw [hread.legOf] at hl
    obtain ⟨hst, hc⟩ := isSupport_iff.1 hsup
    exact ⟨n, l, by rw [legOf_aged, hl], by rw [← hfresh hl, hfl], hst, hc, by rw [snapCoord_eq, snapCoord_eq]⟩
  · have hst : s.stationOf .body = some n := hn
    show comOf t = _
    rw [comOf, stationOf_congr hread.setup, hst, Option.bind_some, hbody n hst, hr]
    dsimp only
    rw [hb, ← snapCoord_eq, ← snapCoord_eq]

/-- A check request (R87, R112, R113): the LEG records and the BODY record are read, and the snapshot is handed over. -/
theorem requestCheck_spec {s : State} (h : PositionsDistinct s) : ∃ r sn, Reads s r ∧ SnapshotIs (aged s) sn ∧
    requestCheck s = { r with
      pe := { s.pe with checkPending := true }
      scu := { s.scu with checking := true, inFlight := some sn } } := by
  have hlegs := reads_judgeLegs s
  have hbody := reads_judgeRole (judgeLegs s) .body
  have hread := hlegs.trans hbody
  refine ⟨judgeRole (judgeLegs s) .body, snapshotOf (judgeRole (judgeLegs s) .body), hread,
    snapshotOf_is h hread (fun n hl => Reads.found_mono (judgeLegs_found (ne_station_of_leg h hl) hl) hlegs hbody) fun n hn => ?_, ?_⟩
  · rw [judgeRole_record, stationOf_congr hlegs.setup, if_pos hn, hlegs.aged_record]
  · rw [← hread.pe, ← hread.scu]
    rfl

/-! ## The result of a check -/

/-- The Phase Engine after an entry to CLAIM (R89). -/
def claimedPe (s : State) : PhaseEngine :=
  { s.pe with
    leg := .claim, checkPending := false, claimT := some 20000, timeoutPassed := false, wait := .none, ownSway := none }

/-- The Lift Notice of a leg that has entered CLAIM (R89, R94). -/
def liftNotice (s : State) : TxFrame := noticeWith s .claim s.pe.applied.gait s.fsu.slipping 1 s.pe.steps 0xFF#8

theorem enterClaim_eq (s : State) : enterClaim s = placeFrame { s with pe := claimedPe s } (liftNotice s) := rfl

theorem enterClaim_of_room {s : State} (hroom : s.txq.frames.length < 8) :
    enterClaim s = { s with pe := claimedPe s, txq := (s.txq.place (liftNotice s)).1 } ∧
      liftNotice s ∈ (s.txq.place (liftNotice s)).1.frames :=
  notice_placed (u := { s with pe := claimedPe s }) (noticeWith_kind s _ _ _ _ _ _) hroom

theorem passLift_waits {s : State} {w : WaitReason} (h : (liftConditions s).2 = some w) :
    passLift s = { (liftConditions s).1 with pe := (liftConditions s).1.pe.withWait w } := by
  unfold passLift
  split
  next u v hu => rw [hu] at h ⊢; rw [Option.some.inj h]
  next u hu => rw [hu] at h; cases h

theorem passLift_claims {s : State} (h : (liftConditions s).2 = none) : passLift s = enterClaim (liftConditions s).1 := by
  unfold passLift
  split
  next u v hu => rw [hu] at h; cases h
  next u hu => rw [hu]

theorem withWait_liftOrder (p : PhaseEngine) (i : Fin 9) :
    p.withWait liftOrder[i] = { p with wait := liftOrder[i], ownSway := none } := by
  have hne : ∀ j : Fin 9, liftOrder[j] ≠ .margin := by decide
  rw [PhaseEngine.withWait, if_neg (hne i)]

/-- The state after a check has completed, before the Phase Engine acts on the result (R113). -/
def checked (s : State) (dt : Nat) (sn : Snapshot) : State :=
  { elapse s dt with
    scu := { checking := false, inFlight := none, last := checkResult sn s.marginM s.corridorW s.swayMax } }

/-- With no check pending any more (R87). -/
def answered (s : State) : State := { s with pe := { s.pe with checkPending := false } }

theorem exec_checkResult {s : State} {sn : Snapshot} (h : s.scu.inFlight = some sn) (dt : Nat) :
    exec (.supportCheckResult dt) s =
      .next (actOnResult (checked s dt sn) (checkResult sn s.marginM s.corridorW s.swayMax)) := by
  have hexec : exec (.supportCheckResult dt) s = .next (match s.scu.inFlight with
      | some sn => completeCheck (elapse s dt) sn
      | none => elapse s dt) := rfl
  rw [hexec, h]
  rfl

theorem actOnResult_idle {s : State} (h : s.pe.checkPending = false) (r : CheckResult) : actOnResult s r = s :=
  if_neg (Bool.eq_false_iff.1 h)

theorem actOnResult_stance {s : State} (h : s.pe.checkPending = true) (hleg : s.pe.leg = .stance) (r : CheckResult) :
    actOnResult s r = if r.pass then passLift (answered s) else denyLift (answered s) r := by
  rw [actOnResult, if_pos h, hleg]
  rfl

theorem actOnResult_unload {s : State} (h : s.pe.checkPending = true) (hleg : s.pe.leg = .unload) (r : CheckResult) :
    actOnResult s r = if r.pass then answered s else cancelUnload (answered s) := by
  rw [actOnResult, if_pos h, hleg]
  rfl

theorem distinct_of {s t : State} (h : PositionsDistinct s) (hstation : t.sbi.station = s.sbi.station)
    (hsetup : t.setup = s.setup) (hrec : t.pt.records = s.pt.records) (hleg : t.pe.leg = .setup → s.pe.leg = .setup) :
    PositionsDistinct t := by
  obtain ⟨hown, hnone, hpos, hdist⟩ := h
  refine ⟨?_, fun hl n => ?_, ?_, ?_⟩
  · rw [State.record, hrec, hstation]; exact hown
  · rw [State.record, hrec]; exact hnone (hleg hl) n
  · simp only [State.legOf, State.record, hrec, State.legPos, State.uword, hsetup]; exact hpos
  · simp only [State.legOf, State.record, hrec]; exact hdist

theorem distinct_answered {s : State} (h : PositionsDistinct s) (dt : Nat) (sn : Snapshot) :
    PositionsDistinct (answered (checked s dt sn)) := distinct_of h (by simp [answered, checked]) rfl rfl id

/-- Settles O55: the result by the mark, the leg state and the outcome. -/
theorem supportCheckActs : Obligations.SupportCheckActs := by
  intro dt s sn hsn r e u claim lift
  have hexec : exec (.supportCheckResult dt) s = .next (actOnResult e r) := exec_checkResult hsn dt
  have hstance (hpend : s.pe.checkPending = true) (hleg : s.pe.leg = .stance) (hpass : r.pass = true) :
      exec (.supportCheckResult dt) s = .next (passLift u) := by
    rw [hexec, actOnResult_stance (s := e) hpend hleg, if_pos hpass]
    rfl
  have hlift {v : State} (h : Reads u v) : claimedPe v = claim ∧ liftNotice v = lift := by
    refine ⟨by rw [claimedPe, h.pe], ?_⟩
    rw [liftNotice, noticeWith_congr (s := s) (by rw [h.sbi]; simp [u, e]) h.setup, h.pe, h.fsu]
    rfl
  refine ⟨fun hpend => ?_, fun hpend hleg hfail => ?_, fun hpend hleg hpass => ?_, fun hpend hleg hfail => ?_,
    fun hpend hleg hpass hnone hroom => ?_, fun hpend hleg hpass hdist => ?_, fun hpend hleg hpass hdist hyoung => ?_⟩
  · rw [hexec, actOnResult_idle (s := e) hpend]
  · rw [hexec, actOnResult_stance (s := e) hpend hleg, if_neg (Bool.eq_false_iff.1 hfail)]
    rfl
  · rw [hexec, actOnResult_unload (s := e) hpend hleg, if_pos hpass]
    rfl
  · rw [hexec, actOnResult_unload (s := e) hpend hleg, if_neg (Bool.eq_false_iff.1 hfail)]
    obtain ⟨hpe, htu, htxq, hflt, htime, hsbi, hsetup, hpt, hfsu, hscu, -⟩ := cancelUnload_spec u
    refine ⟨_, rfl, hpe, htu, hscu, hflt, htxq.trans ?_, hpt, hsbi, hfsu, htime, hsetup⟩
    rw [noticeWith_congr (s := s) (t := u) (by simp [u, e]) rfl]
    rfl
  · obtain ⟨v, hv⟩ : ∃ v, v = (liftConditions u).1 := ⟨_, rfl⟩
    have hread : Reads u v := hv ▸ reads_liftConditions u
    obtain ⟨hpe, hnotice⟩ := hlift hread
    rw [← hv] at hroom
    obtain ⟨henter, hmem⟩ := enterClaim_of_room hroom
    rw [hstance hpend hleg hpass, passLift_claims hnone, ← hv, henter, hpe, hnotice]
    rw [hnotice] at hmem
    exact ⟨_, rfl, rfl, hread.scu, hread.sbi, hread.fsu, hread.tu, hmem⟩
  · obtain ⟨-, hfirst, hall⟩ := liftConditions_spec (s := u) (distinct_answered hdist dt sn)
    obtain ⟨v, hv⟩ : ∃ v, v = (liftConditions u).1 := ⟨_, rfl⟩
    have hread : Reads u v := hv ▸ reads_liftConditions u
    obtain ⟨hpe, hnotice⟩ := hlift hread
    have hrecord (n : Fin 8) : v.record n = s.record n ∨ v.record n = (aged e).record n := by
      obtain h | h := hread.record n
      exacts [.inl h, .inr h]
    refine ⟨passLift u, hstance hpend hleg hpass, ?_⟩
    cases hnone : (liftConditions u).2 with
    | some w =>
      rw [passLift_waits hnone, ← hv]
      refine ⟨hread.scu, hread.sbi, hread.fsu, hread.tu, hread.setup, hread.time, hrecord, fun i hbefore hfails => ?_,
        fun hholds => ?_⟩
      · obtain rfl := Option.some.inj (hnone.symm.trans (hfirst i hbefore hfails))
        exact ⟨by rw [withWait_liftOrder, hread.pe], hread.offers.mem⟩
      · rw [hall hholds] at hnone
        cases hnone
    | none =>
      rw [passLift_claims hnone, ← hv]
      have hframe := placeFrame_frame { v with pe := claimedPe v } (liftNotice v)
      obtain ⟨htime, hsbi, hsetup, hpt, hfsu, hscu, htu, -⟩ := hframe
      rw [enterClaim_eq]
      refine ⟨hscu.trans hread.scu, hsbi.trans hread.sbi, hfsu.trans hread.fsu, htu.trans hread.tu,
        hsetup.trans hread.setup, htime.trans hread.time, fun n => ?_, fun i hbefore hfails => ?_, fun hholds hroom => ?_⟩
      · rw [State.record, hpt]
        exact hrecord n
      · rw [hfirst i hbefore hfails] at hnone
        cases hnone
      · obtain ⟨henter, hmem⟩ := enterClaim_of_room
          (show v.txq.frames.length < 8 from hread.offers.length_le.trans_lt (Nat.succ_lt_succ (Nat.lt_succ_of_le hroom)))
        rw [← enterClaim_eq, henter]
        exact ⟨hpe, hnotice ▸ hmem⟩
  · obtain ⟨-, hfirst, hall⟩ := liftConditions_spec (s := u) (distinct_answered hdist dt sn)
    have hstays : (liftConditions u).1 = u := (reads_liftConditions u).unmarked hyoung
    have hyoung' : aged u = u := aged_of_unmarked hyoung
    obtain ⟨hpe, hnotice⟩ := hlift (.refl u)
    rw [hstance hpend hleg hpass]
    refine ⟨fun i hbefore hfails => ?_, fun hholds hroom => ?_⟩
    · rw [passLift_waits (hfirst i (by rwa [hyoung']) (by rwa [hyoung'])), hstays, withWait_liftOrder]
    · rw [passLift_claims (hall (by rwa [hyoung'])), hstays, (enterClaim_of_room (s := u) hroom).1, hpe, hnotice]
      rfl

/-! ## What a leg that enters CLAIM has met (R58, R85 to R87) -/

/-- A record that a read finds fresh is within its limit at that instant (R53). -/
theorem readFresh_of_found {s t : State} {n : Fin 8} (htime : t.time = s.time) (hsetup : t.setup = s.setup)
    (hfound : t.record n = (aged s).record n) (hfresh : Machine.fresh (aged s) n = true) : ReadFresh t n := by
  rw [Machine.fresh, record_aged] at hfresh
  rw [record_aged] at hfound
  cases hr : s.record n with
  | none => rw [hr] at hfresh; cases hfresh
  | some r =>
    rw [hr] at hfresh hfound
    have hstale : (r.stale || decide (staleLimit s r < ageOf s r.tag)) = false := by simpa [agedRecord] using hfresh
    obtain ⟨-, hage⟩ := Bool.or_eq_false_iff.1 hstale
    have hlimit : staleLimit t (agedRecord s r) = staleLimit s r := staleLimit_congr hsetup (agedRecord s r)
    refine ⟨_, hfound, hstale, ?_⟩
    rw [htime, hlimit]
    exact Nat.le_of_not_lt (of_decide_eq_false hage)

/-- An intent that walks comes from the fresh record of the MISSION station (R50). -/
theorem fresh_of_walking_intent {s : State} (h : (effIntent s).gait ≠ .stand) :
    ∃ n, s.stationOf .mission = some n ∧ Machine.fresh s n = true := by
  unfold effIntent at h
  split at h
  next => exact absurd rfl h
  next n hn =>
    refine ⟨n, hn, ?_⟩
    split at h
    next r hr =>
      split at h
      · exact absurd rfl h
      next hstale => simpa [Machine.fresh, hr] using hstale
    · exact absurd rfl h

/-- A check result that takes a leg into CLAIM: it passed, the check was pending in STANCE, and the nine conditions hold. -/
theorem claim_of_result {s : State} {r : CheckResult} (hnot : s.pe.leg ≠ .claim) (h : (actOnResult s r).pe.leg = .claim) :
    s.pe.leg = .stance ∧ s.pe.checkPending = true ∧ r.pass = true ∧
      (liftConditions (answered s)).2 = none ∧ actOnResult s r = enterClaim (liftConditions (answered s)).1 := by
  cases hpend : s.pe.checkPending with
  | false =>
    rw [actOnResult_idle hpend] at h
    exact absurd h hnot
  | true =>
    by_cases hstance : s.pe.leg = .stance
    · rw [actOnResult_stance hpend hstance] at h ⊢
      cases hpass : r.pass with
      | false =>
        rw [hpass] at h
        exact absurd (h.symm.trans hstance) nofun
      | true =>
        rw [hpass, if_pos rfl] at h
        rw [if_pos rfl]
        cases hnone : (liftConditions (answered s)).2 with
        | none => exact ⟨hstance, rfl, rfl, rfl, passLift_claims hnone⟩
        | some w =>
          rw [passLift_waits hnone] at h
          have hleg : (liftConditions (answered s)).1.pe.leg = .claim := h
          rw [liftConditions_pe] at hleg
          exact absurd hleg hnot
    · refine absurd h ?_
      unfold actOnResult
      rw [if_pos hpend]
      split
      next hs => exact absurd hs hstance
      next =>
        split
        · exact hnot
        · rw [(cancelUnload_spec _).1]
          nofun
      next => exact hnot

/-- Settles O16: CLAIM is entered by a check result, which tests the nine conditions on records judged at that instant. -/
theorem claimEntrySafe : Obligations.ClaimEntrySafe := by
  intro c s t hdist hexec hnot hclaim
  obtain ⟨-, -, -, -, -, hcommand, -⟩ := legMovesByTheTable c s t hexec (by rw [hclaim]; exact Ne.symm hnot)
  obtain ⟨dt, rfl⟩ := hcommand hclaim
  cases hsn : s.scu.inFlight with
  | none =>
    have hidle : exec (.supportCheckResult dt) s = .next (match s.scu.inFlight with
      | some sn => completeCheck (elapse s dt) sn
      | none => elapse s dt) := rfl
    rw [hidle, hsn] at hexec
    obtain rfl := Host.Outcome.next.inj hexec
    exact absurd hclaim hnot
  | some sn =>
    rw [exec_checkResult hsn] at hexec
    obtain rfl := Host.Outcome.next.inj hexec
    obtain ⟨hstance, hpend, hpass, hnone, henter⟩ := claim_of_result (s := checked s dt sn) hnot hclaim
    obtain ⟨u, hu⟩ : ∃ u, u = answered (checked s dt sn) := ⟨_, rfl⟩
    obtain ⟨v, hv⟩ : ∃ v, v = (liftConditions u).1 := ⟨_, rfl⟩
    have hread : Reads u v := hv ▸ reads_liftConditions u
    have hnone : (liftConditions u).2 = none := hu ▸ hnone
    have henter : actOnResult (checked s dt sn) (checkResult sn s.marginM s.corridorW s.swayMax) = enterClaim v := by
      rw [hv, hu]; exact henter
    rw [henter] at hclaim ⊢
    obtain ⟨t, ht⟩ : ∃ t, t = enterClaim v := ⟨_, rfl⟩
    rw [← ht]
    obtain ⟨htime, hsetup, hpt, hscu⟩ : t.time = u.time ∧ t.setup = s.setup ∧ t.pt = v.pt ∧ t.scu = u.scu := by
      rw [ht, enterClaim_eq]
      obtain ⟨htime, -, hsetup, hpt, -, hscu, -⟩ := placeFrame_frame { v with pe := claimedPe v } (liftNotice v)
      exact ⟨htime.trans hread.time, (hsetup.trans hread.setup).trans (by rw [hu]; rfl), hpt, hscu.trans hread.scu⟩
    have hrec (n : Fin 8) : t.record n = v.record n := by rw [State.record, hpt]; rfl
    have hleg (n : Fin 8) : t.legOf n = s.legOf n := by
      rw [State.legOf, hrec]
      exact (hread.legOf n).trans (by rw [hu]; rfl)
    obtain ⟨hholds, -, -⟩ := liftConditions_spec (s := u) (hu ▸ distinct_answered hdist dt sn)
    have hcond (i : Fin 9) : LiftHolds (aged u) liftOrder[i] ∧
        ∀ n, Looks u liftOrder[i] n → t.record n = (aged u).record n := by
      obtain ⟨hw, hlooks⟩ := hholds hnone liftOrder[i] (Vector.getElem_mem _)
      exact ⟨hw, fun n hn => by rw [hrec, hv]; exact hlooks n hn⟩
    have hfresh {n : Fin 8} (hfound : t.record n = (aged u).record n) (hf : Machine.fresh (aged u) n = true) :
        ReadFresh t n := readFresh_of_found htime (by rw [hsetup, hu]; rfl) hfound hf
    obtain ⟨upe, ucontact, uslipping, uflt, usetup⟩ : u.pe = { (elapse s dt).pe with checkPending := false } ∧
        u.fsu.contact = s.fsu.contact ∧ u.fsu.slipping = s.fsu.slipping ∧ u.flt = s.flt ∧ u.setup = s.setup := by
      rw [hu]; exact ⟨rfl, rfl, rfl, rfl, rfl⟩
    have ulegPos : u.legPos = s.legPos := by rw [State.legPos, State.uword, usetup]; rfl
    have uleg (n : Fin 8) : (aged u).legOf n = s.legOf n := by rw [legOf_aged, hu]; rfl
    obtain ⟨hintent, hlooksIntent⟩ := hcond 0
    obtain ⟨hphase, -⟩ := hcond 1
    obtain ⟨hturn, -⟩ := hcond 2
    obtain ⟨hcontact, -⟩ := hcond 3
    obtain ⟨hfault, -⟩ := hcond 4
    obtain ⟨hpeers, hlooksPeers⟩ := hcond 5
    obtain ⟨hneighbour, -⟩ := hcond 6
    obtain ⟨hslip, hlooksSlip⟩ := hcond 7
    obtain ⟨⟨b, hb, hbfresh⟩, hlooksBody⟩ := hcond 8
    have heff : effIntent t = effIntent (aged u) :=
      effIntent_congr (s := aged u) (hsetup.trans usetup.symm) fun n hn => hlooksIntent n hn
    refine ⟨⟨dt, rfl⟩, hstance, hpend, ?_, ?_, ?_, ?_, ?_, ?_, ?_, ?_, fun p hp => ?_, fun n l hl hex => ?_,
      fun n l hl hf => ?_, ?_⟩
    · rw [hscu, hu]
      exact hpass
    · rw [heff]
      exact hintent
    · obtain ⟨n, hn, hf⟩ := fresh_of_walking_intent hintent
      exact ⟨n, by rwa [stationOf_congr (hsetup.trans usetup.symm)], hfresh (hlooksIntent n hn) hf⟩
    · rw [← BitVec.toNat_inj, State.beta, beta_toNat]
      have h : u.pe.phi.toNat = (match u.pe.applied.gait with | .diagonal => 32768 | _ => 49152) := hphase
      rw [upe] at h
      exact h
    · have h : (u.pe.lead = true ∧ isLead u.pe.applied.gait u.legPos = true) ∨ ∃ c, u.pe.turn = some c ∧ ∃ n l,
          (aged u).legOf n = some l ∧ predecessor u.pe.applied.gait u.legPos = some l.pos ∧ l.steps ≠ c := hturn
      rw [upe, ulegPos] at h
      obtain h | ⟨c, hc, n, l, hl, hp, hsteps⟩ := h
      · exact .inl h
      · exact .inr ⟨c, n, l, hc, by rw [hleg, ← uleg, hl], hp, hsteps⟩
    · exact ucontact ▸ hcontact.1
    · exact uslipping ▸ hcontact.2
    · exact classALatched_eq_false.2 (uflt ▸ hfault)
    · rw [← ulegPos, show s.pe.applied = u.pe.applied by rw [upe]; rfl] at hp
      obtain ⟨n, l, hl, hpos, hf⟩ := hpeers p hp
      exact ⟨n, l, by rw [hleg, ← uleg, hl], hpos, hfresh (hlooksPeers n ⟨l, by rwa [legOf_aged] at hl, hpos ▸ hp⟩) hf⟩
    · rw [← ulegPos, show s.pe.applied = u.pe.applied by rw [upe]; rfl] at hex
      exact moving_eq_false.2 (hneighbour n l (by rw [uleg, hl]) hex)
    · rw [hleg, ← uleg] at hl
      have hfound := hlooksSlip n (by rw [legOf_aged] at hl; exact (congrArg Option.isSome hl).trans rfl)
      rw [fresh_congr (s := aged u) hfound] at hf
      exact ⟨hslip n l hl hf, hfresh hfound hf⟩
    · refine ⟨b, ?_, hfresh (hlooksBody b hb) hbfresh⟩
      have hst : s.stationOf .body = some b := by rwa [stationOf_congr (t := aged u) (s := s) usetup] at hb
      have hrole := List.find?_some hst
      exact beq_iff_eq.1 hrole

end Sys2Proof.SupportChecks
end

section
/-! A control-period expiry (R79): its run in a leg that moves, and what follows a motion's end (R96 to R101, R130 to R133). -/

-- Elaborated in order: elaborated at once, the many proofs here take more threads than the check has memory for.
set_option Elab.async false

namespace Sys2Proof.Expiries
open Sys2Proof Sys2Proof.Machine Sys2Proof.Laws Sys2Proof.Keeping Sys2Proof.IntentStorage Sys2Proof.FaultCommands
  Sys2Proof.ClassAFaults Sys2Proof.LineFaults Sys2Proof.Telling Sys2Proof.Reading Sys2Proof.Deadlines Sys2Proof.LegMoves

/-! ## The steps of an expiry -/

/-- Step 3 of an expiry: the motion, the clamp and the Setpoint (R79). -/
def moved (d : State) (before : LegState) : State := sendSetpoint (clampFoot (motion d before).1)

/-- Steps 3 and 4 of an expiry, from the state that step 2 has decided (R79). -/
def runPeriod (d : State) (before : LegState) : State := actOnEnd (moved d before) (motion d before).2

theorem advancePhase_expiring (s : State) (dt : Nat) :
    advancePhase { elapse s dt with pe := { (elapse s dt).pe with period := some controlPeriodUs } } = expiring s dt := by
  have hbeta (g : Gait) : g.beta = match g with | .diagonal => 32768 | _ => 49152 := by cases g <;> rfl
  show { elapse s dt with pe := { (elapse s dt).pe with
      period := some 2000
      phi := match s.pe.leg with
        | .stance => BitVec.ofNat 16 (min (s.pe.phi.toNat + 131072 / s.pe.applied.cycle) s.pe.applied.gait.beta)
        | .unload | .swing | .search | .load =>
          BitVec.ofNat 16 (min (s.pe.phi.toNat + 131072 / s.pe.applied.cycle) 65535)
        | _ => s.pe.phi } } = expiring s dt
  rw [hbeta]
  rfl

/-- An expiry outside SETUP runs the four steps (R79). -/
theorem exec_expiry {s : State} {k dt : Nat} (hk : s.pe.period = some k) (hdue : k ≤ dt) (hleg : s.pe.leg ≠ .setup) :
    exec (.controlPeriodExpiry dt) s = .next (runPeriod (decide2 (expiring s dt)) s.pe.leg) := by
  have hexec : exec (.controlPeriodExpiry dt) s = .next (controlPeriod
      { elapse s dt with pe := { (elapse s dt).pe with period := some controlPeriodUs } }) :=
    congrArg Host.Outcome.next (if_pos ⟨due_after hk hdue, hleg⟩)
  rw [hexec, ← advancePhase_expiring]
  rfl

theorem moved_pe (d : State) (before : LegState) : (moved d before).pe = d.pe := (clampFoot_pe _).trans (motion_pe d before)

/-- The clamp of a foot that neither stands nor waits in READY (R128). -/
theorem clampFoot_moving {d : State} (hready : d.pe.leg ≠ .ready) (hstand : d.pe.leg.standing = false) :
    clampFoot d = { d with tu := { d.tu with p := clampBox d d.tu.p } } := by
  rw [clampFoot, if_neg hready]
  exact if_neg (Bool.eq_false_iff.1 hstand)

/-- A decision in SWING or SEARCH there is none (R79). -/
theorem decide2_moving {d : State} (h : d.pe.leg = .swing ∨ d.pe.leg = .search) : decide2 d = d :=
  (periodic_decide2 d).2 h

/-! ## Touchdown and the exhausted search (R99, R101) -/

theorem enterLoad_landed (s : State) : Landed s (enterLoad s) := by
  obtain ⟨u, hu⟩ : ∃ u : State, u =
      { s with pe := loadPe s, flt := { s.flt with conds := s.flt.conds.set FaultCode.weakFoothold.idx false } } := ⟨_, rfl⟩
  obtain ⟨f, hf⟩ : ∃ f, f = noticeWith s .load s.pe.applied.gait s.fsu.slipping 3 (s.pe.steps + 1#8) 0xFF#8 := ⟨_, rfl⟩
  obtain ⟨t, ht⟩ : ∃ t, t = placeFrame u f := ⟨_, rfl⟩
  have henter : enterLoad s = { t with tu := { t.tu with contact := t.tu.p } } := by rw [ht, hf, hu]; rfl
  have hpe : t.pe = loadPe s := by
    rw [ht, placeFrame_pe_of_ne u f (by rw [hu]; exact LegState.noConfusion), hu]
  obtain ⟨-, -, -, hpt, -⟩ := placeFrame_frame u f
  have hflt := placeFrame_flt u f
  have htxq := placeFrame_txq u f
  rw [← ht] at hpt hflt htxq
  rw [henter]
  exact ⟨hpe, rfl, by rw [hpt, hu], by unfold OnlyConds; rw [hflt, hu], by rw [htxq, hu, hf]⟩

/-- An exhausted search, while attempts remain and with none left (R99). -/
theorem exhaustSearch_exhausted {s : State} (hleg : s.pe.leg = .search) : Exhausted s (exhaustSearch s) := by
  by_cases hleft : s.pe.attempts < s.replaceMax
  · rw [Exhausted, if_pos hleft, exhaustSearch_again hleft]
    have htells := Tells.of_recordEvent (s := replaceState s) (e := .rePlace) (BitVec.ofNat 8 (s.pe.attempts + 1))
    have hrise := risePath_from s
    refine ⟨by simp [replaceState], by simpa [replaceState] using hrise, by simp [replaceState], by simp [replaceState],
      by simp [replaceState], htells.offered, htells.logs⟩
  · rw [Exhausted, if_neg hleft, exhaustSearch_last (Nat.le_of_not_lt hleft)]
    obtain ⟨⟨-, hrecorded, hstopped⟩, hconds⟩ :=
      occurrence_taken { s with pe := { s.pe with footholdT := none } } (c := .noFoothold) rfl
    rw [Stopped, if_pos ⟨by rw [show s.pe.leg = .search from hleg]; rfl, by
      show s.pe.leg ≠ .hold; rw [hleg]; nofun⟩] at hstopped
    obtain ⟨-, hpe, htu⟩ := hstopped
    have hnote : holdNote { s with pe := { s.pe with footholdT := none } } = [{ bit := 4, code := 0x03, detail := 5#8 }] := by
      rw [holdNote]
      dsimp only
      rw [hleg]
      rfl
    rw [hnote] at hrecorded
    refine ⟨(hpe (by show s.pe.leg ≠ .claim; rw [hleg]; nofun)).trans ?_, ?_, ?_, hconds, hrecorded⟩
    · dsimp only
      rw [hleg]
    · rw [htu]
      dsimp only
      rw [hleg]
      rfl
    · rw [htu]

/-! ## The motions of SWING and SEARCH, and their ends -/

/-- A motion of the foot that is clamped without a watch (R128) and sent (R136). -/
def sent (d : State) (T : Trajectory) : State := sendSetpoint { d with tu := { T with p := clampBox d T.p } }

/-- Step 3 in a leg that neither stands nor waits in READY. -/
theorem moved_moving {d : State} {before : LegState} {T : Trajectory} (hmotion : (motion d before).1 = { d with tu := T })
    (hready : d.pe.leg ≠ .ready) (hstand : d.pe.leg.standing = false) :
    moved d before = sent d T := by
  rw [moved, hmotion, clampFoot_moving (d := { d with tu := T }) hready hstand]
  rfl

/-- The Trajectory Unit after one period of a stub rise (R131). -/
def stubRiseTu (d : State) : Trajectory :=
  { d.tu with
    p := { d.tu.p with z := d.tu.stub.z + ((d.stubLift : Int) * 1000 * (d.tu.stub.j + 1 : Nat)).tdiv 25 }
    stub := { d.tu.stub with j := d.tu.stub.j + 1 } }

/-- The Trajectory Unit after one period of the profile (R130). -/
def profileTu (d : State) : Trajectory :=
  { d.tu with p := profilePoint d (d.tu.plan.k + 1), plan := { d.tu.plan with k := d.tu.plan.k + 1 } }

theorem motion_stubRise {d : State} (hleg : d.pe.leg = .swing) (hrise : d.pe.stubRise = true) :
    motion d .swing = ({ d with tu := stubRiseTu d }, if d.tu.stub.j + 1 = 25 then some .stubRiseEnd else none) := by
  rw [motion, hleg]
  exact (if_neg (by simp)).trans (if_pos hrise)

theorem motion_profile {d : State} (hleg : d.pe.leg = .swing) (hrise : d.pe.stubRise = false) :
    motion d .swing =
      ({ d with tu := profileTu d }, if d.tu.plan.k + 1 = d.tu.plan.kEnd then some .swingEnd else none) := by
  rw [motion, hleg]
  exact (if_neg (by simp)).trans (if_neg (Bool.eq_false_iff.1 hrise))

/-- The Trajectory Unit after one period of a re-place rise (R133). -/
def replaceTu (d : State) : Trajectory :=
  let r := d.tu.rise
  let j : Int := (r.j + 1 : Nat)
  { d.tu with
    p := { x := r.sx + (r.dx * j).tdiv 50, y := r.sy + (r.dy * j).tdiv 50
           z := r.sz + ((d.tu.plan.z0 + d.tu.plan.h - r.sz) * j).tdiv 50 }
    rise := { r with j := r.j + 1 } }

/-- The Trajectory Unit after one period of a descent (R132). -/
def descentTu (d : State) : Trajectory := { d.tu with p := { d.tu.p with z := descentZ d } }

theorem motion_replace {d : State} (before : LegState) (hleg : d.pe.leg = .search) (hrise : d.pe.replacing = true) :
    motion d before = ({ d with tu := replaceTu d }, if d.tu.rise.j + 1 = 50 then some .replaceEnd else none) := by
  rw [motion, hleg]
  exact if_pos hrise

theorem motion_descent {d : State} (before : LegState) (hleg : d.pe.leg = .search) (hrise : d.pe.replacing = false) :
    motion d before = ({ d with tu := descentTu d }, if descentZ d = bottomOf d then some .searchBottom else none) := by
  rw [motion, hleg]
  exact if_neg (Bool.eq_false_iff.1 hrise)

/-- The Phase Engine at an entry to SEARCH (R97). -/
def searchingPe (s : State) : PhaseEngine :=
  { s.pe with leg := .search, checkPending := false, replacing := false, wait := .none, ownSway := none }

theorem enterSearch_contact {s : State} (h : s.fsu.contact ≠ .air) :
    enterSearch s = enterLoad { s with pe := searchingPe s } := if_pos (bne_iff_ne.2 h)

theorem enterSearch_late {s : State} (h : s.fsu.contact = .air) (hlate : s.pe.deadlinePassed = true) :
    enterSearch s = exhaustSearch { s with pe := searchingPe s } :=
  (if_neg (by simp [h])).trans (if_pos hlate)

theorem enterSearch_begins {s : State} (h : s.fsu.contact = .air) (hlate : s.pe.deadlinePassed = false) :
    enterSearch s = { s with pe := searchingPe s } :=
  (if_neg (by simp [h])).trans (if_neg (Bool.eq_false_iff.1 hlate))

/-- An expiry of a leg that neither stands nor waits in READY, whose motion gives this Trajectory Unit and this end. -/
theorem runPeriod_free {d : State} {before : LegState} {T : Trajectory} {m : Option MotionEnd}
    (hready : d.pe.leg ≠ .ready) (hstand : d.pe.leg.standing = false) (hmotion : motion d before = ({ d with tu := T }, m)) :
    runPeriod d before = actOnEnd (sent d T) m := by
  rw [runPeriod, moved_moving (T := T) (congrArg Prod.fst hmotion) hready hstand, hmotion]

theorem runPeriod_moving {d : State} {before : LegState} {T : Trajectory} {m : Option MotionEnd}
    (hleg : d.pe.leg = .swing ∨ d.pe.leg = .search) (hmotion : motion d before = ({ d with tu := T }, m)) :
    runPeriod d before = actOnEnd (sent d T) m :=
  runPeriod_free (by obtain h | h := hleg <;> rw [h] <;> nofun) (by obtain h | h := hleg <;> rw [h] <;> rfl) hmotion

/-- Settles O58: each motion by the period that ends it. -/
theorem motionEnds : Obligations.MotionEnds := by
  intro dt s k hk hdue e pl h ks air searching
  have hexec (hleg : s.pe.leg = .swing ∨ s.pe.leg = .search) :
      exec (.controlPeriodExpiry dt) s = .next (runPeriod e s.pe.leg) := by
    rw [exec_expiry hk hdue (by obtain h | h := hleg <;> rw [h] <;> nofun), decide2_moving (d := expiring s dt) hleg]
  by_cases hleg : s.pe.leg = .swing ∨ s.pe.leg = .search
  · refine ⟨_, hexec hleg, fun hswing hrise => ?_, fun hswing hrise => ?_, fun hsearch hrise => ?_, fun hsearch hrise => ?_⟩
    · rw [hswing, runPeriod_moving (d := e) hleg (motion_profile hswing hrise)]
      refine ⟨fun hon => ?_, fun hlast hcontact => ?_, fun hlast hair hlate => ?_, fun hlast hair hlate => ?_⟩
      · rw [if_neg (c := e.tu.plan.k + 1 = e.tu.plan.kEnd) hon]
        rfl
      all_goals rw [if_pos (c := e.tu.plan.k + 1 = e.tu.plan.kEnd) hlast, actOnEnd]
      · rw [enterSearch_contact (s := sent e (profileTu e)) hcontact]
        exact enterLoad_landed _
      · rw [enterSearch_late (s := sent e (profileTu e)) hair hlate]
        exact exhaustSearch_exhausted
          (s := { sent e (profileTu e) with pe := searchingPe (sent e (profileTu e)) }) rfl
      · rw [enterSearch_begins (s := sent e (profileTu e)) hair hlate]
        exact ⟨rfl, rfl⟩
    · rw [hswing, runPeriod_moving (d := e) hleg (motion_stubRise hswing hrise)]
      refine ⟨fun hon => ?_, fun hlast hcontact => ?_, fun hlast hair => ?_⟩
      · rw [if_neg (c := e.tu.stub.j + 1 = 25) hon]
        rfl
      all_goals rw [if_pos (c := e.tu.stub.j + 1 = 25) hlast, actOnEnd, endStubRise]
      · rw [if_neg (c := (sent e (stubRiseTu e)).fsu.contact = .air) hcontact]
        exact enterLoad_landed _
      · rw [if_pos (c := (sent e (stubRiseTu e)).fsu.contact = .air) hair]
        exact ⟨rfl, rfl, rfl⟩
    · rw [hsearch, runPeriod_moving (d := e) hleg (motion_descent _ hsearch hrise)]
      refine ⟨fun hon => ?_, fun hlast => ?_⟩
      · rw [if_neg (c := descentZ e = bottomOf e) hon]
        rfl
      · rw [if_pos (c := descentZ e = bottomOf e) hlast, actOnEnd]
        exact exhaustSearch_exhausted (s := sent e (descentTu e)) hsearch
    · rw [hsearch, runPeriod_moving (d := e) hleg (motion_replace _ hsearch hrise)]
      refine ⟨fun hon => ?_, fun hlast hcontact => ?_, fun hlast hair => ?_⟩
      · rw [if_neg (c := e.tu.rise.j + 1 = 50) hon]
        rfl
      all_goals rw [if_pos (c := e.tu.rise.j + 1 = 50) hlast, actOnEnd, endReplace]
      · rw [if_pos (c := (sent e (replaceTu e)).fsu.contact ≠ .air) hcontact]
        exact enterLoad_landed _
      · rw [if_neg (c := (sent e (replaceTu e)).fsu.contact ≠ .air) (not_not.2 hair)]
        rfl
  · have hswing : s.pe.leg ≠ .swing := fun h => hleg (.inl h)
    have hsearch : s.pe.leg ≠ .search := fun h => hleg (.inr h)
    exact ⟨_, rfl, fun h => absurd h hswing, fun h => absurd h hswing, fun h => absurd h hsearch, fun h => absurd h hsearch⟩

end Sys2Proof.Expiries
end

section
/-! The foot of a leg that does not stand, at an expiry (R124, R128, R131 to R134, R154). -/

-- Elaborated in order: elaborated at once, the many proofs here take more threads than the check has memory for.
set_option Elab.async false

namespace Sys2Proof.FootMotions
open Sys2Proof Sys2Proof.Machine Sys2Proof.Laws Sys2Proof.Keeping Sys2Proof.IntentStorage Sys2Proof.FaultCommands
  Sys2Proof.ClassAFaults Sys2Proof.LineFaults Sys2Proof.Telling Sys2Proof.Reading Sys2Proof.Deadlines Sys2Proof.LegMoves
  Sys2Proof.Expiries

/-! ## What step 4 leaves of the Trajectory Unit -/

/-- Only the fields that a motion's end sets differ. -/
def EndsOnly (a b : Trajectory) : Prop :=
  b = { a with
    plan := { a.plan with h := b.plan.h }, stub := { a.stub with d0 := b.stub.d0 }, rise := b.rise, contact := b.contact
    descentStopped := b.descentStopped, pressFrozen := b.pressFrozen }

theorem enterLoad_tu (s : State) : (enterLoad s).tu = { s.tu with contact := s.tu.p } := by
  simp [enterLoad, handNotice]

theorem exhaustSearch_tu (s : State) (hleg : s.pe.leg = .search) : EndsOnly s.tu (exhaustSearch s).tu := by
  by_cases hleft : s.pe.attempts < s.replaceMax
  · rw [exhaustSearch_again hleft]
    simp [EndsOnly, replaceState]
  · rw [exhaustSearch_last (Nat.le_of_not_lt hleft)]
    obtain ⟨⟨-, -, hstopped⟩, -⟩ :=
      occurrence_taken { s with pe := { s.pe with footholdT := none } } (c := .noFoothold) rfl
    rw [Stopped, if_pos ⟨by rw [show s.pe.leg = .search from hleg]; rfl, by
      show s.pe.leg ≠ .hold; rw [hleg]; nofun⟩] at hstopped
    obtain ⟨-, -, htu⟩ := hstopped
    rw [EndsOnly, htu]

theorem actOnEnd_tu {s : State} {m : Option MotionEnd} (h : ∀ e, m = some e → endsIn e s.pe.leg) :
    EndsOnly s.tu (actOnEnd s m).tu := by
  match m with
  | none => rfl
  | some .swingEnd =>
    show EndsOnly s.tu (enterSearch s).tu
    by_cases hair : s.fsu.contact = .air
    · cases hlate : s.pe.deadlinePassed with
      | true => rw [enterSearch_late hair hlate]; exact exhaustSearch_tu _ rfl
      | false => rw [enterSearch_begins hair hlate]; rfl
    · rw [enterSearch_contact hair, enterLoad_tu]; rfl
  | some .stubRiseEnd =>
    show EndsOnly s.tu (endStubRise s).tu
    unfold endStubRise
    split
    · rfl
    · rw [enterLoad_tu]; rfl
  | some .searchBottom => exact exhaustSearch_tu s (h _ rfl)
  | some .replaceEnd =>
    show EndsOnly s.tu (endReplace s).tu
    unfold endReplace
    dsimp only
    split
    · rw [enterLoad_tu]; rfl
    · rfl

/-- After step 3 only the fields that a motion's end sets move. -/
theorem runPeriod_tu (d : State) (before : LegState) : EndsOnly (moved d before).tu (runPeriod d before).tu :=
  actOnEnd_tu fun _ he => by rw [moved_pe]; exact (motion_end he).1

/-- A Setpoint is sent, with the mode of the state reached (R124, R136). -/
theorem moved_setpoint (d : State) (before : LegState) : ∃ p, (moved d before).tu.setpoint = some p ∧
    p.mode = motionMode (clampFoot (motion d before).1) := ⟨_, rfl, rfl⟩

theorem clampBox_inBox {s : State} (h : BoxSane s) (q : P3) : clampBox s q = inBox s q := by
  obtain ⟨⟨-, hx, -⟩, ⟨-, hy, -⟩, ⟨-, hz, -⟩⟩ := h
  rw [clampBox, inBox, clampInt_eq _ _ _ (by omega), clampInt_eq _ _ _ (by omega), clampInt_eq _ _ _ (by omega)]

/-! ## HOLD (R134, R154) -/

/-- Where the HOLD motion takes the foot (R134, R154). -/
def holdFoot (d : State) : P3 :=
  match holdMotion d with
  | .freeze | .held => d.tu.p
  | .lowering => { d.tu.p with z := lowerTo d.tu.p.z d.tu.stanceZ }
  | .descent => { d.tu.p with z := descentZ d }
  | .press => { x := d.tu.contact.x, y := d.tu.contact.y, z := max (d.tu.p.z - 250) (d.tu.contact.z - 10000) }

theorem moveHold_eq (d : State) : moveHold d = { d with tu := { d.tu with p := holdFoot d } } := by
  unfold moveHold holdFoot
  cases holdMotion d <;> rfl

/-- The decision of HOLD: a press that finds the foot LOADED is frozen (R154). -/
theorem decideHold_eq (d : State) : decideHold d = { d with tu := { d.tu with
    pressFrozen := d.tu.pressFrozen || (decide (d.pe.origin = some .load ∧ d.fsu.contact = .loaded)) } } := by
  unfold decideHold
  split
  next h => simp [h]
  next h => simp [h]

/-! ## The motions with the decisions of their states -/

/-- The Trajectory Unit after one period of a press (R134). -/
def pressTu (d : State) : Trajectory :=
  { d.tu with p := { x := d.tu.contact.x, y := d.tu.contact.y, z := max (d.tu.p.z - 250) (d.tu.contact.z - 10000) } }

/-- An expiry in LOAD of a foot that is not LOADED (R102, R134). -/
theorem period_load {d : State} (hleg : d.pe.leg = .load) (hcontact : d.fsu.contact ≠ .loaded) :
    runPeriod (decide2 d) .load = sent d (pressTu d) := by
  have hdecide : decide2 d = d := by
    rw [decide2, hleg]
    exact if_neg hcontact
  have hmotion : motion d .load = ({ d with tu := pressTu d }, none) := by
    rw [motion, hleg]
    rfl
  rw [hdecide, runPeriod_free (by rw [hleg]; nofun) (by rw [hleg]; rfl) hmotion]
  rfl

/-- An expiry in HOLD (R134, R154). -/
theorem period_hold {d : State} (hleg : d.pe.leg = .hold) :
    runPeriod (decide2 d) .hold = sent (decideHold d) { (decideHold d).tu with p := holdFoot (decideHold d) } := by
  have hdecide : decide2 d = decideHold d := by rw [decide2, hleg]
  have hleg' : (decideHold d).pe.leg = .hold := by rw [decideHold_eq]; exact hleg
  have hmotion : motion (decideHold d) .hold =
      ({ decideHold d with tu := { (decideHold d).tu with p := holdFoot (decideHold d) } }, none) := by
    rw [motion, hleg']
    exact congrArg (·, none) (moveHold_eq _)
  rw [hdecide, runPeriod_free (by rw [hleg']; nofun) (by rw [hleg']; rfl) hmotion]
  rfl

/-- A re-place end leaves the rise where it is (R100). -/
theorem endReplace_rise (s : State) : (endReplace s).tu.rise = s.tu.rise := by
  unfold endReplace
  dsimp only
  split
  · rw [enterLoad_tu]
  · rfl

theorem motionMode_soft {d : State} (h : d.pe.leg = .unload ∨ d.pe.leg = .search ∨ d.pe.leg = .load) :
    motionMode d = .soft := by
  unfold motionMode
  obtain h | h | h := h <;> rw [h]

theorem motionMode_position {d : State} (h : d.pe.leg = .stance ∨ d.pe.leg = .claim ∨ d.pe.leg = .swing) :
    motionMode d = .position := by
  unfold motionMode
  obtain h | h | h := h <;> rw [h]

/-- A Setpoint of a free motion, and where the foot is after the end of that motion. -/
theorem sent_ends {d : State} {T b : Trajectory} (h : EndsOnly (sent d T).tu b) :
    b.p = clampBox d T.p ∧ b.stub.j = T.stub.j ∧ b.plan.k = T.plan.k ∧ b.stanceLimit = T.stanceLimit ∧
      b.clampCond = T.clampCond ∧ b.stanceZ = T.stanceZ ∧
      ∃ p, b.setpoint = some p ∧ p.mode = motionMode { d with tu := { T with p := clampBox d T.p } } := by
  rw [h]
  exact ⟨rfl, rfl, rfl, rfl, rfl, rfl, _, rfl, rfl⟩

/-- The motions of SWING and SEARCH leave the stance fields (R126, R128). -/
theorem motion_limits {d : State} {before : LegState} (h : d.pe.leg = .swing ∨ d.pe.leg = .search) :
    ∃ T m, motion d before = ({ d with tu := T }, m) ∧ T.stanceLimit = d.tu.stanceLimit ∧ T.clampCond = d.tu.clampCond ∧
      T.stanceZ = d.tu.stanceZ := by
  obtain h | h := h
  · have hmotion : motion d before = moveSwing d before := by rw [motion, h]
    rw [hmotion]
    unfold moveSwing
    split
    · exact ⟨d.tu, none, rfl, rfl, rfl, rfl⟩
    · split
      · exact ⟨_, _, rfl, rfl, rfl, rfl⟩
      · exact ⟨_, _, rfl, rfl, rfl, rfl⟩
  · have hmotion : motion d before = moveSearch d := by rw [motion, h]
    rw [hmotion]
    unfold moveSearch
    split
    · exact ⟨_, _, rfl, rfl, rfl, rfl⟩
    · exact ⟨_, _, rfl, rfl, rfl, rfl⟩

/-- Settles O53: the foot by the leg state and its marks. -/
theorem footMoves : Obligations.FootMoves := by
  intro dt s k hk hdue hleg hbox foot press j r n
  obtain ⟨e, he⟩ : ∃ e, e = expiring s dt := ⟨_, rfl⟩
  obtain ⟨t, ht⟩ : ∃ t, t = runPeriod (decide2 e) s.pe.leg := ⟨_, rfl⟩
  have heleg : e.pe.leg = s.pe.leg := by rw [he]; rfl
  have hin (q : P3) : clampBox e q = inBox s q := by
    rw [he]; exact clampBox_inBox (s := s) hbox q
  have hends {d : State} {T : Trajectory} (hrun : moved (decide2 e) s.pe.leg = sent d T) : EndsOnly (sent d T).tu t.tu := by
    rw [← hrun, ht]; exact runPeriod_tu _ _
  obtain ⟨p, hsent⟩ : ∃ p, t.tu.setpoint = some p := by
    obtain ⟨p, hp, -⟩ := moved_setpoint (decide2 e) s.pe.leg
    have hends : EndsOnly (moved (decide2 e) s.pe.leg).tu t.tu := ht ▸ runPeriod_tu _ _
    exact ⟨p, hends ▸ hp⟩
  have hmode {m : Mode} (h : ∃ q, t.tu.setpoint = some q ∧ q.mode = m) : p.mode = m := by
    obtain ⟨q, hq, hm⟩ := h
    rwa [Option.some.inj (hsent.symm.trans hq)]
  have hmoving (h : s.pe.leg = .swing ∨ s.pe.leg = .search) : decide2 e = e := decide2_moving (by rwa [heleg])
  have hfree {T : Trajectory} {m : Option MotionEnd} (h : s.pe.leg = .swing ∨ s.pe.leg = .search)
      (hmotion : motion e s.pe.leg = ({ e with tu := T }, m)) : moved (decide2 e) s.pe.leg = sent e T := by
    rw [hmoving h]
    refine moved_moving (congrArg Prod.fst hmotion) ?_ ?_
    all_goals
      rw [heleg]
      obtain h | h := h <;> rw [h]
    exacts [nofun, nofun, rfl, rfl]
  refine ⟨t, p, by rw [exec_expiry hk hdue hleg, ht, he], hsent, fun hswing hrise => ?_, fun hsearch hrise => ?_,
    fun hsearch hrise => ?_, fun hload hcontact => ?_, fun hhold => ?_, fun hlegs => ?_⟩
  · have hmotion : motion e s.pe.leg = _ := hswing ▸ motion_stubRise (heleg.trans hswing) (by rw [he]; exact hrise)
    have hrun := hfree (.inl hswing) hmotion
    obtain ⟨hp, hj, hk, -, -, -, hset⟩ := sent_ends (hends hrun)
    refine ⟨hp.trans ((hin _).trans ?_), hj.trans ?_, hk.trans ?_, ?_⟩
    · rw [he]; rfl
    · rw [he]; rfl
    · rw [he]; rfl
    · exact (hmode hset).trans (motionMode_position (.inr (.inr (heleg.trans hswing))))
  · obtain ⟨hp, -, -, -, -, -, hset⟩ := sent_ends (hends (hfree (.inr hsearch)
      (motion_descent _ (heleg.trans hsearch) (by rw [he]; exact hrise))))
    refine ⟨hp.trans ((hin _).trans ?_), (hmode hset).trans (motionMode_soft (.inr (.inl (heleg.trans hsearch))))⟩
    rw [he]; rfl
  · have hmotion := motion_replace s.pe.leg (heleg.trans hsearch) (by rw [he]; exact hrise)
    have hrun := hfree (.inr hsearch) hmotion
    obtain ⟨hp, -, -, -, -, -, hset⟩ := sent_ends (hends hrun)
    refine ⟨hp.trans ((hin _).trans ?_), ?_, (hmode hset).trans (motionMode_soft (.inr (.inl (heleg.trans hsearch))))⟩
    · rw [he]; rfl
    · rw [ht, runPeriod, hrun, hmoving (.inr hsearch), hmotion]
      dsimp only
      split
      · rw [actOnEnd, endReplace_rise]
        rw [he]; rfl
      · rw [he]; rfl
  · have hrun : t = sent e (pressTu e) := by
      rw [ht, hload]
      exact period_load (heleg.trans hload) (by rw [he]; exact hcontact)
    obtain ⟨hp, -, -, -, -, -, hset⟩ := sent_ends (T := pressTu e) (b := t.tu) (by rw [hrun]; rfl)
    refine ⟨hp.trans ((hin _).trans ?_), (hmode hset).trans (motionMode_soft (.inr (.inr (heleg.trans hload))))⟩
    rw [he]; rfl
  · obtain ⟨d, hd⟩ : ∃ d, d = decideHold e := ⟨_, rfl⟩
    have hrun : t = sent d { d.tu with p := holdFoot d } := by
      rw [ht, hhold, hd]
      exact period_hold (heleg.trans hhold)
    have hdtu : d.tu = { (elapse s dt).tu with
        pressFrozen := s.tu.pressFrozen || (decide (s.pe.origin = some .load ∧ s.fsu.contact = .loaded)) } := by
      rw [hd, decideHold_eq, he]; rfl
    have hdpe : d.pe = e.pe := by rw [hd, decideHold_eq]
    have horigin : d.pe.origin = s.pe.origin := by rw [hdpe, he]; rfl
    have hdescent : descentZ d = descentZ s := by rw [hd, decideHold_eq, he]; rfl
    have hfrozen : t.tu.pressFrozen = d.tu.pressFrozen := by rw [hrun]; rfl
    have hp : t.tu.p = inBox s (holdFoot d) := by
      rw [hrun, ← hin, hd, decideHold_eq]; rfl
    have hmode : p.mode = if holdMotion d = .freeze then .position else .soft := by
      refine hmode ⟨_, congrArg (fun u => u.tu.setpoint) hrun, ?_⟩
      show motionMode _ = _
      unfold motionMode
      rw [show d.pe.leg = .hold by rw [hdpe, heleg, hhold]]
      rfl
    refine ⟨fun ho => ?_, fun ho => ?_, fun ho => ?_, fun ho => ?_, ?_, ?_⟩
    · have hmo : holdMotion d = .freeze := by
        unfold holdMotion
        rw [horigin]
        obtain ho | ho := ho <;> rw [ho]
      rw [hp, hmode, if_pos hmo, holdFoot, hmo, hdtu]
      exact ⟨rfl, rfl⟩
    · have hmo : holdMotion d = .lowering := by rw [holdMotion, horigin, ho]
      rw [hp, hmode, if_neg (by rw [hmo]; nofun), holdFoot, hmo, hdtu]
      exact ⟨rfl, rfl⟩
    · have hmo : holdMotion d = if s.tu.descentStopped then .held else .descent := by
        have hstopped : d.tu.descentStopped = s.tu.descentStopped := by rw [hdtu]; rfl
        rw [← hstopped]
        unfold holdMotion
        rw [horigin]
        obtain ho | ho := ho <;> rw [ho]
      rw [hp, hmode, holdFoot, hmo, hdescent, hdtu]
      cases s.tu.descentStopped <;> exact ⟨rfl, rfl⟩
    · have hmo : holdMotion d = if d.tu.pressFrozen then .freeze else .press := by rw [holdMotion, horigin, ho]
      rw [hp, hmode, holdFoot, hmo, hfrozen]
      refine ⟨?_, ?_, ?_⟩
      · rw [hdtu]
        simp only [ho, true_and]
        rfl
      · cases hfr : d.tu.pressFrozen with
        | true => rw [hdtu]; rfl
        | false => rw [hdtu]; rfl
      · cases d.tu.pressFrozen <;> rfl
    · rw [hrun, ← he, ← hdpe]; rfl
    · rw [hrun]
      show d.tu.lowering = _
      rw [hdtu]; rfl
  · obtain hhold | hlegs := hlegs
    · have hrun : t = sent (decideHold e) { (decideHold e).tu with p := holdFoot (decideHold e) } := by
        rw [ht, hhold]
        exact period_hold (heleg.trans hhold)
      rw [hrun, decideHold_eq, he]
      exact ⟨rfl, rfl, rfl⟩
    · obtain ⟨T, m, hmotion, hlimit, hcond, hz⟩ := motion_limits (d := e) (before := s.pe.leg) (by rwa [heleg])
      obtain ⟨-, -, -, hlimit', hcond', hz', -⟩ := sent_ends (hends (hfree hlegs hmotion))
      rw [hlimit', hcond', hz', hlimit, hcond, hz, he]
      exact ⟨rfl, rfl, rfl⟩

end Sys2Proof.FootMotions
end

section
/-! The decisions of an expiry judge records and move no condition but those of silence (R53, R54, R79); the foot of a leg
that stands (R118 to R128). -/

-- Elaborated in order: elaborated at once, the many proofs here take more threads than the check has memory for.
set_option Elab.async false

namespace Sys2Proof.StandingFeet
open Sys2Proof Sys2Proof.Machine Sys2Proof.Laws Sys2Proof.Keeping Sys2Proof.IntentStorage Sys2Proof.FaultCommands
  Sys2Proof.ClassAFaults Sys2Proof.LineFaults Sys2Proof.PeerFrames Sys2Proof.Telling Sys2Proof.Reading Sys2Proof.Deadlines
  Sys2Proof.LegMoves Sys2Proof.LiftTests Sys2Proof.SupportChecks Sys2Proof.Expiries Sys2Proof.FootMotions

/-! ## The decisions, as reads -/

section Judging
variable {s t : State}

/-- A change of the leg, of the check and of the motion beside the reads. -/
theorem judged_moves (hleg : s.pe.leg ≠ .setup) {p : PhaseEngine} (hp : p.leg ≠ .setup) (c : SupportUnit) (T : Trajectory) :
    Judged s { s with pe := p, scu := c, tu := T } :=
  .still rfl rfl rfl rfl rfl (by
    simp only [logBasis, letIn_congr (s := s) (t := { s with pe := p, scu := c, tu := T }) hleg hp rfl]) rfl

theorem judged_notice (hleg : s.pe.leg ≠ .setup) (f : TxFrame) : Judged s (placeFrame s f) := by
  obtain ⟨htime, hsbi, hsetup, hpt, hfsu, -⟩ := placeFrame_frame s f
  have hflt := placeFrame_flt s f
  have hleg' : (placeFrame s f).pe.leg ≠ .setup := by
    obtain h | ⟨-, h⟩ := placeFrame_leg s f
    · rwa [h]
    · rw [h]; nofun
  refine .still htime hsbi hsetup hfsu hpt ?_ (by rw [hflt])
  simp only [logBasis, letIn_congr hleg hleg' hsetup, htime]
  rw [hflt]

/-- Records judged by a node after setup, which stays after setup. -/
def Judges (s t : State) : Prop := Judged s t ∧ t.pe.leg ≠ .setup

theorem judges_reads {p : PhaseEngine} (h : Reads s t) (hleg : s.pe.leg ≠ .setup) (hp : p.leg ≠ .setup) (c : SupportUnit)
    (T : Trajectory) : Judges s { t with pe := p, scu := c, tu := T } :=
  ⟨h.judged.trans (judged_moves (by rwa [h.pe]) hp c T), hp⟩

theorem Judges.trans {u : State} (h : Judges s t) (h' : t.pe.leg ≠ .setup → Judges t u) : Judges s u :=
  ⟨h.1.trans (h' h.2).1, (h' h.2).2⟩

theorem judges_changePoint (hleg : s.pe.leg ≠ .setup) : Judges s (changePoint s) := by
  have hread := reads_judgeRole s .mission
  have h := judges_reads hread hleg (p := changedPe s (effIntent (aged s))) hleg (judgeRole s .mission).scu
    (judgeRole s .mission).tu
  rwa [changePoint_eq]

theorem judges_recordTurn (hleg : s.pe.leg ≠ .setup) : Judges s (recordTurn s) := by
  obtain ⟨r, hread, hturn⟩ := recordTurn_reads s
  rw [hturn]
  exact judges_reads hread hleg (p := { s.pe with turn := turnRead s s.pe.applied.gait }) hleg r.scu r.tu

theorem judges_fillTurn (hleg : s.pe.leg ≠ .setup) : Judges s (fillTurn s) := by
  unfold fillTurn
  split
  exacts [judges_recordTurn hleg, ⟨.refl s, hleg⟩]

theorem judges_requestCheck (hleg : s.pe.leg ≠ .setup) : Judges s (requestCheck s) := by
  have hread : Reads s (judgeRole (judgeLegs s) .body) := (reads_judgeLegs s).trans (reads_judgeRole _ .body)
  refine judges_reads hread hleg (p := { (judgeRole (judgeLegs s) .body).pe with checkPending := true }) ?_ _ _
  show (judgeRole (judgeLegs s) .body).pe.leg ≠ .setup
  rwa [hread.pe]

/-- STANCE after the change point and the turn record (R80, R84). -/
def settledStance (s : State) : State := fillTurn (if s.pe.applied.gait = .stand then changePoint s else s)

theorem decideStance_pending (h : (settledStance s).pe.checkPending = true) : decideStance s = settledStance s := if_pos h

theorem decideStance_waits {w : WaitReason} (h : (settledStance s).pe.checkPending = false)
    (hw : (liftConditions (settledStance s)).2 = some w) : decideStance s =
      { (liftConditions (settledStance s)).1 with pe := (liftConditions (settledStance s)).1.pe.withWait w } := by
  refine (if_neg (Bool.eq_false_iff.1 h)).trans ?_
  show (match liftConditions (settledStance s) with
    | (u, some w) => { u with pe := u.pe.withWait w }
    | (u, none) => requestCheck u) = _
  split
  next u v hu => rw [hu] at hw ⊢; rw [Option.some.inj hw]
  next u hu => rw [hu] at hw; cases hw

theorem decideStance_requests (h : (settledStance s).pe.checkPending = false)
    (hw : (liftConditions (settledStance s)).2 = none) :
    decideStance s = requestCheck (liftConditions (settledStance s)).1 := by
  refine (if_neg (Bool.eq_false_iff.1 h)).trans ?_
  show (match liftConditions (settledStance s) with
    | (u, some w) => { u with pe := u.pe.withWait w }
    | (u, none) => requestCheck u) = _
  split
  next u v hu => rw [hu] at hw; cases hw
  next u hu => rw [hu]

theorem judges_settledStance (hleg : s.pe.leg ≠ .setup) : Judges s (settledStance s) := by
  have hchanged : Judges s (if s.pe.applied.gait = .stand then changePoint s else s) := by
    split
    exacts [judges_changePoint hleg, ⟨.refl s, hleg⟩]
  exact hchanged.trans judges_fillTurn

theorem judges_decideStance (hleg : s.pe.leg ≠ .setup) : Judges s (decideStance s) := by
  refine (judges_settledStance hleg).trans fun hleg => ?_
  have hread := reads_liftConditions (settledStance s)
  cases hpend : (settledStance s).pe.checkPending with
  | true => rw [decideStance_pending hpend]; exact ⟨.refl _, hleg⟩
  | false =>
    cases hw : (liftConditions (settledStance s)).2 with
    | some w =>
      rw [decideStance_waits hpend hw]
      exact judges_reads hread hleg (p := (liftConditions (settledStance s)).1.pe.withWait w)
        (by rw [hread.pe]; exact hleg) _ _
    | none =>
      rw [decideStance_requests hpend hw]
      exact Judges.trans ⟨hread.judged, by rwa [hread.pe]⟩ judges_requestCheck

theorem reads_nearbyTests (s : State) : Reads s (nearbyTests s).1 := by
  unfold nearbyTests
  dsimp only
  split
  · exact (reads_judgeLegs s).trans (reads_judgeRole _ .body)
  · exact reads_judgeLegs s

theorem judges_notice (hleg : s.pe.leg ≠ .setup) (f : TxFrame) : Judges s (placeFrame s f) := by
  refine ⟨judged_notice hleg f, ?_⟩
  obtain h | ⟨-, h⟩ := placeFrame_leg s f
  · rwa [h]
  · rw [h]; nofun

theorem judges_decideUnload (hleg : s.pe.leg ≠ .setup) : Judges s (decideUnload s) := by
  unfold decideUnload
  dsimp only
  split
  · exact judges_reads (reads_judgeRole s .mission) hleg (by nofun) _ _
  · split
    · exact ⟨.refl s, hleg⟩
    · have hread := reads_nearbyTests s
      split
      · exact Judges.trans ⟨hread.judged, by rwa [hread.pe]⟩ judges_requestCheck
      · refine Judges.trans (t := { (nearbyTests s).1 with
            pe := cancelledPe (nearbyTests s).1, tu := { (nearbyTests s).1.tu with lowering := true } }) ?_ ?_
        · exact judges_reads hread hleg (by nofun) _ _
        · exact fun hleg => judges_notice hleg _

theorem judges_enterStance (hleg : s.pe.leg ≠ .setup) (notice : Bool) : Judges s (enterStance s notice) := by
  obtain ⟨r, hread, -, henter⟩ := enterStance_reads s hleg
  have hstance : Judges s { r with pe := stancePe s } := judges_reads hread hleg (by nofun) r.scu r.tu
  rw [henter]
  split
  · exact hstance.trans fun hleg => judges_notice hleg _
  · exact hstance

/-- Step 2 of an expiry judges records, and moves besides the leg, the check, the motion and the queue (R79). -/
theorem judges_decide2 (hleg : s.pe.leg ≠ .setup) : Judges s (decide2 s) := by
  unfold decide2
  split
  · exact judges_decideStance hleg
  · exact judges_decideUnload hleg
  · split
    exacts [judges_enterStance hleg true, ⟨.refl s, hleg⟩]
  · rw [decideHold_eq]
    exact judges_reads (.refl s) hleg hleg _ _
  · exact ⟨.refl s, hleg⟩

end Judging

/-! ## The watch of the clamp (R128) -/

/-- The event of a clamp that begins (R128, R150). -/
def clampNotes (s : State) (clamped : Bool) : List Note :=
  if clamped && !s.tu.clampCond then latchNote s .workspaceClamp else []

theorem watchClamp_spec (s : State) (a : Axes) :
    let t := watchClamp s a
    t.tu = { s.tu with stanceLimit := a.any, clampCond := a.any } ∧ t.pe = s.pe ∧ Tells s t (clampNotes s a.any) ∧
      t.flt.conds[FaultCode.workspaceClamp.idx] =
        if a.any = s.tu.clampCond then s.flt.conds[FaultCode.workspaceClamp.idx] else a.any := by
  unfold clampNotes
  cases hany : a.any with
  | false =>
    have hnot : ¬ a.any = true := Bool.eq_false_iff.1 hany
    cases hcond : s.tu.clampCond with
    | false =>
      have hw : watchClamp s a = { s with tu := { s.tu with stanceLimit := a.any } } :=
        (if_neg hnot).trans (if_neg (Bool.eq_false_iff.1 hcond))
      rw [hw, hany]
      exact ⟨by rw [← hcond], rfl, .still, rfl⟩
    | true =>
      have hw : watchClamp s a =
          endFault { s with tu := { s.tu with stanceLimit := a.any, clampCond := false } } .workspaceClamp :=
        (if_neg hnot).trans (if_pos hcond)
      rw [hw, hany]
      exact ⟨rfl, rfl, .still, Vector.getElem_set_self _⟩
  | true =>
    cases hcond : s.tu.clampCond with
    | false =>
      obtain ⟨u, hu⟩ : ∃ u : State, u = { s with tu := { s.tu with stanceLimit := a.any, clampCond := true } } := ⟨_, rfl⟩
      have hw : watchClamp s a = reportFault u (.workspaceClamp a) := by
        rw [hu]
        exact (if_pos hany).trans (if_neg (Bool.eq_false_iff.1 hcond))
      have htells := Tells.of_reportFault (s := u) (r := .workspaceClamp a)
      have hnote : reportNotes u (.workspaceClamp a) = latchNote s .workspaceClamp := by rw [hu]; exact List.append_nil _
      rw [hnote] at htells
      obtain ⟨-, hconds, -⟩ := reportFault_flt u (.workspaceClamp a)
      rw [hw]
      refine ⟨by rw [reportFault_tu u _ rfl, hu, hany], by rw [reportFault_pe u _ rfl, hu], ?_, ?_⟩
      · exact (Tells.still (s := s) (t := u) (by rw [hu]; rfl) (by rw [hu]; rfl)).trans htells
      · rw [hconds]
        exact Vector.getElem_set_self _
    | true =>
      have hw : watchClamp s a = { s with tu := { s.tu with stanceLimit := a.any } } :=
        (if_pos hany).trans (if_pos hcond)
      rw [hw, hany]
      exact ⟨by rw [← hcond], rfl, .still, rfl⟩

/-! ## One period of a leg that stands (R118 to R128) -/

/-- The records as the motion of a standing leg finds them (R56). -/
def footReads (d : State) : State := judgeRole (judgeLegs d) .mission

/-- The point to which a standing foot moves, before the clamp (R119, R120, R125 to R127). -/
def standingFoot (d : State) (before : LegState) : P3 :=
  let r := footReads d
  let st := if stanceFrozen r then { x := 0, y := 0 } else stanceStep (effIntent r) r.tu.p
  let sw := swayStep r (followed r)
  { x := r.tu.p.x + st.x + sw.x, y := r.tu.p.y + st.y + sw.y, z := (stanceZMove r before (effIntent r)).1 }

theorem reads_footReads (d : State) : Reads d (footReads d) := (reads_judgeLegs d).trans (reads_judgeRole _ .mission)

theorem footReads_mission (d : State) (n : Fin 8) (hn : d.stationOf .mission = some n) :
    (footReads d).record n = (aged d).record n := by
  have hlegs := reads_judgeLegs d
  rw [footReads, judgeRole_record, stationOf_congr hlegs.setup, if_pos hn, hlegs.aged_record]

theorem footReads_leg (d : State) (n : Fin 8) (hn : n ≠ d.sbi.station) (hl : (d.legOf n).isSome = true) :
    (footReads d).record n = (aged d).record n :=
  Reads.found_mono (judgeLegs_found hn hl) (reads_judgeLegs d) (reads_judgeRole _ .mission)

theorem clampBox_congr {s t : State} (h : t.setup = s.setup) (q : P3) : clampBox t q = clampBox s q := by
  simp only [clampBox, State.boxXMin, State.boxXMax, State.boxYMin, State.boxYMax, State.boxZMin, State.boxZMax,
    State.sword, h]

/-- An expiry in a leg that stands after step 2: what its motion, its clamp and its Setpoint leave (R79, R128). -/
theorem standing_run {d : State} (before : LegState) (hstand : d.pe.leg.standing = true) :
    let t := runPeriod d before
    let q := standingFoot d before
    let c := decide (clampBox d q ≠ q)
    t.pe = d.pe ∧ t.scu = d.scu ∧ t.pt = (footReads d).pt ∧ t.time = d.time ∧ t.sbi = d.sbi ∧ t.setup = d.setup ∧
      t.fsu = d.fsu ∧ Tells (footReads d) t (clampNotes (footReads d) c) ∧
      t.flt.conds[FaultCode.workspaceClamp.idx] =
        (if c = d.tu.clampCond then (footReads d).flt.conds[FaultCode.workspaceClamp.idx] else c) ∧
      t.tu.p = clampBox d q ∧
      t.tu.lowering = (stanceZMove (footReads d) before (effIntent (footReads d))).2 ∧ t.tu.stanceZ = d.tu.stanceZ ∧
      t.tu.stanceLimit = c ∧ t.tu.clampCond = c ∧
      ∃ p, t.tu.setpoint = some p ∧ p.mode = if d.pe.leg = .unload then .soft else .position := by
  intro t q c
  have hread := reads_footReads d
  obtain ⟨m, hm⟩ : ∃ m : State, m = { footReads d with tu := { (footReads d).tu with
      p := clampBox d q, lowering := (stanceZMove (footReads d) before (effIntent (footReads d))).2 } } := ⟨_, rfl⟩
  obtain ⟨a, ha⟩ : ∃ a : Axes, a =
      { x := (clampBox d q).x != q.x, y := (clampBox d q).y != q.y, z := (clampBox d q).z != q.z } := ⟨_, rfl⟩
  have hany : a.any = c := by
    have hne (p p' : P3) : ((p.x != p'.x || p.y != p'.y) || p.z != p'.z) = decide (p ≠ p') := by
      rw [Bool.eq_iff_iff]
      cases p
      cases p'
      simp [imp_iff_not_or, or_assoc]
    rw [ha]
    exact hne _ _
  have hmotion : motion d before = (moveStanding d before, none) := by
    unfold motion
    cases hl : d.pe.leg <;> rw [hl] at hstand <;> first | rfl | cases hstand
  have hclamp : clampFoot (moveStanding d before) = watchClamp m a := by
    have hleg : (moveStanding d before).pe.leg = d.pe.leg := congrArg PhaseEngine.leg hread.pe
    have hbox : clampBox (moveStanding d before) (moveStanding d before).tu.p = clampBox d q :=
      clampBox_congr (t := moveStanding d before) hread.setup _
    rw [clampFoot, if_neg (by rw [hleg]; intro h; rw [h] at hstand; cases hstand), hbox, hm, ha]
    exact if_pos (by rw [← hleg] at hstand; exact hstand)
  have hrun : t = sendSetpoint (watchClamp m a) := by
    show actOnEnd (moved d before) (motion d before).2 = _
    rw [moved, hmotion, hclamp]
    rfl
  obtain ⟨htu, hpe, htells, hcond⟩ := watchClamp_spec m a
  obtain ⟨htime, hsbi, hsetup, hpt, hfsu, hscu, -⟩ := watchClamp_frame m a
  have hsent : Tells (watchClamp m a) t [] := by rw [hrun]; exact .still
  have hstill : Tells (footReads d) m [] := by rw [hm]; exact .still
  have htold := (hstill.trans htells).trans hsent
  rw [List.append_nil, List.nil_append, hany] at htold
  rw [hrun] at htold ⊢
  have hmtu : m.tu.clampCond = d.tu.clampCond ∧ m.tu.stanceZ = d.tu.stanceZ := by
    rw [hm, ← hread.tu]; exact ⟨rfl, rfl⟩
  have hnotes : clampNotes m c = clampNotes (footReads d) c := by rw [hm]; rfl
  refine ⟨hpe.trans (by rw [hm]; exact hread.pe), hscu.trans (by rw [hm]; exact hread.scu), hpt.trans (by rw [hm]),
    htime.trans (by rw [hm]; exact hread.time), hsbi.trans (by rw [hm]; exact hread.sbi),
    hsetup.trans (by rw [hm]; exact hread.setup), hfsu.trans (by rw [hm]; exact hread.fsu), hnotes ▸ htold, ?_, ?_, ?_, ?_,
    ?_, ?_, ?_⟩
  · show (watchClamp m a).flt.conds[FaultCode.workspaceClamp.idx] = _
    rw [hcond, hany, hmtu.1, hm]
  · show (watchClamp m a).tu.p = _
    rw [htu, hm]
  · show (watchClamp m a).tu.lowering = _
    rw [htu, hm]
  · show (watchClamp m a).tu.stanceZ = _
    rw [htu]
    exact hmtu.2
  · show (watchClamp m a).tu.stanceLimit = _
    rw [htu, hany]
  · show (watchClamp m a).tu.clampCond = _
    rw [htu, hany]
  · refine ⟨_, rfl, ?_⟩
    have hleg : (watchClamp m a).pe.leg = d.pe.leg := by rw [hpe, hm]; exact congrArg PhaseEngine.leg hread.pe
    show motionMode (watchClamp m a) = _
    unfold motionMode
    rw [hleg]
    cases hl : d.pe.leg <;> rw [hl] at hstand <;> first | rfl | cases hstand

/-! ## Sway and freeze, by the age of the records (R118 to R120, R127) -/

/-- The first station, in order, for which there is a value. -/
theorem findSome_stations {α : Type} {f : Fin 8 → Option α} {n : Fin 8} {v : α} (hv : f n = some v)
    (hnone : ∀ m, m < n → f m = none) : stations.findSome? f = some v := by
  have hsplit : ∀ n : Fin 8, stations = stations.take n ++ n :: stations.drop (n + 1) ∧
      ∀ m ∈ stations.take n, m < n := by decide
  obtain ⟨hl, hbefore⟩ := hsplit n
  rw [hl, List.findSome?_append, List.findSome?_eq_none_iff.2 fun m hm => hnone m (hbefore m hm), Option.none_or,
    List.findSome?_cons, hv]

section ByAge
variable {d t : State} (hpe : t.pe = d.pe) (hsbi : t.sbi = d.sbi) (hpt : t.pt = (footReads d).pt) (htime : t.time = d.time)
  (hsetup : t.setup = d.setup)
include hpt htime hsetup

/-- What the motion has read is what the records of the state it leaves say, by their age. -/
theorem aged_record_of_footReads (n : Fin 8) : (aged t).record n = (aged d).record n := by
  have hread := reads_footReads d
  rw [aged_record_congr (s := footReads d) (by rw [htime, hread.time]) (by rw [hsetup, hread.setup]) (by rw [hpt]),
    hread.aged_record]

omit htime hsetup in
theorem legOf_of_footReads (n : Fin 8) : (aged t).legOf n = (footReads d).legOf n := by
  rw [legOf_aged, State.legOf, State.record, hpt]
  rfl

theorem fresh_of_footReads {n : Fin 8} {l : LegPart} (hn : n ≠ d.sbi.station) (hl : (footReads d).legOf n = some l) :
    Machine.fresh (aged t) n = Machine.fresh (footReads d) n := by
  refine fresh_congr (s := footReads d) (t := aged t) ?_
  rw [aged_record_of_footReads hpt htime hsetup,
    footReads_leg d n hn (by rw [(reads_footReads d).legOf] at hl; rw [hl]; rfl)]

theorem effIntent_of_footReads : effIntent (aged t) = effIntent (footReads d) := by
  have hread := reads_footReads d
  refine effIntent_congr (t := aged t) (s := footReads d) (hsetup.trans hread.setup.symm) fun n hn => ?_
  rw [aged_record_of_footReads hpt htime hsetup, footReads_mission d n (by rwa [stationOf_congr hread.setup] at hn)]

include hpe hsbi

theorem swayCandidate_iff (n : Fin 8) (v : P2) : SwayCandidate (aged t) n v ↔ swayOf (footReads d) n = some v := by
  have hread := reads_footReads d
  have hunit (r : Int) : swayUnit r = max (-127) (min 127 (r.tdiv 2)) := clampInt_eq _ _ _ (by omega)
  unfold SwayCandidate swayOf
  have hst : (aged t).sbi.station = (footReads d).sbi.station := by
    show t.sbi.station = _
    rw [hsbi, hread.sbi]
  rw [hst]
  by_cases hn : n = (footReads d).sbi.station
  · rw [if_pos hn, if_pos hn]
    have hown : (aged t).pe.ownSway = (footReads d).pe.ownSway := by
      show t.pe.ownSway = _
      rw [hpe, hread.pe]
    rw [hown, Option.map_eq_some_iff]
    simp only [hunit]
    exact exists_congr fun r => and_congr_right fun _ => eq_comm
  · rw [if_neg hn, if_neg hn, Option.map_eq_some_iff]
    rw [hread.sbi] at hn
    constructor
    · rintro ⟨l, u, hl, hf, hu, rfl⟩
      rw [legOf_of_footReads hpt] at hl
      rw [fresh_of_footReads hpt htime hsetup hn hl] at hf
      exact ⟨u, by rw [freshLeg, if_pos hf, hl]; exact hu, rfl⟩
    · rintro ⟨u, hu, rfl⟩
      obtain ⟨l, hl, hu⟩ := Option.bind_eq_some_iff.1 hu
      unfold freshLeg at hl
      split at hl
      next hf =>
        exact ⟨l, u, by rw [legOf_of_footReads hpt, hl],
          by rw [fresh_of_footReads hpt htime hsetup hn hl]; exact hf, hu, rfl⟩
      next => cases hl

/-- The sway of the period (R119, R120). -/
theorem swayStep_is : SwayIs (aged t) (swayStep (footReads d) (followed (footReads d))) := by
  have hread := reads_footReads d
  have hrate : (aged t).swayRate = (footReads d).swayRate := by
    have h : (aged t).setup = (footReads d).setup := hsetup.trans hread.setup.symm
    simp only [State.swayRate, State.uword, h]
  have hclamp (r : Int) : clampInt (-((footReads d).swayRate * 2 : Int)) ((footReads d).swayRate * 2) (-r * 1000) =
      max (-((footReads d).swayRate * 2 : Int)) (min ((footReads d).swayRate * 2) (-r * 1000)) :=
    clampInt_eq _ _ _ (by omega)
  unfold SwayIs
  rw [hrate]
  refine ⟨fun hnone => ?_, fun n v hv hbefore => ?_⟩
  · have hfollowed : followed (footReads d) = none := by
      refine List.findSome?_eq_none_iff.2 fun n _ => Option.eq_none_iff_forall_ne_some.2 fun v hv => ?_
      exact hnone n v ((swayCandidate_iff hpe hsbi hpt htime hsetup n v).2 hv)
    rw [hfollowed]
    rfl
  · have hfollowed : followed (footReads d) = some v := by
      refine findSome_stations ((swayCandidate_iff hpe hsbi hpt htime hsetup n v).1 hv) fun m hm => ?_
      exact Option.eq_none_iff_forall_ne_some.2 fun w hw =>
        hbefore m w hm ((swayCandidate_iff hpe hsbi hpt htime hsetup m w).2 hw)
    rw [hfollowed]
    show ({ x := clampInt _ _ _, y := clampInt _ _ _ } : P2) = _
    rw [hclamp, hclamp]

omit hpe in
theorem stanceFrozen_iff {s : State} (hfrozen : d.tu.frozen = s.tu.frozen) (hlimit : d.tu.stanceLimit = s.tu.stanceLimit) :
    StanceFrozen s (aged t) ↔ stanceFrozen (footReads d) = true := by
  have hread := reads_footReads d
  have hpeers : peerAtLimit (footReads d) = true ↔ ∃ n l, n ≠ (aged t).sbi.station ∧ (aged t).legOf n = some l ∧
      Machine.fresh (aged t) n = true ∧ l.stanceLimit = true := by
    have hst : (aged t).sbi.station = d.sbi.station := by
      show t.sbi.station = _
      rw [hsbi]
    rw [peerAtLimit, List.any_eq_true, hst]
    refine exists_congr fun n => ?_
    rw [mem_peers, hread.sbi]
    constructor
    · rintro ⟨hn, hlim⟩
      cases hl : freshLeg (footReads d) n with
      | none => rw [hl] at hlim; cases hlim
      | some l =>
        rw [hl] at hlim
        unfold freshLeg at hl
        split at hl
        next hf =>
          exact ⟨l, hn, by rw [legOf_of_footReads hpt, hl],
            by rw [fresh_of_footReads hpt htime hsetup hn hl]; exact hf, hlim⟩
        next => cases hl
    · rintro ⟨l, hn, hl, hf, hlim⟩
      rw [legOf_of_footReads hpt] at hl
      rw [fresh_of_footReads hpt htime hsetup hn hl] at hf
      exact ⟨hn, by rw [freshLeg, if_pos hf, hl]; exact hlim⟩
  rw [StanceFrozen, stanceFrozen, Bool.or_eq_true, Bool.or_eq_true, hread.tu, hfrozen, hlimit, hpeers, or_assoc]

end ByAge

/-! ## The foot of a standing leg -/

/-- A decision that leaves the leg standing moves of the Trajectory Unit the lowering mark alone, at a cancel (R92). -/
theorem decide2_tu_standing {s : State} (h : (decide2 s).pe.leg.standing = true) :
    (decide2 s).tu = { s.tu with
      lowering := decide (s.pe.leg = .unload ∧ (decide2 s).pe.leg = .stance) || s.tu.lowering } := by
  by_cases hleg : s.pe.leg = .unload
  · rw [hleg]
    have hdecide : decide2 s = decideUnload s := by rw [decide2, hleg]
    rw [hdecide] at h ⊢
    have hstays {u : State} (hu : Reads s u) (hleg' : u.pe.leg = .unload) : u.tu = { s.tu with
        lowering := decide (LegState.unload = .unload ∧ u.pe.leg = .stance) || s.tu.lowering } := by
      rw [hleg', hu.tu]
      rfl
    unfold decideUnload at h ⊢
    dsimp only at h ⊢
    split at h
    next => cases h
    next hloaded =>
      rw [if_neg hloaded]
      split
      · exact hstays (.refl s) hleg
      · have hread := reads_nearbyTests s
        split
        · obtain ⟨-, -, -, -, htu, -⟩ := requestCheck_frame (nearbyTests s).1
          have hleg' : (requestCheck (nearbyTests s).1).pe.leg = .unload := by
            show (judgeRole (judgeLegs (nearbyTests s).1) .body).pe.leg = _
            rw [judgeRole_pe, judgeLegs_pe, hread.pe, hleg]
          rw [htu, hread.tu, hleg']
          rfl
        · obtain ⟨hpe, htu, -⟩ := cancelUnload_spec (nearbyTests s).1
          rw [htu, hpe, hread.tu]
          rfl
  · have htu : (decide2 s).tu = s.tu := by
      unfold decide2 at h ⊢
      split
      next => exact (decideStance_frame s).2.2.2.2.1
      next hl => exact absurd hl hleg
      next =>
        split
        · exact (enterStance_frame s true).2.2.2.2.2.1
        · rfl
      next hl =>
        rw [hl, decideHold_eq] at h
        rw [show (LegState.standing (State.pe _).leg) = s.pe.leg.standing from rfl, hl] at h
        cases h
      next => rfl
    rw [htu, decide_eq_false fun h => hleg h.1, Bool.false_or]

/-- An expiry that leaves the leg not standing after step 2 does not make it stand (R79). -/
theorem runPeriod_not_standing {d : State} (before : LegState) (h : d.pe.leg.standing = false) :
    (runPeriod d before).pe.leg.standing = false := by
  have hleg := congrArg PhaseEngine.leg (moved_pe d before)
  rw [runPeriod]
  cases hm : (motion d before).2 with
  | none => rwa [actOnEnd, hleg]
  | some m =>
    obtain ⟨hend, -⟩ := motion_end hm
    have hmoves := periodic_actOnEnd (moved d before) m (by rwa [hleg])
    rw [Periodic, Acts, Yields, Lands, Stands, hleg] at hmoves
    obtain (⟨-, e | ⟨e, -⟩ | ⟨-, e⟩⟩ | ⟨-, e, -⟩ | ⟨e, -, -⟩) | ⟨-, ⟨e, -⟩ | ⟨-, e⟩⟩ := hmoves
    · rwa [e]
    · rw [e] at h; cases h
    · rw [e]; rfl
    · rw [e]; rfl
    · obtain e | e := e
      · rw [e] at h; cases h
      · rw [e] at hend
        cases m <;> cases hend
    · rw [e] at h; cases h
    · rw [e]; rfl

theorem standing_iff {l : LegState} : l.standing = true ↔ l = .stance ∨ l = .claim ∨ l = .unload := by
  cases l <;> decide

/-- The z motion of a standing leg, and its lowering mark after it (R92, R126; log entry 12). -/
theorem stanceZMove_eq (r : State) (before : LegState) (i : EffIntent) :
    let goal := r.neutralZ * 1000 - i.offset * 1000
    stanceZMove r before i =
      if r.pe.leg = .unload then (min (r.tu.p.z + 250) (r.tu.stanceZ + 6000), r.tu.lowering)
      else if r.pe.leg = .stance ∧ before = .unload then (r.tu.p.z, r.tu.lowering)
      else if r.pe.leg = .stance ∧ r.tu.lowering then
        (lowerTo r.tu.p.z r.tu.stanceZ, decide (r.tu.stanceZ < lowerTo r.tu.p.z r.tu.stanceZ))
      else (if (r.tu.p.z - goal).natAbs ≤ 40 then goal
        else if r.tu.p.z < goal then r.tu.p.z + 40 else r.tu.p.z - 40, r.tu.lowering) := rfl

theorem letIn_elapse (s : State) (dt : Nat) : letIn (elapse s dt) = letIn s := rfl

/-- Settles O40: the foot by the records judged at that instant, and the watch of its clamp. -/
theorem standingMoves : Obligations.StandingMoves := by
  intro dt s k hk hdue hleg hbox
  obtain ⟨e, he⟩ : ∃ e, e = expiring s dt := ⟨_, rfl⟩
  obtain ⟨d, hd⟩ : ∃ d, d = decide2 e := ⟨_, rfl⟩
  obtain ⟨t, ht⟩ : ∃ t, t = runPeriod d s.pe.leg := ⟨_, rfl⟩
  have hexec : exec (.controlPeriodExpiry dt) s = .next t := by rw [exec_expiry hk hdue hleg, ht, hd, he]
  cases hstand : d.pe.leg.standing with
  | false =>
    obtain ⟨p, hp, -⟩ := moved_setpoint d s.pe.leg
    have hends : EndsOnly (moved d s.pe.leg).tu t.tu := ht ▸ runPeriod_tu _ _
    have hnot := ht ▸ runPeriod_not_standing s.pe.leg hstand
    refine ⟨t, p, { x := 0, y := 0 }, { x := 0, y := 0 }, hexec, hends ▸ hp, fun h => ?_⟩
    rw [standing_iff.2 h] at hnot
    cases hnot
  | true =>
    obtain ⟨tpe, tscu, tpt, ttime, tsbi, tsetup, tfsu, ttold, tcond, tp, tlow, tz, tlimit, tclamp, p, hp, hmode⟩ :=
      ht ▸ standing_run s.pe.leg hstand
    obtain ⟨r, hr⟩ : ∃ r, r = footReads d := ⟨_, rfl⟩
    have hread : Reads d r := hr ▸ reads_footReads d
    have heleg : (elapse s dt).pe.leg ≠ .setup := hleg
    have hexpiring : Judged (elapse s dt) e := by
      have h := judged_moves heleg (p := e.pe) (by rw [he]; exact hleg) (elapse s dt).scu (elapse s dt).tu
      rwa [he] at h ⊢
    have hdecided : Judged e d := hd ▸ (judges_decide2 (by rw [he]; exact hleg)).1
    have hjudged : Judged (elapse s dt) r := (hexpiring.trans hdecided).trans hread.judged
    have dtu : r.tu = { (elapse s dt).tu with
        lowering := decide (s.pe.leg = .unload ∧ t.pe.leg = .stance) || s.tu.lowering } := by
      rw [hread.tu, tpe, hd, decide2_tu_standing (by rw [← hd]; exact hstand), he]
      rfl
    have rpe : r.pe.leg = t.pe.leg := by rw [hread.pe, tpe]
    have dsetup : d.setup = s.setup := hdecided.setup.trans hexpiring.setup
    have hin (q : P3) : clampBox d q = inBox s q := (clampBox_congr dsetup q).trans (clampBox_inBox hbox q)
    have hintent : effIntent (aged t) = effIntent r := hr ▸ effIntent_of_footReads tpt ttime tsetup
    have dtu' : d.tu = r.tu := hread.tu.symm
    have rp : r.tu.p = s.tu.p := by rw [dtu]; rfl
    obtain ⟨st, hst⟩ : ∃ st : P2, st = if stanceFrozen r then { x := 0, y := 0 } else stanceStep (effIntent r) r.tu.p :=
      ⟨_, rfl⟩
    obtain ⟨sw, hsw⟩ : ∃ sw, sw = swayStep r (followed r) := ⟨_, rfl⟩
    refine ⟨t, p, st, sw, hexec, hp, fun hleg' => ?_⟩
    intro i cancelled down goal z q clamped w
    have hi : i = effIntent r := hintent
    have hgoal : r.neutralZ * 1000 - i.offset * 1000 = goal := by
      have hneutral : r.neutralZ = s.neutralZ := by simp only [State.neutralZ, State.sword, hread.setup, dsetup]
      rw [hneutral]
    have hz : stanceZMove r s.pe.leg i =
        (z, if cancelled then true else if down then decide (s.tu.stanceZ < z) else s.tu.lowering) := by
      rw [stanceZMove_eq, hgoal, rpe, dtu]
      simp only [z, cancelled, down]
      by_cases hunload : t.pe.leg = .unload
      · simp [hunload]
      · by_cases hcancel : s.pe.leg = .unload ∧ t.pe.leg = .stance
        · obtain ⟨hs, hstance⟩ := hcancel
          simp [hs, hstance]
        · have hswap : ¬ (t.pe.leg = .stance ∧ s.pe.leg = .unload) := fun h => hcancel ⟨h.2, h.1⟩
          simp only [if_neg hunload, if_neg hswap, if_neg hcancel, decide_eq_false hcancel, Bool.false_or]
          by_cases hdown : t.pe.leg = .stance ∧ s.tu.lowering = true
          · simp only [if_pos hdown]
            rfl
          · simp only [if_neg hdown]
            rfl
    have hq : standingFoot d s.pe.leg = q := by
      have hfoot : standingFoot d s.pe.leg =
          { x := r.tu.p.x + st.x + sw.x, y := r.tu.p.y + st.y + sw.y, z := (stanceZMove r s.pe.leg (effIntent r)).1 } := by
        rw [hst, hsw, hr]; rfl
      rw [hfoot, ← hi, hz, rp]
    have hc : decide (clampBox d (standingFoot d s.pe.leg) ≠ standingFoot d s.pe.leg) = clamped := by rw [hq, hin]
    have dclamp : d.tu.clampCond = s.tu.clampCond := by rw [dtu', dtu]; rfl
    obtain ⟨hflag, hcond⟩ := hjudged.others .workspaceClamp (by decide)
    have hnotes : clampNotes r clamped = if clamped && !s.tu.clampCond then latchNote s .workspaceClamp else [] := by
      rw [clampNotes, ← dtu', dclamp, latchNote, hflag]
      rfl
    rw [hc] at ttold tcond tlimit tclamp
    rw [← hr] at ttold tcond tlow
    rw [← hi, hz] at tlow
    rw [hnotes] at ttold
    refine ⟨fun hfrozen => ?_, fun hfree => ?_, ?_, ?_, tlow, ?_, tlimit, tclamp, ?_, ?_, ?_, ?_⟩
    · have h := (stanceFrozen_iff tsbi tpt ttime tsetup (s := s) (by rw [dtu', dtu]; rfl) (by rw [dtu', dtu]; rfl)).1 hfrozen
      rw [hst, hr, if_pos h]
    · have h := mt (stanceFrozen_iff tsbi tpt ttime tsetup (s := s) (by rw [dtu', dtu]; rfl) (by rw [dtu', dtu]; rfl)).2 hfree
      rw [hst, if_neg (by rwa [hr]), ← hi, rp]
      rfl
    · rw [hsw, hr]
      exact swayStep_is tpe tsbi tpt ttime tsetup
    · rw [tp, hq, hin]
    · rw [tz, dtu', dtu]; rfl
    · rw [ttold.flags, hflag]
      cases hnew : clamped && !s.tu.clampCond with
      | false => rw [if_neg Bool.false_ne_true]; rfl
      | true =>
        rw [if_pos rfl]
        exact (any_latchNote s _ _).trans (by rw [beq_self_eq_true])
    · rw [tcond, hcond, dclamp]
      rfl
    · obtain ⟨ns, hns, htold⟩ := hjudged.told
      exact ⟨ns, hns, (htold.trans ttold.toTold).reported⟩
    · rw [hmode, ← tpe]

end Sys2Proof.StandingFeet
end

section
/-! The decisions of an expiry (R79, R80, R84 to R87, R91 to R93, R102). -/

-- Elaborated in order: elaborated at once, the many proofs here take more threads than the check has memory for.
set_option Elab.async false

namespace Sys2Proof.Decisions
open Sys2Proof Sys2Proof.Machine Sys2Proof.Laws Sys2Proof.QueueRules Sys2Proof.Keeping Sys2Proof.IntentStorage
  Sys2Proof.FaultCommands Sys2Proof.ClassAFaults Sys2Proof.LineFaults Sys2Proof.PeerFrames Sys2Proof.Telling
  Sys2Proof.Reading Sys2Proof.Deadlines Sys2Proof.LegMoves Sys2Proof.LiftTests Sys2Proof.SupportChecks Sys2Proof.Expiries
  Sys2Proof.FootMotions Sys2Proof.StandingFeet Sys2Proof.OwnReports

/-! ## STANCE -/

/-- The Phase Engine after the change point under STAND and the turn record (R80, R84). -/
def settledPe (s : State) : PhaseEngine :=
  let a := if s.pe.applied.gait = .stand then appliedOf (effIntent (aged s)) else s.pe.applied
  let changed := a.gait != s.pe.applied.gait
  let kept := if changed then none else s.pe.turn
  { s.pe with
    applied := a, turn := if kept = none then turnRead s a.gait else kept, lead := changed || s.pe.lead }

theorem settledStance_spec (s : State) :
    ∃ r, Reads s r ∧ settledStance s = { r with pe := settledPe s } := by
  obtain ⟨a, ha⟩ : ∃ a, a = if s.pe.applied.gait = .stand then appliedOf (effIntent (aged s)) else s.pe.applied := ⟨_, rfl⟩
  obtain ⟨kept, hkept⟩ : ∃ kept, kept = if a.gait != s.pe.applied.gait then none else s.pe.turn := ⟨_, rfl⟩
  obtain ⟨p, hp⟩ : ∃ p : PhaseEngine, p =
      { s.pe with applied := a, turn := kept, lead := (a.gait != s.pe.applied.gait) || s.pe.lead } := ⟨_, rfl⟩
  have hpe : settledPe s = { p with turn := if kept = none then turnRead s a.gait else kept } := by
    rw [hp, hkept, ha]; rfl
  obtain ⟨j, hj, hb⟩ : ∃ j, Reads s j ∧
      (if s.pe.applied.gait = .stand then changePoint s else s) = { j with pe := p } := by
    by_cases hstand : s.pe.applied.gait = .stand
    · rw [if_pos hstand, changePoint_eq]
      refine ⟨_, reads_judgeRole s .mission, ?_⟩
      rw [hp, hkept, ha, if_pos hstand]
      rfl
    · rw [if_neg hstand]
      refine ⟨s, .refl s, ?_⟩
      rw [hp, hkept, ha, if_neg hstand, bne_self_eq_false]
      rfl
  unfold settledStance fillTurn
  rw [hb, hpe]
  cases hk : kept with
  | some c =>
    rw [if_neg (by rw [hp, hk]; nofun), if_neg nofun]
    exact ⟨j, hj, by rw [hp, hk]⟩
  | none =>
    obtain ⟨v, hv, hturn⟩ := recordTurn_reads { j with pe := p }
    have hsetup : (p.leg == .setup) = (j.pe.leg == .setup) := by rw [hp, hj.pe]
    rw [if_pos (by rw [hp, hk]; rfl), if_pos rfl, hturn]
    refine ⟨_, hj.trans (reads_beside_pe hsetup hv), ?_⟩
    rw [turnRead_congr (s := s) (t := { j with pe := p }) (by rw [show ({ j with pe := p } : State).sbi = s.sbi from hj.sbi])
      hj.setup hj.legOf]
    rw [hp]

/-! ## What conditions and snapshots depend on (R86, R112) -/

section Congr
variable {s t : State} (hpe : t.pe = s.pe) (hsetup : t.setup = s.setup) (hrec : ∀ n, t.record n = s.record n)
include hpe hsetup hrec

theorem liftHolds_congr (hfsu : t.fsu = s.fsu) (hflags : ∀ i : Fin 8, t.flt.flags[i.val] = s.flt.flags[i.val])
    (w : WaitReason) : LiftHolds t w ↔ LiftHolds s w := by
  have hleg (n : Fin 8) : t.legOf n = s.legOf n := by rw [State.legOf, hrec]; rfl
  have hpos : t.legPos = s.legPos := by simp only [State.legPos, State.uword, hsetup]
  cases w with
  | intent => simp only [LiftHolds, effIntent_congr hsetup fun n _ => hrec n]
  | phase => simp only [LiftHolds, hpe]
  | turn => simp only [LiftHolds, hpe, hpos, hleg]
  | ownContact => simp only [LiftHolds, hfsu]
  | fault => simp only [LiftHolds, hflags]
  | peerStale => simp only [LiftHolds, hpe, hpos, hleg, fresh_congr (hrec _)]
  | neighbour => simp only [LiftHolds, hpe, hpos, hleg]
  | slipNearby => simp only [LiftHolds, hleg, fresh_congr (hrec _)]
  | bodyStale => simp only [LiftHolds, stationOf_congr hsetup, fresh_congr (hrec _)]
  | _ => exact Iff.rfl

theorem snapshotIs_congr (sn : Snapshot) : SnapshotIs t sn ↔ SnapshotIs s sn := by
  have hleg (n : Fin 8) : t.legOf n = s.legOf n := by rw [State.legOf, hrec]; rfl
  have hpos : t.legPos = s.legPos := by simp only [State.legPos, State.uword, hsetup]
  simp only [SnapshotIs, hpe, hpos, hleg, fresh_congr (hrec _), stationOf_congr hsetup, hrec]

end Congr

/-- A check request in a state reached by reads (R87, R112, R113): the snapshot is that of the records by their age. -/
theorem requestCheck_requested {s t d : State} (hdist : PositionsDistinct t) (hread : Reads s t)
    (hd : d.pe = t.pe) (hsetup : d.setup = t.setup) (hscu : d.scu = t.scu)
    (hrec : ∀ n, d.record n = (aged s).record n) : CheckRequested d (requestCheck t) := by
  obtain ⟨r, sn, -, hsn, hreq⟩ := requestCheck_spec hdist
  rw [hreq]
  refine ⟨by rw [hd], rfl, by rw [hscu], sn, rfl, ?_⟩
  exact (snapshotIs_congr (s := aged t) hd hsetup (fun n => by rw [hrec, hread.aged_record]) sn).2 hsn

/-- An expiry whose decision leaves the leg standing: leg and check are as decided, and records have only been judged. -/
theorem standing_expiry {s : State} {dt k : Nat} (hk : s.pe.period = some k) (hdue : k ≤ dt) (hleg : s.pe.leg ≠ .setup)
    (hstand : (decide2 (expiring s dt)).pe.leg.standing = true) : ∃ t,
      exec (.controlPeriodExpiry dt) s = .next t ∧ (∃ p, t.tu.setpoint = some p) ∧
      t.pe = (decide2 (expiring s dt)).pe ∧ t.scu = (decide2 (expiring s dt)).scu ∧
      (∀ n, t.record n = s.record n ∨ t.record n = (aged (expiring s dt)).record n) ∧
      ((∀ n, ¬ ReadMarks (elapse s dt) n) → t.pt = s.pt) ∧ Offers (decide2 (expiring s dt)) t := by
  obtain ⟨E, hE⟩ : ∃ E, E = expiring s dt := ⟨_, rfl⟩
  rw [← hE] at hstand ⊢
  have hEleg : E.pe.leg ≠ .setup := by rw [hE]; exact hleg
  obtain ⟨t, ht⟩ : ∃ t, t = runPeriod (decide2 E) s.pe.leg := ⟨_, rfl⟩
  have hrun := standing_run s.pe.leg hstand
  rw [← ht] at hrun
  obtain ⟨hpe, hscu, hpt, -, -, -, -, htold, -, -, -, -, -, -, p, hp, -⟩ := hrun
  have hread := reads_footReads (decide2 E)
  have hjudged : Judged E (footReads (decide2 E)) := (judges_decide2 hEleg).1.trans hread.judged
  refine ⟨t, by rw [exec_expiry hk hdue hleg, ht, hE], ⟨p, hp⟩, hpe, hscu, fun n => ?_, fun hno => ?_,
    hread.offers.trans htold.toOffers⟩
  · rw [State.record, hpt]
    have h := hjudged.record n
    rw [hE] at h ⊢
    exact h
  · rw [hpt, hjudged.table (by rw [hE]; exact hno), hE]
    rfl

/-- Settles O26: the intent, the tables of the turn, and the decisions of an expiry in STANCE. -/
theorem stanceExpiryDecides : Obligations.StanceExpiryDecides := by
  refine ⟨fun s n r m hn hr hs hm => ?_, fun s hfresh => ?_, fun g p => ?_, fun g p q => ?_,
    fun dt s k hk hdue hleg hdist => ?_⟩
  · have heff : effIntent s = m.effective := by
      unfold effIntent
      rw [hn]
      dsimp only
      rw [hr]
      dsimp only
      rw [if_neg (Bool.eq_false_iff.1 hs), hm]
    rw [heff, MissionPart.effective]
    cases m.gait <;> rfl
  · have heff : effIntent s = standingDefault := by
      by_contra hne
      unfold effIntent at hne
      split at hne
      next => exact hne rfl
      next n hn =>
        have h := hfresh n hn
        split at hne
        next r hr =>
          rw [Machine.fresh, hr] at h
          rw [if_pos (by simpa using h)] at hne
          exact hne rfl
        next => exact hne rfl
    exact heff
  · cases g <;> cases p <;> decide
  · cases g <;> cases p <;> cases q <;> decide
  · intro e a changed kept read d
    obtain ⟨E, hE⟩ : ∃ E, E = expiring s dt := ⟨_, rfl⟩
    have hEleg : E.pe.leg = .stance := by rw [hE]; exact hleg
    obtain ⟨r, hread, hsettled⟩ := settledStance_spec E
    obtain ⟨S, hS⟩ : ∃ S, S = settledStance E := ⟨_, rfl⟩
    rw [← hS] at hsettled
    have hdpe : d.pe = settledPe E := by
      have hlegAt (p : LegPos) : e.legAt p = E.legAt p := by
        rw [hE]; exact legAt_congr (t := aged (expiring s dt)) (s := expiring s dt) rfl (legOf_aged _) p
      show { e.pe with
        applied := a, turn := if kept = none then read else kept, lead := changed || s.pe.lead } = _
      rw [settledPe, hE]
      have hread' : read = turnRead (expiring s dt) a.gait := by
        rw [turnRead, ← hE, ← funext hlegAt, hE]; rfl
      rw [hread']
      rfl
    have hSpe : S.pe = d.pe := by rw [hsettled, hdpe]
    have hSdist : PositionsDistinct S := by
      have hEdist : PositionsDistinct E := by
        rw [hE]
        exact distinct_of hdist (by simp [expiring]) rfl rfl id
      refine distinct_of (distinct_reads hEdist hread) ?_ ?_ ?_ ?_
      · rw [hsettled]
      · rw [hsettled]
      · rw [hsettled]
      · rw [hsettled, hread.pe]; exact id
    have hSrec (n : Fin 8) : (aged S).record n = d.record n := by
      rw [hsettled]
      show (aged r).record n = (aged (expiring s dt)).record n
      rw [hread.aged_record, hE]
    have hholds (w : WaitReason) : LiftHolds (aged S) w ↔ LiftHolds d w := by
      refine liftHolds_congr (t := aged S) (s := d) hSpe ?_ hSrec ?_ (fun i => ?_) w
      · rw [hsettled]
        exact hread.setup.trans (by rw [hE]; rfl)
      · rw [hsettled]
        exact hread.fsu.trans (by rw [hE]; rfl)
      · rw [hsettled]
        exact (classAFlags_reads hread i).trans (by rw [hE]; rfl)
    have hSscu : S.scu = d.scu := by rw [hsettled]; exact hread.scu.trans (by rw [hE]; rfl)
    obtain ⟨-, hfirst, hnone⟩ := liftConditions_spec hSdist
    have hlift := reads_liftConditions S
    have hdecide : decide2 E = decideStance E := by rw [decide2, hEleg]
    have hstance : (decide2 E).pe.leg = .stance := by
      rw [hdecide]
      exact ((still_decideStance E).leg (by rw [hEleg]; nofun)).trans hEleg
    obtain ⟨t, hexec, -, hpe, hscu, hrec, htable, -⟩ := standing_expiry hk hdue (by rw [hleg]; nofun)
      (by rw [← hE, hstance]; rfl)
    rw [← hE, hdecide] at hpe hscu
    refine ⟨t, hexec, hrec, htable, fun hpend => ?_, fun hpend => ⟨fun i hbefore hfails => ?_, fun hall => ?_⟩⟩
    · have hD : decideStance E = S := by
        rw [hS]
        exact decideStance_pending (by rw [← hS, hSpe]; exact hpend)
      rw [hpe, hscu, hD]
      exact ⟨hSpe, hSscu⟩
    · have hw := hfirst i (fun j hj => (hholds _).2 (hbefore j hj)) fun h => hfails ((hholds _).1 h)
      have hD := decideStance_waits (s := E) (by rw [← hS, hSpe]; exact hpend) (hS ▸ hw)
      rw [← hS] at hD
      rw [hpe, hscu, hD]
      refine ⟨?_, hlift.scu.trans hSscu⟩
      rw [withWait_liftOrder, hlift.pe, hSpe]
    · have hD := decideStance_requests (s := E) (by rw [← hS, hSpe]; exact hpend)
        (hS ▸ hnone fun i => (hholds _).2 (hall i))
      rw [← hS] at hD
      have hreq := requestCheck_requested (d := d) (distinct_reads hSdist hlift) hlift (hSpe.symm.trans hlift.pe.symm)
        ?_ (hSscu.symm.trans hlift.scu.symm) fun n => (hSrec n).symm
      · rw [← hD] at hreq
        unfold CheckRequested at hreq ⊢
        rwa [hpe, hscu]
      · rw [hlift.setup, hsettled]
        exact Eq.trans (by rw [hE]; rfl) hread.setup.symm

/-! ## UNLOAD and LOAD -/

theorem nearbyTests_iff {s : State} (h : PositionsDistinct s) :
    (nearbyTests s).2 = true ↔ LiftHolds (aged s) .slipNearby ∧ LiftHolds (aged s) .bodyStale := by
  have hslip := (tests_slipNearby h).holds s (.refl s)
  have hbody := (tests_bodyStale s).holds (condSlip s).1 (reads_judgeLegs s)
  rw [← hslip, ← hbody]
  cases hc : (condSlip s).2 with
  | true =>
    have hrun : nearbyTests s = condBody (condSlip s).1 := if_pos hc
    rw [hrun, and_iff_right rfl]
  | false =>
    have hrun : nearbyTests s = condSlip s := if_neg (Bool.eq_false_iff.1 hc)
    rw [hrun, hc]
    exact iff_of_false nofun nofun

/-- The Phase Engine at an entry to SWING (R93). -/
def swingPe (s : State) : PhaseEngine :=
  { s.pe with
    leg := .swing, checkPending := false, wait := .none, ownSway := none, unloadT := none
    footholdT := some (s.footholdMs * 1000), lead := false, deadlinePassed := false, stubs := 0
    stubRise := false, attempts := 0, watchArmed := s.fsu.contact == .air }

/-- The Trajectory Unit at an entry to SWING (R93, R126, R129). -/
def swingTu (s : State) : Trajectory :=
  { s.tu with
    plan := planSwing s (effIntent (aged s)), stub := { z := 0, k := 0, d0 := 0, j := 0 }, lowering := false, stanceZ := 0 }

/-- An entry to SWING reads the MISSION record for its plan (R93, R129). -/
theorem enterSwing_spec (s : State) :
    Reads s (judgeRole s .mission) ∧
      enterSwing s = { judgeRole s .mission with pe := swingPe s, tu := swingTu s } := by
  have hread := reads_judgeRole s .mission
  refine ⟨hread, ?_⟩
  have hplan : planSwing (judgeRole s .mission) (effIntent (judgeRole s .mission)) = planSwing s (effIntent (aged s)) := by
    rw [effIntent_judgeRole]
    simp only [planSwing, State.neutralX, State.neutralY, State.boxXMin, State.boxXMax, State.boxYMin, State.boxYMax,
      State.sword, hread.setup, hread.tu, hread.pe]
  have hfoothold : (judgeRole s .mission).footholdMs = s.footholdMs := by
    simp only [State.footholdMs, State.footholdF, State.uword, hread.setup, hread.pe]
  unfold enterSwing swingPe swingTu
  dsimp only
  rw [hplan, hfoothold, hread.fsu, hread.pe, hread.tu]
  rfl

/-- An expiry that lifts off leaves the foot at its start (R79, R131). -/
theorem liftOff_run {D : State} (hleg : D.pe.leg = .swing) : runPeriod D .unload = sent D D.tu := by
  have hmotion : motion D .unload = ({ D with tu := D.tu }, none) := by
    rw [motion, hleg]
    exact if_pos (by nofun)
  rw [runPeriod_free (by rw [hleg]; nofun) (by rw [hleg]; rfl) hmotion]
  rfl

theorem aged_legAt (s : State) (p : LegPos) : (aged s).legAt p = s.legAt p :=
  legAt_congr (t := aged s) (s := s) rfl (legOf_aged s) p

/-- The entry to STANCE sees the records by their age (R53). -/
theorem stancePe_aged (s : State) : stancePe (aged s) = stancePe s := by
  have hintent : effIntent (aged (aged s)) = effIntent (aged s) :=
    effIntent_congr (t := aged (aged s)) (s := aged s) rfl fun n _ => by
      rw [record_aged (aged s), record_aged, Option.map_map]
      cases s.record n with
      | none => rfl
      | some r => exact congrArg some (agedRecord_idem s r)
  unfold stancePe
  dsimp only
  rw [hintent, show (aged s).legAt = s.legAt from funext (aged_legAt s)]
  rfl

/-- An Event frame that the ring offers takes no Phase Notice's place (R142). -/
theorem notice_kept {s t : State} (h : Offers s t) {g : TxFrame} (hk : g.kind = some .phaseNotice)
    (hg : g ∈ s.txq.frames) : g ∈ t.txq.frames := by
  obtain ⟨hq, -⟩ | ⟨r, -, hq, -⟩ := h.queue
  · rwa [hq]
  · rw [hq]
    exact mem_place_of_code (eventFrame_kind s r) hk (by decide) hg

theorem decideUnload_waits {s : State} (h : unloaded s = false) (hpend : s.pe.checkPending = true) : decideUnload s = s :=
  (if_neg (Bool.eq_false_iff.1 h)).trans (if_pos hpend)

theorem decideUnload_tests {s : State} (h : unloaded s = false) (hpend : s.pe.checkPending = false) : decideUnload s =
    if (nearbyTests s).2 then requestCheck (nearbyTests s).1 else cancelUnload (nearbyTests s).1 :=
  (if_neg (Bool.eq_false_iff.1 h)).trans (if_neg (Bool.eq_false_iff.1 hpend))

/-- Settles O29: the decisions of the states between CLAIM and STANCE. -/
theorem stepExpiryDecides : Obligations.StepExpiryDecides := by
  intro dt s k hk hdue hleg hdist hbox hordered e a tst tsw light i ux uy target
  obtain ⟨E, hE⟩ : ∃ E, E = expiring s dt := ⟨_, rfl⟩
  have hEleg : E.pe.leg = s.pe.leg := by rw [hE]; rfl
  have hEpe : e.pe = E.pe := by rw [hE]; rfl
  have hEdist : PositionsDistinct E := by
    rw [hE]
    exact distinct_of hdist (by simp [expiring]) rfl rfl id
  have hlight : unloaded E = light := by
    have hlight' : unloaded E =
        if s.fsu.degraded then s.fsu.contact == .air
        else if decide (s.filterN + 1 < s.fsu.refill) then decide (s.fsu.az.out < s.tUnload) else false := by
      rw [hE]; rfl
    rw [hlight']
    simp only [light, Bool.decide_and]
    split
    · rfl
    · cases decide (s.filterN + 1 < s.fsu.refill) <;> rfl
  have hin (q : P3) : clampBox E q = inBox s q := by rw [hE]; exact clampBox_inBox (s := s) hbox q
  have hstands (h : (decide2 E).pe.leg.standing = true) := standing_expiry hk hdue hleg (by rwa [hE] at h)
  rw [← hE] at hstands
  have hEscu : E.scu = s.scu := by rw [hE]; rfl
  cases hl : s.pe.leg with
  | claim =>
    have hdecide : decide2 E = E := by rw [decide2, hEleg, hl]
    obtain ⟨t, hexec, ⟨p, hp⟩, hpe, -⟩ := hstands (by rw [hdecide, hEleg, hl]; rfl)
    exact ⟨t, p, hexec, hp, fun _ => by rw [hpe, hdecide, hEpe], nofun, nofun, nofun, nofun, nofun, nofun⟩
  | unload =>
    have hdecide : decide2 E = decideUnload E := by rw [decide2, hEleg, hl]
    cases hu : unloaded E with
    | true =>
      obtain ⟨hread, hswing⟩ := enterSwing_spec E
      obtain ⟨j, hj⟩ : ∃ j, j = judgeRole E .mission := ⟨_, rfl⟩
      rw [← hj] at hread hswing
      obtain ⟨D, hD⟩ : ∃ D : State, D = { j with pe := swingPe E, tu := swingTu E } := ⟨_, rfl⟩
      have hdecided : decide2 E = D := by rw [hdecide, hD, ← hswing]; exact if_pos hu
      have hexec : exec (.controlPeriodExpiry dt) s = .next (sent D D.tu) := by
        rw [exec_expiry hk hdue hleg, ← hE, hdecided, hl, liftOff_run (by rw [hD]; rfl)]
      have hDin (q : P3) : clampBox D q = inBox s q := by
        rw [clampBox_congr (s := E) (t := D) (by rw [hD]; exact hread.setup), hin]
      have hlit : light = true := hlight ▸ hu
      have hbeta (g : Gait) : g.beta = match g with | .diagonal => 32768 | _ => 49152 := by cases g <;> rfl
      have htst : E.pe.applied.tSt = tst := by
        rw [Applied.tSt, hbeta, hE]; rfl
      have htsw : E.pe.applied.tSw = tsw := by
        rw [Applied.tSw, htst, hE]; rfl
      have hmission : effIntent (aged E) = i := by rw [hE]
      refine ⟨_, _, hexec, rfl, nofun, fun _ _ => ⟨?_, ?_, ?_, ?_, ?_, ?_, ?_, ?_, fun hno => ?_⟩,
        fun _ h => absurd (hlit.symm.trans h) nofun, fun _ h => absurd (hlit.symm.trans h) nofun,
        fun _ h => absurd (hlit.symm.trans h) nofun, nofun, nofun⟩
      · show D.pe = _
        rw [hD]
        show swingPe E = _
        rw [swingPe, State.footholdMs, htsw, hE]
        rfl
      · show D.tu.plan = _
        rw [hD]
        show planSwing E (effIntent (aged E)) = _
        rw [hmission]
        unfold planSwing
        obtain ⟨⟨-, hx, -⟩, ⟨-, hy, -⟩, -⟩ := hbox
        have hE' : E.boxXMin = s.boxXMin ∧ E.boxXMax = s.boxXMax ∧ E.boxYMin = s.boxYMin ∧ E.boxYMax = s.boxYMax := by
          rw [hE]; exact ⟨rfl, rfl, rfl, rfl⟩
        obtain ⟨h1, h2, h3, h4⟩ := hE'
        rw [htst, htsw, h1, h2, h3, h4]
        dsimp only
        have hxs (v : Int) := clampInt_eq (s.boxXMin * 1000) (s.boxXMax * 1000) v (by omega)
        have hys (v : Int) := clampInt_eq (s.boxYMin * 1000) (s.boxYMax * 1000) v (by omega)
        rw [hxs, hys, hE]
        rfl
      · show D.tu.stub = _
        rw [hD]; rfl
      · show clampBox D D.tu.p = _
        rw [hDin, hD]
        show inBox s E.tu.p = _
        rw [hE]; rfl
      · show D.tu.lowering = _
        rw [hD]; rfl
      · show D.tu.stanceZ = _
        rw [hD]; rfl
      · show motionMode _ = _
        exact motionMode_position (.inr (.inr (by rw [hD]; rfl)))
      · show D.scu = _
        rw [hD]
        exact hread.scu.trans hEscu
      · have hjE : j = E := hread.unmarked (by rw [hE]; exact hno)
        show D.pt = _ ∧ D.txq = _ ∧ D.flt = _
        rw [hD, hjE, hE]
        exact ⟨rfl, rfl, rfl⟩
    | false =>
      have hdark : light = false := hlight ▸ hu
      cases hpend : s.pe.checkPending with
      | true =>
        have hdecided : decide2 E = E := by rw [hdecide, decideUnload_waits hu (by rw [hE]; exact hpend)]
        obtain ⟨t, hexec, ⟨p, hp⟩, hpe, hscu, -, htable, -⟩ := hstands (by rw [hdecided, hEleg, hl]; rfl)
        rw [hdecided] at hpe hscu
        refine ⟨t, p, hexec, hp, nofun, fun _ h => absurd (hdark.symm.trans h) nofun,
          fun _ _ _ => ⟨hpe.trans hEpe.symm, hscu.trans hEscu, htable⟩, fun _ _ => nofun, fun _ _ => nofun, nofun, nofun⟩
      | false =>
        have htests := decideUnload_tests hu (by rw [hE]; exact hpend)
        have hnear := nearbyTests_iff hEdist
        have hread := reads_nearbyTests E
        cases hpass : (nearbyTests E).2 with
        | true =>
          have hdecided : decide2 E = requestCheck (nearbyTests E).1 := by rw [hdecide, htests, hpass, if_pos rfl]
          have hreq : CheckRequested e (requestCheck (nearbyTests E).1) := by
            refine requestCheck_requested (distinct_reads hEdist hread) hread (hEpe.trans hread.pe.symm) ?_ ?_ fun n => ?_
            · rw [hread.setup, hE]; rfl
            · rw [hread.scu, hE]; rfl
            · rw [hE]
          have hreqpe : (requestCheck (nearbyTests E).1).pe.leg = .unload := by
            rw [hreq.1, hEpe]
            exact hEleg.trans hl
          obtain ⟨t, hexec, ⟨p, hp⟩, hpe, hscu, -⟩ := hstands (by rw [hdecided, hreqpe]; rfl)
          rw [hdecided] at hpe hscu
          have hboth : LiftHolds e .slipNearby ∧ LiftHolds e .bodyStale := by
            have h := hnear.1 hpass
            rwa [hE] at h
          refine ⟨t, p, hexec, hp, nofun, fun _ h => absurd (hdark.symm.trans h) nofun, fun _ _ => nofun,
            fun _ _ _ _ _ => ?_, fun _ _ _ h => absurd hboth h, nofun, nofun⟩
          unfold CheckRequested at hreq ⊢
          rwa [hpe, hscu]
        | false =>
          have hdecided : decide2 E = cancelUnload (nearbyTests E).1 := by
            rw [hdecide, htests, hpass, if_neg Bool.false_ne_true]
          obtain ⟨v, hv⟩ : ∃ v, v = (nearbyTests E).1 := ⟨_, rfl⟩
          rw [← hv] at hdecided hread
          obtain ⟨vpe, -, vtxq, -, -, -, -, -, -, vscu, -⟩ := cancelUnload_spec v
          obtain ⟨t, hexec, ⟨p, hp⟩, hpe, hscu, -, -, hoffers⟩ := hstands (by rw [hdecided, vpe]; rfl)
          rw [hdecided] at hpe hscu hoffers
          have hnot : ¬ (LiftHolds e .slipNearby ∧ LiftHolds e .bodyStale) := by
            have h := mt hnear.2 (Bool.eq_false_iff.1 hpass)
            rwa [hE] at h
          refine ⟨t, p, hexec, hp, nofun, fun _ h => absurd (hdark.symm.trans h) nofun, fun _ _ => nofun,
            fun _ _ _ h h' => absurd ⟨h, h'⟩ hnot, fun _ _ _ _ => ⟨?_, ?_, fun hroom => ?_⟩, nofun, nofun⟩
          · rw [hpe, vpe, cancelledPe_congr hread.pe, hE]
            rfl
          · rw [hscu, vscu, hread.scu, hEscu]
          · refine notice_kept hoffers (noticeWith_kind _ _ _ _ _ _ _) ?_
            have hnotice : noticeWith v .stance v.pe.applied.gait v.fsu.slipping 2 v.pe.steps 0xFF#8 =
                noticeWith s .stance a.gait s.fsu.slipping 2 s.pe.steps 0xFF#8 := by
              rw [noticeWith_congr (s := s) (by rw [hread.sbi, hE]; simp [expiring]) (by rw [hread.setup, hE]; rfl),
                hread.pe, hread.fsu, hE]
              rfl
            rw [vtxq, ← hnotice]
            refine (notice_placed (noticeWith_kind _ _ _ _ _ _ _) ?_).2
            have hlen := hread.offers.length_le
            rw [hE] at hlen
            exact hlen.trans_lt (Nat.succ_lt_succ (Nat.lt_succ_of_le hroom))
  | load =>
    by_cases hcontact : s.fsu.contact = .loaded
    · have hdecided : decide2 E = enterStance E true := by
        rw [decide2, hEleg, hl]
        exact if_pos (by rw [hE]; exact hcontact)
      obtain ⟨r, hread, -, henter⟩ := enterStance_reads E (by rw [hEleg]; exact hleg)
      obtain ⟨v, hv⟩ : ∃ v : State, v = { r with pe := stancePe E } := ⟨_, rfl⟩
      obtain ⟨f, hf⟩ : ∃ f, f = noticeWith v .stance v.pe.applied.gait v.fsu.slipping 4 v.pe.steps 0xFF#8 := ⟨_, rfl⟩
      have hplaced : enterStance E true = placeFrame v f := by
        rw [henter true, if_pos rfl, ← hv, hf, hv]; rfl
      rw [hplaced] at hdecided
      have hDpe : (placeFrame v f).pe = stancePe E := by
        rw [placeFrame_pe_of_ne v f (by rw [hv]; nofun), hv]
      obtain ⟨t, hexec, ⟨p, hp⟩, hpe, -, -, -, hoffers⟩ := hstands (by rw [hdecided, hDpe]; rfl)
      rw [hdecided] at hpe hoffers
      rw [hDpe] at hpe
      refine ⟨t, p, hexec, hp, nofun, nofun, nofun, nofun, nofun, fun _ _ => ⟨?_, fun hroom => ?_⟩,
        fun _ h => absurd hcontact h⟩
      · rw [hpe, hE]
        exact (stancePe_aged _).symm
      · refine notice_kept hoffers (noticeWith_kind _ _ _ _ _ _ _) ?_
        have hnotice : f = noticeWith s .stance t.pe.applied.gait s.fsu.slipping 4 s.pe.steps 0xFF#8 := by
          rw [hf, noticeWith_congr (s := s) (t := v) (by rw [hv]; show r.sbi.station = _; rw [hread.sbi, hE]; simp [expiring])
            (by rw [hv]; show r.setup = _; rw [hread.setup, hE]; rfl), hv, hpe]
          show noticeWith s .stance (stancePe E).applied.gait r.fsu.slipping 4 (stancePe E).steps 0xFF#8 = _
          rw [hread.fsu, hE]
          rfl
        rw [placeFrame_txq, ← hnotice]
        refine (notice_placed (by rw [hf]; exact noticeWith_kind _ _ _ _ _ _ _) ?_).2
        have hlen := hread.offers.length_le
        rw [hE] at hlen
        rw [hv]
        exact hlen.trans_lt (Nat.succ_lt_succ (Nat.lt_succ_of_le hroom))
    · have hrun := period_load (hEleg.trans hl) (by rw [hE]; exact hcontact)
      refine ⟨sent E (pressTu E), _, by rw [exec_expiry hk hdue hleg, ← hE, hl, hrun], rfl, nofun, nofun, nofun, nofun, nofun,
        fun _ h => absurd h hcontact, fun _ _ => hEpe.symm⟩
  | _ =>
    obtain ⟨p, hp, -⟩ := moved_setpoint (decide2 E) s.pe.leg
    have hends := runPeriod_tu (decide2 E) s.pe.leg
    refine ⟨runPeriod (decide2 E) s.pe.leg, p, by rw [exec_expiry hk hdue hleg, hE], hends ▸ hp, ?_⟩
    exact ⟨nofun, nofun, nofun, nofun, nofun, nofun, nofun⟩

end Sys2Proof.Decisions
end

section
/-! What every control-period expiry sends and keeps (R79, R82, R130, R135, R136). -/

-- Elaborated in order: elaborated at once, the many proofs here take more threads than the check has memory for.
set_option Elab.async false

namespace Sys2Proof.PeriodFrames
open Sys2Proof Sys2Proof.Machine Sys2Proof.Laws Sys2Proof.Keeping Sys2Proof.PeerFrames Sys2Proof.Reading Sys2Proof.Deadlines
  Sys2Proof.LegMoves Sys2Proof.LiftTests Sys2Proof.SupportChecks Sys2Proof.Expiries Sys2Proof.FootMotions
  Sys2Proof.StandingFeet Sys2Proof.Decisions

/-! ## Period timer and φ (R79, R82) -/

/-- The period timer stays, and φ of a leg that stays in its state. -/
def PhaseKept (p q : PhaseEngine) : Prop := q.period = p.period ∧ (q.leg = p.leg → q.phi = p.phi)

theorem PhaseKept.of {p q : PhaseEngine} (hperiod : q.period = p.period) (hphi : q.phi = p.phi) : PhaseKept p q :=
  ⟨hperiod, fun _ => hphi⟩

theorem PhaseKept.of_leg {p q : PhaseEngine} (hperiod : q.period = p.period) (hleg : q.leg ≠ p.leg) : PhaseKept p q :=
  ⟨hperiod, fun h => absurd h hleg⟩

theorem decideStance_kept (s : State) :
    (decideStance s).pe.period = s.pe.period ∧ (decideStance s).pe.phi = s.pe.phi := by
  obtain ⟨r, hread, hsettled⟩ := settledStance_spec s
  have hS : (settledStance s).pe = settledPe s := by rw [hsettled]
  have hlift := (reads_liftConditions (settledStance s)).pe.trans hS
  cases hpend : (settledStance s).pe.checkPending with
  | true => rw [decideStance_pending hpend, hS]; exact ⟨rfl, rfl⟩
  | false =>
    cases hw : (liftConditions (settledStance s)).2 with
    | some w =>
      rw [decideStance_waits hpend hw, hlift]
      exact ⟨rfl, rfl⟩
    | none =>
      rw [decideStance_requests hpend hw]
      have hreq : (requestCheck (liftConditions (settledStance s)).1).pe =
          { settledPe s with checkPending := true } := by
        rw [requestCheck]
        dsimp only
        rw [judgeRole_pe, judgeLegs_pe, hlift]
      rw [hreq]
      exact ⟨rfl, rfl⟩

theorem phaseKept_decideUnload {s : State} (hleg : s.pe.leg = .unload) : PhaseKept s.pe (decideUnload s).pe := by
  cases hu : unloaded s with
  | true =>
    have hrun : decideUnload s = enterSwing s := if_pos hu
    rw [hrun, (enterSwing_spec s).2]
    exact .of_leg rfl (by rw [hleg]; nofun)
  | false =>
    cases hpend : s.pe.checkPending with
    | true => rw [decideUnload_waits hu hpend]; exact .of rfl rfl
    | false =>
      rw [decideUnload_tests hu hpend]
      have hread := reads_nearbyTests s
      split
      · refine .of ?_ ?_ <;>
        · rw [requestCheck]
          dsimp only
          rw [judgeRole_pe, judgeLegs_pe, hread.pe]
      · rw [(cancelUnload_spec _).1, cancelledPe_congr hread.pe]
        exact .of_leg rfl (by rw [hleg]; nofun)

theorem phaseKept_decide2 {s : State} (hleg : s.pe.leg ≠ .setup) : PhaseKept s.pe (decide2 s).pe := by
  unfold decide2
  split
  · exact .of (decideStance_kept s).1 (decideStance_kept s).2
  next h => exact phaseKept_decideUnload h
  next h =>
    split
    · obtain ⟨r, -, -, henter⟩ := enterStance_reads s hleg
      rw [henter true, if_pos rfl]
      have hpe := placeFrame_pe_of_ne { r with pe := stancePe s } (State.noticeFrame { r with pe := stancePe s } .loaded 0xFF#8)
        (by nofun)
      rw [handNotice, hpe]
      exact .of_leg rfl (by rw [h]; nofun)
    · exact .of rfl rfl
  · rw [decideHold_eq]
    exact .of rfl rfl
  · exact .of rfl rfl

theorem phaseKept_exhausted {s t : State} (h : Exhausted s t) (hleg : s.pe.leg = .search) : PhaseKept s.pe t.pe := by
  unfold Exhausted at h
  split at h
  · rw [h.1]
    exact .of rfl rfl
  · rw [h.1]
    exact .of_leg rfl (by rw [hleg]; nofun)

theorem phaseKept_actOnEnd {s : State} {m : MotionEnd} (h : endsIn m s.pe.leg) :
    PhaseKept s.pe (actOnEnd s (some m)).pe := by
  have hland {u : State} (hperiod : u.pe.period = s.pe.period) (hne : s.pe.leg ≠ .load) : PhaseKept s.pe (enterLoad u).pe := by
    rw [(enterLoad_landed u).1]
    exact .of_leg hperiod (Ne.symm hne)
  cases m with
  | swingEnd =>
    have hs : s.pe.leg = .swing := h
    show PhaseKept s.pe (enterSearch s).pe
    by_cases hair : s.fsu.contact = .air
    · cases hlate : s.pe.deadlinePassed with
      | true =>
        rw [enterSearch_late hair hlate]
        have hex := exhaustSearch_exhausted (s := { s with pe := searchingPe s }) rfl
        obtain ⟨hperiod, -⟩ := phaseKept_exhausted hex rfl
        refine .of_leg hperiod ?_
        rw [hs]
        obtain ⟨-, e | ⟨-, e⟩ | ⟨-, e⟩⟩ := yields_exhaustSearch { s with pe := searchingPe s } <;> rw [e] <;> nofun
      | false =>
        rw [enterSearch_begins hair hlate]
        exact .of_leg rfl (by rw [hs]; nofun)
    · rw [enterSearch_contact hair]
      exact hland rfl (by rw [hs]; nofun)
  | stubRiseEnd =>
    have hs : s.pe.leg = .swing := h
    show PhaseKept s.pe (endStubRise s).pe
    unfold endStubRise
    split
    · exact .of rfl rfl
    · exact hland rfl (by rw [hs]; nofun)
  | searchBottom => exact phaseKept_exhausted (exhaustSearch_exhausted h) h
  | replaceEnd =>
    have hs : s.pe.leg = .search := h
    show PhaseKept s.pe (endReplace s).pe
    unfold endReplace
    dsimp only
    split
    · exact hland rfl (by rw [hs]; nofun)
    · exact .of rfl rfl

/-- A whole expiry keeps its timer, and φ of a leg that stays in its state (R79, R82). -/
theorem phaseKept_period {E : State} (hleg : E.pe.leg ≠ .setup) :
    PhaseKept E.pe (runPeriod (decide2 E) E.pe.leg).pe := by
  have hdecided := phaseKept_decide2 hleg
  obtain ⟨D, hD⟩ : ∃ D, D = decide2 E := ⟨_, rfl⟩
  rw [← hD] at hdecided ⊢
  have hmoved := moved_pe D E.pe.leg
  rw [runPeriod]
  cases hm : (motion D E.pe.leg).2 with
  | none => rwa [actOnEnd, hmoved]
  | some m =>
    obtain ⟨hend, -⟩ := motion_end hm
    have hbefore : E.pe.leg = .swing ∨ E.pe.leg = .search := by
      by_cases hs : D.pe.leg = .swing
      · exact .inl (motion_end_before hm hs)
      · have hsearch : D.pe.leg = .search := by
          cases m with
          | swingEnd => exact absurd hend hs
          | stubRiseEnd => exact absurd hend hs
          | searchBottom => exact hend
          | replaceEnd => exact hend
        have hmoves := hD ▸ (periodic_decide2 E).1
        obtain (⟨-, e | ⟨-, e⟩ | ⟨-, e⟩⟩ | ⟨-, e, -⟩ | ⟨-, e, -⟩) | ⟨-, ⟨-, e⟩ | ⟨e, -⟩⟩ := hmoves
        · exact .inr (e.symm.trans hsearch)
        · rw [hsearch] at e; cases e
        · rw [hsearch] at e; cases e
        · rw [hsearch] at e; cases e
        · rw [hsearch] at e; cases e
        · rw [hsearch] at e; cases e
        · exact .inl e
    have hDE : D = E := hD.trans (decide2_moving hbefore)
    have hkept := phaseKept_actOnEnd (s := moved D E.pe.leg) (by rwa [hmoved])
    rw [hmoved, hDE] at hkept
    rwa [hDE]

/-! ## Tag and height of the Setpoint before (R136) -/

/-- What a Setpoint takes from the one before it. -/
def setpointBasis (T : Trajectory) : Byte × Option Int := (T.tag, T.lastZ)

theorem setpointBasis_decide2 (s : State) : setpointBasis (decide2 s).tu = setpointBasis s.tu := by
  unfold decide2
  split
  · rw [(decideStance_frame s).2.2.2.2.1]
  · unfold decideUnload
    dsimp only
    split
    · rw [(enterSwing_spec s).2]; rfl
    · split
      · rfl
      · have hread := reads_nearbyTests s
        split
        · rw [(requestCheck_frame _).2.2.2.2.1, hread.tu]
        · rw [(cancelUnload_spec _).2.1, hread.tu]; rfl
  · split
    · rw [(enterStance_frame s true).2.2.2.2.2.1]
    · rfl
  · rw [decideHold_eq]; rfl
  · rfl

theorem setpointBasis_motion (d : State) (before : LegState) :
    setpointBasis (motion d before).1.tu = setpointBasis d.tu := by
  have hstanding : setpointBasis (moveStanding d before).tu = setpointBasis d.tu := by
    rw [← (reads_footReads d).tu]
    rfl
  unfold motion
  split
  · exact hstanding
  · exact hstanding
  · exact hstanding
  · unfold moveSwing
    split
    · rfl
    · split <;> rfl
  · unfold moveSearch
    split <;> rfl
  · rfl
  · rw [moveHold_eq]; rfl
  · rfl
  · rfl

theorem setpointBasis_clampFoot (d : State) : setpointBasis (clampFoot d).tu = setpointBasis d.tu := by
  unfold clampFoot
  split
  · rfl
  · dsimp only
    split
    · rw [(watchClamp_spec _ _).1]; rfl
    · rfl

/-- The clamp leaves the foot in the box, but in READY (R128). -/
theorem clampFoot_p {d : State} (hready : d.pe.leg ≠ .ready) : (clampFoot d).tu.p = clampBox d d.tu.p := by
  rw [clampFoot, if_neg hready]
  dsimp only
  split
  · rw [(watchClamp_spec _ _).1]
  · rfl

theorem tenths_toInt {v : Int} (h : v.natAbs ≤ 3276600) : (BitVec.ofInt 16 (tenths v)).toInt = tenths v := by
  have hrange : -32768 ≤ tenths v ∧ tenths v < 32768 := by
    unfold tenths roundHalfAway
    dsimp only
    split <;> omega
  rw [BitVec.toInt_ofInt]
  exact Int.bmod_eq_of_le (by omega) (by omega)

/-- Settles O54: the frame of a period, its timer and φ, and a swing along its profile. -/
theorem controlPeriodSends : Obligations.ControlPeriodSends := by
  intro dt s k hk hdue hleg e up pl j
  obtain ⟨E, hE⟩ : ∃ E, E = expiring s dt := ⟨_, rfl⟩
  have hEleg : E.pe.leg = s.pe.leg := by rw [hE]; rfl
  obtain ⟨D, hD⟩ : ∃ D, D = decide2 E := ⟨_, rfl⟩
  obtain ⟨u, hu⟩ : ∃ u, u = clampFoot (motion D s.pe.leg).1 := ⟨_, rfl⟩
  obtain ⟨t, ht⟩ : ∃ t, t = runPeriod D s.pe.leg := ⟨_, rfl⟩
  have hexec : exec (.controlPeriodExpiry dt) s = .next t := by rw [exec_expiry hk hdue hleg, ht, hD, hE]
  have hends : EndsOnly (sendSetpoint u).tu t.tu := by rw [ht, hu]; exact runPeriod_tu D s.pe.leg
  have hbasis : setpointBasis u.tu = setpointBasis s.tu := by
    rw [hu, setpointBasis_clampFoot, setpointBasis_motion, hD, setpointBasis_decide2, hE]
    rfl
  have htag : u.tu.tag = s.tu.tag := congrArg Prod.fst hbasis
  have hlast : u.tu.lastZ = s.tu.lastZ := congrArg Prod.snd hbasis
  have hfree {T : Trajectory} {m : Option MotionEnd} (hl : s.pe.leg = .swing)
      (hmotion : motion E s.pe.leg = ({ E with tu := T }, m)) : t = actOnEnd (sent E T) m := by
    rw [ht, hD, decide2_moving (.inl (hEleg.trans hl))]
    exact runPeriod_moving (.inl (hEleg.trans hl)) hmotion
  have hkept : PhaseKept E.pe t.pe := by
    rw [ht, hD, ← hEleg]
    exact phaseKept_period (by rw [hEleg]; exact hleg)
  obtain ⟨p, hp⟩ : ∃ p, (sendSetpoint u).tu.setpoint = some p := ⟨_, rfl⟩
  have hpval := Option.some.inj hp
  obtain ⟨htime, hsbi, hsetup, hfsu⟩ : t.time = e.time ∧ t.sbi = e.sbi ∧ t.setup = e.setup ∧ t.fsu = e.fsu := by
    have hperiod : t = controlPeriod { e with pe := { e.pe with period := some controlPeriodUs } } := by
      rw [ht, hD, hE, ← advancePhase_expiring]; rfl
    obtain ⟨htime, hsbi, hsetup, hfsu, -⟩ := controlPeriod_frame { e with pe := { e.pe with period := some controlPeriodUs } }
    rw [hperiod]
    exact ⟨htime, hsbi, hsetup, hfsu⟩
  have husetup : u.setup = s.setup := by
    obtain ⟨-, -, h1, -⟩ := clampFoot_frame (motion D s.pe.leg).1
    obtain ⟨-, -, h2, -⟩ := motion_frame D s.pe.leg
    obtain ⟨-, -, h3, -⟩ := decide2_frame E
    rw [hu, h1, h2, hD, h3, hE]
    rfl
  refine ⟨t, p, hexec, ?_, ?_, ?_, ?_, ?_, ?_, ?_, fun hbox => ?_, fun hstay => ?_, htime, hsbi, hsetup, hfsu,
    fun hready => ?_, fun hswing hrise hon => ?_⟩
  · rw [hkept.1, hE]; rfl
  · exact (congrArg Trajectory.tag hends).trans (congrArg (· + 1#8) htag)
  · exact (congrArg Trajectory.setpoint hends).trans hp
  · rw [← hpval]
    exact congrArg (· + 1#8) htag
  · exact congrArg Trajectory.sending hends
  · exact (congrArg Trajectory.priorZ hends).trans hlast
  · intro body
    refine (congrArg Trajectory.line hends).trans ?_
    show Setpoint.bytes _ = _
    rw [hpval]
    have hbody : body = [BitVec.ofNat 8 p.mode.code, p.tag, hiByte p.x, loByte p.x, hiByte p.y, loByte p.y, hiByte p.z,
        loByte p.z] := by
      simp only [body]
      cases p.mode <;> rfl
    rw [hbody]
    rfl
  · have hpoint : clampBox u u.tu.p = inBox s t.tu.p :=
      (clampBox_congr husetup _).trans ((clampBox_inBox hbox _).trans
        (congrArg (inBox s) (congrArg Trajectory.p hends).symm))
    obtain ⟨q, hq⟩ : ∃ q, q = inBox s t.tu.p := ⟨_, rfl⟩
    rw [← hq] at hpoint ⊢
    have hbounds : q.x.natAbs ≤ 1500000 ∧ q.y.natAbs ≤ 1500000 ∧ q.z.natAbs ≤ 1500000 := by
      obtain ⟨⟨hx1, hx2, hx3⟩, ⟨hy1, hy2, hy3⟩, ⟨hz1, hz2, hz3⟩⟩ := hbox
      rw [hq]
      unfold inBox
      dsimp only
      omega
    obtain ⟨hqx, hqy, hqz⟩ := hbounds
    obtain ⟨hx, hy, hz⟩ : p.x = BitVec.ofInt 16 (tenths q.x) ∧ p.y = BitVec.ofInt 16 (tenths q.y) ∧
        p.z = BitVec.ofInt 16 (tenths q.z) := by
      rw [← hpval, ← hpoint]
      exact ⟨rfl, rfl, rfl⟩
    have hzint : 100 * p.z.toInt = tenths q.z * 100 := by
      rw [hz, tenths_toInt (by omega)]
      exact mul_comm _ _
    refine ⟨hx ▸ tenths_tenthsOf _ (by omega), hy ▸ tenths_tenthsOf _ (by omega), hz ▸ tenths_tenthsOf _ (by omega), ?_, ?_⟩
    · refine (congrArg Trajectory.lastZ hends).trans ?_
      rw [hzint, ← hpoint]
      rfl
    · refine (congrArg Trajectory.pressing hends).trans ?_
      have hmode : p.mode = motionMode u := by rw [← hpval]
      rw [hzint, hmode, ← hlast, ← hpoint]
      show (match u.tu.lastZ with
        | some before => (motionMode u == Mode.soft) && decide (tenths (clampBox u u.tu.p).z * 100 ≤ before)
        | none => false) = _
      cases u.tu.lastZ with
      | none => rfl
      | some before =>
        dsimp only
        rw [Bool.decide_and]
        rfl
  · have hphi := hkept.2 (hstay.trans hEleg.symm)
    have hbeta (g : Gait) : g.beta = match g with | .diagonal => 32768 | _ => 49152 := by cases g <;> rfl
    rw [hphi, hE, hbeta]
    rfl
  · have hDE : D = E := by rw [hD, decide2, hEleg, hready]
    have hmotion : motion E s.pe.leg = (E, none) := by rw [motion, hEleg, hready]
    have huE : u = E := by
      rw [hu, hDE, hmotion]
      exact if_pos (hEleg.trans hready)
    have htE : t = sendSetpoint E := by
      have hfoot : clampFoot E = E := if_pos (hEleg.trans hready)
      rw [ht, hDE, runPeriod, moved, hmotion]
      dsimp only
      rw [hfoot]
      rfl
    have hmode : p.mode = .hold := by
      rw [← hpval, huE]
      show motionMode E = _
      unfold motionMode
      rw [hEleg, hready]
    rw [htE, hE]
    refine ⟨hmode, rfl, ?_, rfl, rfl, rfl, rfl⟩
    show (expiring s dt).pe = _
    unfold expiring
    rw [hready]
    rfl
  · have hmotion : motion E s.pe.leg = _ := hswing ▸ motion_profile (hEleg.trans hswing) (by rw [hE]; exact hrise)
    have hnot : ¬ E.tu.plan.k + 1 = E.tu.plan.kEnd := by rw [hE]; exact Nat.ne_of_lt hon
    have htE := hfree hswing hmotion
    rw [if_neg hnot] at htE
    have hmode : p.mode = .position := by
      have huleg : u.pe.leg = .swing := by
        rw [hu, clampFoot_pe, motion_pe, hD, decide2_moving (.inl (hEleg.trans hswing)), hEleg, hswing]
      rw [← hpval]
      exact motionMode_position (.inr (.inr huleg))
    rw [htE]
    refine ⟨hmode, by rw [hE]; rfl, hEleg.trans hswing, fun hz => ?_, fun hx => ?_, fun hy => ?_⟩
    · rw [← clampInt_eq _ _ _ (by omega), hE]; rfl
    · rw [← clampInt_eq _ _ _ (by omega), hE]; rfl
    · rw [← clampInt_eq _ _ _ (by omega), hE]; rfl

end Sys2Proof.PeriodFrames
end

section
/-! What reads mark (R53 to R56): every command sets a stale mark on a record past its limit only, and with its silence fault
latched and active; and the ageing read, which judges every peer's record. -/

-- Elaborated in order: elaborated at once, the many proofs here take more threads than the check has memory for.
set_option Elab.async false

namespace Sys2Proof.AgeingMarks
open Sys2Proof Sys2Proof.Machine Sys2Proof.Laws Sys2Proof.Keeping Sys2Proof.LegMoves Sys2Proof.ClassAFaults
  Sys2Proof.LineFaults Sys2Proof.Telling Sys2Proof.Reading Sys2Proof.StandingFeet Sys2Proof.FootMotions
  Sys2Proof.LiftTests Sys2Proof.PeerFrames Sys2Proof.BusSide

/-! ## Operations that mark by age alone -/

/-- The part of a state that marking speaks of. -/
def markBasis (s : State) : Micros × SetupBlock × Vector (Option Record) 8 × Vector Bool 17 × Vector Bool 17 :=
  (s.time.us, s.setup, s.pt.records, s.flt.flags, s.flt.conds)

theorem marking_quiet {s t : State} (h : markBasis t = markBasis s := by rfl) : Marking s t := by
  simp only [markBasis, Prod.mk.injEq] at h
  obtain ⟨hus, hsetup, hrec, hflags, hconds⟩ := h
  exact .still hus hsetup hrec fun _ _ => by rw [hflags, hconds]; exact ⟨id, id⟩

theorem marking_ite {s t u : State} {c : Prop} [Decidable c] (ht : Marking s t) (hu : Marking s u) :
    Marking s (if c then t else u) := by
  split
  · exact ht
  · exact hu

theorem marking_reportFault (s : State) (r : Report) : Marking s (reportFault s r) := by
  obtain ⟨hflags, hconds, -⟩ := reportFault_flt s r
  refine .still (by simp) (by simp) (by simp) fun c _ => ?_
  rw [hflags, hconds, set_idx, set_idx]
  exact ⟨fun h => by rw [h, ite_self], fun h => by rw [h, ite_self]⟩

theorem marking_endFault (s : State) {c : FaultCode} (hc : c ∉ silences) : Marking s (endFault s c) :=
  .still rfl rfl rfl fun d hd => ⟨id, fun h => by
    have hne : c ≠ d := fun e => hc (e ▸ hd)
    show (s.flt.conds.set c.idx false)[d.idx] = true
    rwa [set_idx, if_neg hne]⟩

theorem marking_reportOccurrence (s : State) {r : Report} (hr : r.fault ∉ silences) : Marking s (reportOccurrence s r) :=
  (marking_reportFault s r).trans (marking_endFault _ hr)

theorem marking_recordEvent (s : State) (e : EventKind) (d : Byte) : Marking s (recordEvent s e d) :=
  marking_quiet (by simp [markBasis])

theorem marking_placeFrame (s : State) (f : TxFrame) : Marking s (placeFrame s f) :=
  marking_quiet (by simp [markBasis])

theorem marking_handNotice (s : State) (n : Notice) : Marking s (handNotice s n) := marking_placeFrame s _

/-! ## The Phase Engine -/

theorem marking_changePoint (s : State) : Marking s (changePoint s) :=
  (reads_judgeRole s .mission).marking.trans marking_quiet

theorem marking_recordTurn (s : State) : Marking s (recordTurn s) := by
  unfold recordTurn
  split
  · exact marking_quiet
  · exact (reads_judgeAt s _).marking.trans marking_quiet

theorem marking_enterStance (s : State) (notice : Bool) : Marking s (enterStance s notice) := by
  have turned : Marking s (recordTurn (changePoint
      { s with pe := ({ s.pe.enter .stance with loadT := none }).withWait .none })) :=
    (Marking.trans marking_quiet (marking_changePoint _)).trans (marking_recordTurn _)
  exact marking_ite (turned.trans (marking_handNotice _ .loaded)) turned

theorem marking_enterLoad (s : State) : Marking s (enterLoad s) := by
  have entered : Marking s { s with pe := ({ s.pe.enter .load with
      steps := s.pe.steps + 1#8, phi := 0#16, footholdT := none, stubRise := false, watchArmed := false
      replacing := false, loadT := msTimer s.loadMs, loadPending := false }).withWait .none } := marking_quiet
  exact ((entered.trans (marking_endFault _ (c := .weakFoothold) (by decide))).trans
    (marking_handNotice _ .touchdown)).trans marking_quiet

theorem marking_lateLoaded (s : State) : Marking s (lateLoaded s) := by
  have handed : Marking s (if s.pe.leg = .stance then handNotice s .loaded else s) :=
    marking_ite (marking_handNotice s _) (.refl s)
  exact (handed.trans (marking_endFault _ (c := .weakFoothold) (by decide))).trans marking_quiet

theorem marking_exhaustSearch (s : State) : Marking s (exhaustSearch s) :=
  marking_ite (Marking.trans marking_quiet (marking_recordEvent _ _ _))
    (Marking.trans marking_quiet (marking_reportOccurrence _ (r := .plain .noFoothold) (by decide)))

theorem marking_enterSearch (s : State) : Marking s (enterSearch s) :=
  marking_ite (Marking.trans marking_quiet (marking_enterLoad _))
    (marking_ite (Marking.trans marking_quiet (marking_exhaustSearch _)) marking_quiet)

theorem marking_classChange (s : State) (old new : Contact) : Marking s (classChange s old new) := by
  have late : Marking s (if s.pe.loadPending && new == .loaded then lateLoaded s else s) :=
    marking_ite (marking_lateLoaded s) (.refl s)
  have contact (t : State) : Marking t (swingContact { t with pe := { t.pe with watchArmed := false } }) :=
    marking_ite marking_quiet (Marking.trans marking_quiet (marking_enterLoad _))
  unfold classChange
  dsimp only
  generalize (if s.pe.loadPending && new == .loaded then lateLoaded s else s) = t at late ⊢
  refine late.trans ?_
  split
  · exact marking_ite marking_quiet (marking_ite (contact t) (.refl t))
  · exact marking_ite (.refl t) (marking_ite marking_quiet (marking_ite (marking_enterLoad t) (.refl t)))
  · exact marking_ite (marking_enterStance t true) (.refl t)
  · exact marking_ite (marking_ite (.refl t) marking_quiet) (marking_ite marking_quiet (.refl t))
  · exact .refl t

theorem marking_slipStart (s : State) : Marking s (slipStart s) :=
  marking_ite ((marking_handNotice s .slip).trans marking_quiet) (.refl s)

theorem marking_endSlipPersist (s : State) : Marking s (endSlipPersist s) :=
  marking_ite ((marking_endFault s (c := .slipPersist) (by decide)).trans marking_quiet) (.refl s)

theorem marking_slipEnd (s : State) : Marking s (slipEnd s) :=
  marking_ite (Marking.trans marking_quiet (marking_endSlipPersist _))
    (marking_ite (((marking_handNotice s .slipEnd).trans marking_quiet).trans (marking_endSlipPersist _)) (.refl s))

/-! ## The Foot Sense Unit -/

theorem marking_judgeLimit (s : State) (a : Axes) : Marking s (judgeLimit s a) :=
  marking_ite (marking_ite (.refl s) (Marking.trans marking_quiet (marking_reportFault _ _)))
    (marking_ite (Marking.trans marking_quiet (marking_endFault _ (c := .filterLimit) (by decide))) (.refl s))

theorem marking_enterSample (s : State) (fx fy fz : Half) : Marking s (enterSample s fx fy fz) :=
  Marking.trans marking_quiet (marking_judgeLimit _ _)

theorem marking_setContact (s : State) (new : Contact) : Marking s (setContact s new) :=
  marking_ite (.refl s) (Marking.trans marking_quiet (marking_classChange _ _ _))

theorem marking_leaveSlip (s : State) : Marking s (leaveSlip s) := Marking.trans marking_quiet (marking_slipEnd _)

theorem marking_judgeSlip (s : State) : Marking s (judgeSlip s) :=
  marking_ite (marking_ite (marking_leaveSlip s) marking_quiet)
    (marking_ite (marking_ite marking_quiet (marking_ite (marking_leaveSlip s) marking_quiet))
      (marking_ite (marking_ite (Marking.trans marking_quiet (marking_slipStart _)) marking_quiet) marking_quiet))

theorem marking_degrade (s : State) (c : Cause) : Marking s (degrade s c) := by
  refine marking_ite marking_quiet ?_
  have left : Marking s (let t : State := { s with fsu := { s.fsu.addCause c with degraded := true } }
      if t.fsu.slipping then leaveSlip t else { t with fsu := { t.fsu with slipRun := 0, okRun := 0 } }) :=
    marking_ite (Marking.trans marking_quiet (marking_leaveSlip _)) marking_quiet
  exact (left.trans marking_quiet).trans (marking_recordEvent _ _ _)

theorem marking_restartWatch (s : State) : Marking s (restartWatch s) :=
  marking_ite (Marking.trans marking_quiet (marking_endFault _ (c := .footLinkLost) (by decide))) marking_quiet

theorem marking_stuckStep (s : State) (fz : Half) : Marking s (stuckStep s fz) := by
  unfold stuckStep
  split
  · exact marking_quiet
  · exact marking_ite marking_quiet
      (marking_ite (Marking.trans marking_quiet (marking_endFault _ (c := .forceStuck) (by decide))) marking_quiet)

theorem marking_judgeStuck (s : State) : Marking s (judgeStuck s) :=
  marking_ite ((Marking.trans marking_quiet (marking_reportFault _ _)).trans (marking_degrade _ _)) (.refl s)

theorem marking_restoreContact (s : State) (fx fy fz : Half) : Marking s (restoreContact s fx fy fz) :=
  (Marking.trans marking_quiet (marking_enterSample _ _ _ _)).trans (marking_recordEvent _ _ _)

theorem marking_recoveryStep (s : State) (fx fy fz : Half) : Marking s (recoveryStep s fx fy fz) :=
  marking_ite (marking_ite (marking_ite (marking_restoreContact _ _ _ _) marking_quiet) marking_quiet) (.refl s)

theorem marking_judgeSample (s : State) : Marking s (judgeSample s) :=
  marking_ite ((marking_setContact _ _).trans (marking_judgeSlip _)) (.refl s)

theorem marking_takeSample (s : State) (fx fy fz : Half) : Marking s (takeSample s fx fy fz) :=
  ((((((marking_enterSample s fx fy fz).trans (marking_restartWatch _)).trans (marking_stuckStep _ fz)).trans
    (marking_judgeStuck _)).trans (marking_recoveryStep _ fx fy fz)).trans (marking_judgeSample _)).trans marking_quiet

theorem marking_handStatus (s : State) (q : P3) : Marking s (handStatus s q) :=
  marking_ite (marking_ite (Marking.trans marking_quiet (marking_setContact _ _))
    (marking_ite (marking_setContact _ _) (.refl s))) (.refl s)

theorem marking_closeReply (s : State) : Marking s (closeReply s) :=
  marking_ite (Marking.trans marking_quiet (marking_endFault _ (c := .driveLost) (by decide))) marking_quiet

theorem marking_raiseDriveFault (s : State) (off : Bool) : Marking s (raiseDriveFault s off) :=
  marking_ite (.refl s) (Marking.trans marking_quiet (marking_reportFault _ (.driveFault off)))

theorem marking_endDriveFault (s : State) : Marking s (endDriveFault s) :=
  marking_ite (Marking.trans marking_quiet (marking_endFault _ (c := .driveFault) (by decide))) (.refl s)

theorem marking_driveReply (s : State) (d : DriveState) (q : P3) : Marking s (driveReply s d q) := by
  have measured (b : Bool) : Marking s (setDriveLimit (takeMeasured s q) b) := marking_quiet
  have set (t : State) : Marking t (setStarted t) := marking_quiet
  cases d with
  | ok => exact (((measured false).trans (marking_endDriveFault _)).trans (set _)).trans (marking_handStatus _ q)
  | limit => exact (((measured true).trans (marking_endDriveFault _)).trans (set _)).trans (marking_handStatus _ q)
  | fault => exact ((measured false).trans (marking_raiseDriveFault _ false)).trans (marking_handStatus _ q)
  | off =>
    have limited : Marking s (setDriveLimit s false) := marking_quiet
    exact marking_ite (limited.trans (marking_raiseDriveFault _ true)) limited

/-! ## The node's own clock -/

theorem marking_motion (s : State) (before : LegState) : Marking s (motion s before).1 := by
  have standing : Marking s (moveStanding s before) := (reads_footReads s).marking.trans marking_quiet
  unfold motion
  split
  · exact standing
  · exact standing
  · exact standing
  · unfold moveSwing
    split
    · exact marking_quiet
    · split <;> exact marking_quiet
  · unfold moveSearch
    split <;> exact marking_quiet
  · exact marking_quiet
  · rw [moveHold_eq]
    exact marking_quiet
  · exact .refl s
  · exact .refl s

theorem marking_clampFoot (s : State) : Marking s (clampFoot s) := by
  have watched (t : State) (a : Axes) : Marking t (watchClamp t a) :=
    marking_ite (marking_ite marking_quiet (Marking.trans marking_quiet (marking_reportFault _ _)))
      (marking_ite (Marking.trans marking_quiet (marking_endFault _ (c := .workspaceClamp) (by decide))) marking_quiet)
  exact marking_ite (.refl s) (marking_ite (Marking.trans marking_quiet (watched _ _)) marking_quiet)

theorem marking_actOnEnd (s : State) (m : Option MotionEnd) : Marking s (actOnEnd s m) := by
  match m with
  | none => exact .refl s
  | some .swingEnd => exact marking_enterSearch s
  | some .stubRiseEnd => exact marking_ite marking_quiet (marking_enterLoad s)
  | some .searchBottom => exact marking_exhaustSearch s
  | some .replaceEnd => exact marking_ite (Marking.trans marking_quiet (marking_enterLoad _)) marking_quiet

theorem marking_controlPeriod {s : State} (hleg : s.pe.leg ≠ .setup) : Marking s (controlPeriod s) := by
  have decided : Marking s (decide2 (advancePhase s)) :=
    Marking.trans (t := advancePhase s) marking_quiet (judges_decide2 (s := advancePhase s) hleg).1.marking
  have sent : Marking (decide2 (advancePhase s))
      (sendSetpoint (clampFoot (motion (decide2 (advancePhase s)) s.pe.leg).1)) :=
    ((marking_motion _ _).trans (marking_clampFoot _)).trans marking_quiet
  exact (decided.trans sent).trans (marking_actOnEnd _ _)

theorem marking_passLift (s : State) : Marking s (passLift s) := by
  unfold passLift
  have lifted := (reads_liftConditions s).marking
  split
  next e => rw [e] at lifted; exact lifted.trans marking_quiet
  next e => rw [e] at lifted; exact lifted.trans (Marking.trans marking_quiet (marking_handNotice _ .lift))

theorem marking_cancelUnload (s : State) : Marking s (cancelUnload s) :=
  Marking.trans marking_quiet (marking_handNotice _ .withdraw)

theorem marking_completeCheck (s : State) (sn : Snapshot) : Marking s (completeCheck s sn) := by
  refine Marking.trans (t := { s with scu := { checking := false, inFlight := none
                                               last := checkResult sn s.marginM s.corridorW s.swayMax } })
    marking_quiet (marking_ite ?_ (.refl _))
  dsimp only
  split
  · exact marking_ite (Marking.trans marking_quiet (marking_passLift _)) marking_quiet
  · exact marking_ite marking_quiet (Marking.trans marking_quiet (marking_cancelUnload _))
  · exact marking_quiet

theorem marking_expireLoad (s : State) : Marking s (expireLoad s) :=
  ((marking_enterStance s false).trans (marking_reportFault _ (.plain .weakFoothold))).trans marking_quiet

/-! ## The Control commands -/

theorem marking_takeStart (s : State) : Marking s (takeStart s) := by
  have entered : Marking s { s with
      pe := { s.pe.enter .stance with phi := 0#16, steps := 0#8 }, tu := { s.tu with p := s.tu.measured } } :=
    marking_quiet
  have begun : Marking s (beginWalk s) := (entered.trans (marking_changePoint _)).trans marking_quiet
  exact marking_ite (marking_ite (marking_recordEvent _ _ _) (marking_ite begun (marking_recordEvent _ _ _))) (.refl s)

theorem marking_takeResume (s : State) : Marking s (takeResume s) := by
  have refused : Marking s (refuseResume s) := (marking_placeFrame s _).trans (marking_recordEvent _ _ _)
  have told : Marking s (recordHeldAlarms s) :=
    marking_ite (.refl s) ((marking_recordEvent _ _ _).trans marking_quiet)
  have phased (t : State) : Marking t { t with pe := { t.pe with phi := 0#16 } } := marking_quiet
  have left (t : State) : Marking t (leaveHold t) := ((phased t).trans (marking_changePoint _)).trans marking_quiet
  have entered (t : State) : Marking t (resumeEnter t) := by
    unfold resumeEnter
    split <;> exact marking_quiet
  have walked : Marking s (resumeWalk s) := ((told.trans (left _)).trans (entered _)).trans (marking_recordEvent _ _ _)
  exact marking_ite (marking_ite refused walked) (.refl s)

theorem marking_placeDiagnostic (s : State) (block : Nat) : Marking s (placeDiagnostic s block) :=
  (marking_ite (reads_judgeRole s .mission).marking (.refl s)).trans (marking_placeFrame _ _)

/-! ## What a command marks -/

/-- From `s` to `t` stale marks have been set on records past their limit only, each with its silence fault latched and
active. -/
structure Shown (s t : State) : Prop where
  us : t.time.us = s.time.us
  marks : ∀ n q, t.record n = some q → q.stale = true → s.record n = some q ∨
    (staleLimit s q < ageOf s q.tag ∧ t.flt.flags[(silenceOf q.part).idx] = true ∧
      t.flt.conds[(silenceOf q.part).idx] = true)

theorem Shown.of {s t : State} (h : Marking s t) : Shown s t := ⟨h.us, h.marks⟩

/-- Where the records stay, or have no marks any more, nothing is marked. -/
theorem Shown.same {s t : State} (hus : t.time.us = s.time.us := by simp) (hrec : t.pt.records = s.pt.records := by simp) :
    Shown s t :=
  ⟨hus, fun n q hq _ => .inl (by rw [← hq, State.record, State.record, hrec])⟩

theorem Shown.refl (s : State) : Shown s s := .of (.refl s)

theorem shown_ite {s t u : State} {c : Prop} [Decidable c] (ht : c → Shown s t) (hu : ¬ c → Shown s u) :
    Shown s (if c then t else u) := by
  split
  next h => exact ht h
  next h => exact hu h

/-- Before its reads a command may have stored a record with no mark. -/
theorem Shown.after {s u t : State} (hus : u.time.us = s.time.us) (hsetup : u.setup = s.setup)
    (hrec : ∀ n q, u.record n = some q → q.stale = true → s.record n = some q) (h : Shown u t) : Shown s t := by
  refine ⟨h.us.trans hus, fun n q hq hs => ?_⟩
  obtain hr | ⟨hold, hmarked⟩ := h.marks n q hq hs
  · exact .inl (hrec n q hr hs)
  · rw [staleLimit_congr hsetup, ageOf, hus] at hold
    exact .inr ⟨hold, hmarked⟩


theorem shown_receive {s : State} {ok : Bool} {f : RxFrame} {k : FrameKind} {d : State → State}
    (h : ∀ u, u.time = s.time → u.setup = s.setup → u.pt = s.pt → (u.pe.leg = .setup → takenInSetup k = true) →
      Shown u (d u)) : Shown s (receive s ok f k d) := by
  obtain (e | e) | e | e | e | ⟨hk, e⟩ := receive_cases s ok f k d <;> rw [e]
  · exact .refl s
  · exact .same rfl rfl
  · refine .same ?_ ?_
    · exact congrArg TimeBase.us (reportFault_frame (countGood (endReception s 0)) (.stationClash k s.time.us)).1
    · exact congrArg PeerTable.records (reportFault_pt (countGood (endReception s 0)) (.stationClash k s.time.us))
  · exact .same rfl rfl
  · exact .same rfl rfl
  · have hheard := h (countGood (endReception s 0)) rfl rfl rfl hk
    exact .after (u := countGood (endReception s 0)) rfl rfl (fun _ _ hr _ => hr) hheard

theorem shown_receiveControl {s : State} {f : RxFrame} {code : Nat} {act : State → State}
    (h : ∀ u, u.pe.leg ≠ .setup → Shown u (act u)) : Shown s (receiveControl s f code act) :=
  shown_receive fun u _ _ _ hleg => shown_ite
    (fun _ => shown_ite (fun _ => h u fun e => absurd (hleg e) (by decide)) fun _ => .same rfl rfl)
    fun _ => shown_ite (fun _ => .same rfl rfl) fun _ => .refl u

theorem shown_failReception {s : State} {ok : Bool} {n : Nat} {count : State → State}
    (h : ∀ t, markBasis (count t) = markBasis t) : Shown s (failReception s ok n count) :=
  shown_ite (fun _ => .refl s) fun _ => shown_ite (fun _ => .same rfl rfl)
    fun _ => .of (marking_quiet ((h _).trans rfl))

theorem shown_failUncounted {s : State} {ok : Bool} {n : Nat} {count : State → State}
    (h : ∀ t, markBasis (count t) = markBasis t) : Shown s (failUncounted s ok n count) :=
  shown_failReception fun t => by
    split
    · rfl
    · exact h t

/-! ## Frames that are stored -/

/-- A record that is stored carries no mark (section 3.2). -/
theorem unmarked_store (s : State) (src : Fin 8) (g : Bool) (p : Part) (role : Role) (n : Fin 8) (q : Record)
    (hq : (storePart s src g p role).record n = some q) (hs : q.stale = true) : s.record n = some q := by
  obtain ⟨r, hr⟩ : ∃ r : Record, r = { tag := s.time.us, stale := false, guard := g, part := p } := ⟨_, rfl⟩
  have hrecords : (storePart s src g p role).pt.records = s.pt.records.set src (some r) := by
    rw [hr]
    unfold storePart silenceEnd
    split
    · split <;> rfl
    · split <;> rfl
    · split <;> rfl
    · rfl
  rw [State.record, hrecords] at hq
  by_cases hn : src = n
  · subst hn
    rw [show (s.pt.records.set src (some r))[src] = _ from Vector.getElem_set_self _] at hq
    rw [← Option.some.inj hq, hr] at hs
    cases hs
  · exact (Vector.getElem_set_ne src.isLt n.isLt fun e => hn (Fin.ext e)).symm.trans hq

/-- What follows the storage of a record leaves the records. -/
theorem shown_stored {s t : State} {src : Fin 8} {g : Bool} {p : Part} {role : Role}
    (hus : t.time.us = s.time.us := by simp) (hrec : t.pt = (storePart s src g p role).pt) : Shown s t :=
  ⟨hus, fun n q hq hs => .inl (unmarked_store s src g p role n q (by rwa [State.record, hrec] at hq) hs)⟩

theorem positionClash_records (s : State) (src : Fin 8) (p : LegPos) :
    (positionClash s src p).pt.records = s.pt.records := by
  unfold positionClash
  dsimp only
  split
  · rw [reportFault_pt]
  · rfl

theorem shown_positionClash (s : State) (src : Fin 8) (p : LegPos) : Shown s (positionClash s src p) :=
  .same (by simp) (positionClash_records s src p)

theorem hearNotice_frame (s : State) (src : Fin 8) (f : RxFrame) :
    (hearNotice s src f).time = s.time ∧ (hearNotice s src f).pt = s.pt := by
  unfold hearNotice
  split
  · unfold hearLift
    split
    · split
      · exact ⟨rfl, rfl⟩
      · split
        · exact ⟨(placeFrame_frame s _).1, (placeFrame_frame s _).2.2.2.1⟩
        · exact ⟨rfl, rfl⟩
    · exact ⟨rfl, rfl⟩
  · split
    · obtain ⟨htime, -, -, hpt, -⟩ := namedInConflict_frame s src
      exact ⟨htime, hpt⟩
    · exact ⟨rfl, rfl⟩

theorem shown_takeNotice (s : State) (src : Fin 8) (f : RxFrame) : Shown s (takeNotice s src f) := by
  refine shown_ite (fun _ => shown_positionClash s src _) fun _ => ?_
  obtain ⟨htime, hpt⟩ := hearNotice_frame (storeNotice s src f) src f
  exact shown_stored (by rw [htime]; simp) hpt

theorem shown_takeLegReport (s : State) (src : Fin 8) (f : RxFrame) : Shown s (takeLegReport s src f) :=
  shown_ite (fun _ => shown_positionClash s src _) fun _ => shown_stored (by simp) rfl

theorem tiltTest_records (s : State) (b : BodyPart) : (tiltTest s b).pt.records = s.pt.records := by
  unfold tiltTest
  split
  · split
    · rfl
    · rw [reportFault_pt]
  · split <;> rfl

theorem shown_storeBody (s : State) (src : Fin 8) (f : RxFrame) : Shown s (storeBody s src f) :=
  ⟨by simp, fun n q hq hs => .inl
    (unmarked_store s src false (.body (decodeBody f)) .body n q
      (by rwa [State.record, storeBody, tiltTest_records] at hq) hs)⟩

theorem shown_storeIntent (s : State) (src : Fin 8) (f : RxFrame) : Shown s (storeIntent s src f) := by
  have hpt := (recordEvent_frame (storePart s src false (.mission (decodeIntent f)) .mission) .intentClamped
    (decodeIntent f).clampSet).2.2.2.1
  exact shown_ite (fun _ => shown_stored (by simp) hpt) fun _ => shown_stored (by simp) rfl

/-! ## Every command -/

theorem completeSetup_keeps (s : State) :
    (completeSetup s).time.us = s.time.us ∧ (completeSetup s).pt.records = s.pt.records := by
  have clamped (v : State) : (reportClamped v).time = v.time ∧ (reportClamped v).pt = v.pt := by
    unfold reportClamped
    split
    · exact ⟨rfl, rfl⟩
    · exact ⟨(reportOccurrence_frame _ _).1, (reportOccurrence_frame _ _).2.2.2.1⟩
  have placed (t : State) : (placeDiagnostic t 0).time = t.time ∧ (placeDiagnostic t 0).pt = t.pt :=
    ⟨(placeDiagnostic_frame t 0).1, (placeFrame_frame t _).2.2.2.1⟩
  have released (t : State) : (placeDiagnostic (examineSchedule (releaseNode t)) 0).time.us = t.time.us ∧
      (placeDiagnostic (examineSchedule (releaseNode t)) 0).pt.records = t.pt.records := by
    rw [(placed _).1, (placed _).2, (examineSchedule_frame _).1, (examineSchedule_frame _).2.2.2.1]
    exact ⟨rfl, rfl⟩
  obtain ⟨hus, hrec⟩ := released (reportClamped (settledState s))
  rw [completeSetup_eq]
  obtain ⟨htime, hpt⟩ := clamped (settledState s)
  rw [hus, hrec, htime, hpt]
  simp only [settledState, and_self]

theorem shown_handSetup (s : State) (f : RxFrame) : Shown s (handSetup s f) := by
  refine shown_ite (fun _ => shown_ite (fun _ => ?_) fun _ => .same rfl rfl) fun _ => .refl s
  unfold takeSetup
  split
  next hindex =>
    obtain ⟨u, hu⟩ : ∃ u : State, u = { s with setup := { s.setup with
      words := s.setup.words.set (f.b 1).toNat (halfAt f.payload 2) hindex, ptr := s.setup.ptr + 1 } } := ⟨_, rfl⟩
    have hkept : u.time = s.time ∧ u.pt = s.pt := by rw [hu]; exact ⟨rfl, rfl⟩
    obtain ⟨hus, hrec⟩ := completeSetup_keeps u
    rw [hkept.1] at hus
    rw [hkept.2] at hrec
    dsimp only
    rw [← hu]
    split
    · split
      · exact .same hus hrec
      · exact .same (by rw [hkept.1]) (by rw [hkept.2])
    · split
      · exact .same rfl rfl
      · exact .same rfl rfl
  · exact .same rfl rfl

theorem shown_takeClear (s : State) : Shown s (takeClear s) := by
  have told (u : State) (hus : u.time = s.time) (hrec : u.pt = s.pt) :
      Shown s (recordEvent u .faultsCleared (BitVec.ofNat 8 (latchedCount u))) :=
    .same (by rw [(recordEvent_frame u _ _).1, hus]) (by rw [(recordEvent_frame u _ _).2.2.2.1, hrec])
  exact told (dropFlags s) (by rw [dropFlags]) (by rw [dropFlags])

theorem marking_loseLink (s : State) : Marking s (loseLink s) := by
  have lost : Marking s (let t : State := { s with fsu := { s.fsu with watch := none } }
      if s.fsu.linkCond then t
      else degrade (reportFault { t with fsu := { t.fsu with linkCond := true } } (.plain .footLinkLost)) .link) :=
    marking_ite marking_quiet ((Marking.trans marking_quiet (marking_reportFault _ _)).trans (marking_degrade _ _))
  exact lost.trans marking_quiet

/-- A command answers a state in which it has marked by age alone. -/
def ShownBy (c : Instr) (s : State) : Prop :=
  ∃ t, exec c s = .next t ∧ ∀ dt, dtOf c = some dt → Shown (elapse s dt) t

theorem shownBy {c : Instr} {s t : State} {dt : Nat} (hdt : dtOf c = some dt) (h : exec c s = .next t)
    (hk : Shown (elapse s dt) t) : ShownBy c s :=
  ⟨t, h, fun d hd => by rw [hdt] at hd; obtain rfl := Option.some.inj hd; exact hk⟩

theorem marking_enterIdle (s : State) : Marking s (enterIdle s) :=
  marking_ite (Marking.trans marking_quiet ((marking_endFault _ (c := .busStuck) (by decide)).trans
    (marking_recordEvent _ _ _))) marking_quiet

theorem shown_abortFrame (s : State) (f : TxFrame) : Shown s (abortFrame s f) := by
  obtain ⟨u, hu⟩ : ∃ u : State, u = followAborted { countTxError (endAttempt (withFrames s (dropLocked s.txq.frames))) with
      sbi := { (countTxError (endAttempt (withFrames s (dropLocked s.txq.frames)))).sbi with
        finishing := if s.sentBit = some false then bitRest s else 0 } } := ⟨_, rfl⟩
  have hbasis : u.time = s.time ∧ u.pt = s.pt := by
    rw [hu]
    exact ⟨(followAborted_frame _).1, (followAborted_frame _).2.2.1⟩
  have hframe : (if f.isLift then claimFailed u else u).time = u.time ∧
      (if f.isLift then claimFailed u else u).pt = u.pt := by
    split
    · exact ⟨(claimFailed_frame u).1, (claimFailed_frame u).2.2.2.1⟩
    · exact ⟨rfl, rfl⟩
  have hshown : Shown s (offerEvent (if f.isLift then claimFailed u else u)) := by
    refine .same ?_ ?_
    · rw [(offerEvent_frame _).1, hframe.1, hbasis.1]
    · rw [(offerEvent_frame _).2.2.2.1, hframe.2, hbasis.2]
  have habort : abortFrame s f = offerEvent (if f.isLift then claimFailed u else u) := by
    rw [hu]; rfl
  rw [habort]
  exact hshown

theorem shown_completeFrame (s : State) (f : TxFrame) : Shown s (completeFrame s f) := by
  have told (u : State) : (tellCompleted u f).time = u.time ∧ (tellCompleted u f).pt = u.pt := by
    unfold tellCompleted
    dsimp only
    rw [(offerEvent_frame _).1, (offerEvent_frame _).2.2.2.1]
    dsimp only
    split
    · exact ⟨(claimCompleted_frame u).1, (claimCompleted_frame u).2.2.2.1⟩
    · split <;> exact ⟨rfl, rfl⟩
  obtain ⟨htime, hpt⟩ := told (countSent (endReception (endAttempt (withFrames s (dropLocked s.txq.frames))) 0))
  exact .same (congrArg TimeBase.us htime) (congrArg PeerTable.records hpt)

theorem shown_takeAlarm (s : State) (src : Fin 8) (cause : Byte) : Shown s (takeAlarm s src cause) :=
  shown_ite (fun _ => .same rfl rfl) fun _ => shown_ite (fun _ => .same (by simp) (by simp)) fun _ => .same

theorem shown_restartNode {s : State} (hleg : s.pe.leg ≠ .setup) : Shown s (restartNode s) := by
  unfold restartNode
  rw [if_neg hleg]
  refine ⟨(congrArg TimeBase.us (examineSchedule_frame (restartBlocks s)).1).trans rfl, fun n q hq _ => ?_⟩
  have hempty : (restartBlocks s).pt.records[n] = none := by
    fin_cases n <;> rfl
  rw [State.record, (examineSchedule_frame _).2.2.2.1] at hq
  exact absurd (hempty.symm.trans hq) nofun

/-- Every command marks by age alone (R53, R54). -/
theorem exec_shownBy (c : Instr) (s : State) : ShownBy c s := by
  cases c with
  | fullReset n r => exact ⟨_, rfl, nofun⟩
  | interframeSpace dt => exact shownBy rfl rfl (shown_ite (fun _ => .of (marking_enterIdle _)) fun _ => .refl _)
  | txBegin dt deferred =>
    refine shownBy rfl rfl (shown_ite (fun _ => ?_) fun _ => .refl _)
    split
    · exact .refl _
    · exact shown_ite (fun _ => .same rfl rfl) fun _ => .same rfl rfl
  | arbitrationLoss dt bit =>
    refine shownBy rfl rfl ?_
    split
    · exact shown_ite (fun _ => shown_ite (fun _ => .same rfl rfl) fun _ => .same rfl rfl) fun _ => .refl _
    · exact .refl _
  | txAbort dt level =>
    refine shownBy rfl rfl ?_
    split
    · exact shown_ite (fun _ => shown_abortFrame _ _) fun _ => .refl _
    · exact .refl _
  | txCompletion dt =>
    refine shownBy rfl rfl ?_
    split
    · exact shown_ite (fun _ => shown_completeFrame _ _) fun _ => .refl _
    · exact .refl _
  | framingError dt got field =>
    refine shownBy rfl rfl (shown_ite (fun _ => ?_) fun _ => shown_failUncounted fun _ => rfl)
    exact shown_ite (fun _ => .refl _) fun _ => shown_ite (fun _ => .same rfl rfl) fun _ => .same rfl rfl
  | truncation dt got => exact shownBy rfl rfl (shown_failUncounted fun _ => rfl)
  | claimParityError dt claim => exact shownBy rfl rfl (shown_failReception fun _ => rfl)
  | unknownKind dt claim => exact shownBy rfl rfl (shown_failReception fun _ => rfl)
  | checkError dt frame => exact shownBy rfl rfl (shown_failUncounted fun _ => rfl)
  | stationClash dt frame =>
    refine shownBy rfl rfl ?_
    split
    · exact shown_receive fun u _ _ _ _ => .refl u
    · exact .refl _
  | sbiClashWatchExpiry dt => exact shownBy rfl rfl (shown_ite (fun _ => .same rfl rfl) fun _ => .refl _)
  | busStuck dt =>
    exact shownBy rfl rfl (shown_ite (fun _ => .refl _)
      fun _ => .of (Marking.trans marking_quiet (marking_reportFault _ (.plain .busStuck))))
  | setupFrame dt frame => exact shownBy rfl rfl (shown_receive fun u _ _ _ _ => shown_handSetup u frame)
  | alarmReceived dt frame => exact shownBy rfl rfl (shown_receive fun u _ _ _ _ => shown_takeAlarm u _ _)
  | phaseNoticeReceived dt frame => exact shownBy rfl rfl (shown_receive fun u _ _ _ _ => shown_takeNotice u _ frame)
  | legReportReceived dt frame => exact shownBy rfl rfl (shown_receive fun u _ _ _ _ => shown_takeLegReport u _ frame)
  | bodyReportReceived dt frame => exact shownBy rfl rfl (shown_receive fun u _ _ _ _ => shown_storeBody u _ frame)
  | intentReceived dt frame => exact shownBy rfl rfl (shown_receive fun u _ _ _ _ => shown_storeIntent u _ frame)
  | infoFrameReceived dt frame =>
    refine shownBy rfl rfl ?_
    split
    · exact shown_receive fun u _ _ _ _ => .refl u
    · exact .refl _
  | start dt frame => exact shownBy rfl rfl (shown_receiveControl fun u _ => .of (marking_takeStart u))
  | restart dt frame => exact shownBy rfl rfl (shown_receiveControl fun u hleg => shown_restartNode hleg)
  | resume dt frame => exact shownBy rfl rfl (shown_receiveControl fun u _ => .of (marking_takeResume u))
  | clearFaults dt frame =>
    exact shownBy rfl rfl (shown_receiveControl fun u _ => shown_takeClear u)
  | query dt frame =>
    exact shownBy rfl rfl (shown_receiveControl fun u _ =>
      shown_ite (fun _ => .of (marking_placeDiagnostic u _)) fun _ => .refl u)
  | eventTest dt frame => exact shownBy rfl rfl (shown_receiveControl fun u _ => .of (marking_recordEvent u _ _))
  | ageingRead dt =>
    exact shownBy rfl rfl (shown_ite (fun _ => .of (Reads.foldl reads_judge _ _).marking) fun _ => .refl _)
  | ptClashWatchExpiry dt => exact shownBy rfl rfl (shown_ite (fun _ => .same rfl rfl) fun _ => .refl _)
  | forceSampleGood dt bytes =>
    have ended : Marking (elapse s dt) (endFootFrame (elapse s dt)) := marking_quiet
    exact shownBy rfl rfl (shown_ite (fun _ => .of (ended.trans
      (marking_ite (.refl _) (marking_takeSample _ _ _ _)))) fun _ => .refl _)
  | forceSampleBad dt ended => exact shownBy rfl rfl (shown_ite (fun _ => .same rfl rfl) fun _ => .refl _)
  | forceSampleUnfit dt bytes => exact shownBy rfl rfl (shown_ite (fun _ => .same rfl rfl) fun _ => .refl _)
  | footLinkLost dt =>
    exact shownBy rfl rfl (shown_ite (fun _ => .of (marking_loseLink _)) fun _ => .refl _)
  | statusReply dt bytes =>
    refine shownBy rfl rfl (shown_ite (fun _ => ?_) fun _ => .refl _)
    split
    · exact .of ((Marking.trans marking_quiet (marking_closeReply _)).trans (marking_driveReply _ _ _))
    · exact .refl _
  | badReply dt ended => exact shownBy rfl rfl (shown_ite (fun _ => .same rfl rfl) fun _ => .refl _)
  | setpointEnd dt => exact shownBy rfl rfl (shown_ite (fun _ => .same rfl rfl) fun _ => .refl _)
  | answerWindowClose dt =>
    exact shownBy rfl rfl (shown_ite (fun _ => .of (marking_ite
      (Marking.trans marking_quiet (marking_reportFault _ (.plain .driveLost))) marking_quiet)) fun _ => .refl _)
  | controlPeriodExpiry dt =>
    exact shownBy rfl rfl (shown_ite (fun h => .of (Marking.trans marking_quiet (marking_controlPeriod h.2)))
      fun _ => .refl _)
  | supportCheckResult dt =>
    refine shownBy rfl rfl ?_
    split
    · exact .of (marking_completeCheck _ _)
    · exact .refl _
  | claimTimerExpiry dt =>
    exact shownBy rfl rfl (shown_ite (fun _ => shown_ite (fun _ => .same rfl rfl) fun _ => .same rfl rfl) fun _ => .refl _)
  | unloadTimerExpiry dt =>
    exact shownBy rfl rfl (shown_ite (fun _ => .of ((marking_recordEvent _ _ _).trans (marking_cancelUnload _)))
      fun _ => .refl _)
  | footholdTimerExpiry dt =>
    refine shownBy rfl rfl (shown_ite (fun _ => ?_) fun _ => .refl _)
    unfold expireFoothold
    dsimp only
    split
    · exact .same rfl rfl
    · exact shown_ite (fun _ => .same rfl rfl)
        fun _ => .of (Marking.trans marking_quiet (marking_exhaustSearch _))
    · exact .same rfl rfl
  | loadTimerExpiry dt => exact shownBy rfl rfl (shown_ite (fun _ => .of (marking_expireLoad _)) fun _ => .refl _)
  | slipTimerExpiry dt =>
    exact shownBy rfl rfl (shown_ite (fun _ => .of (Marking.trans marking_quiet (marking_reportFault _ _)))
      fun _ => .refl _)
  | epochTick dt =>
    refine shownBy rfl rfl (shown_ite (fun _ => .same ?_ ?_) fun _ => .refl _)
    · exact (congrArg TimeBase.us (examineSchedule_frame _).1).trans rfl
    · exact congrArg PeerTable.records (examineSchedule_frame _).2.2.2.1
  | footLinkIdle dt => exact shownBy rfl rfl (shown_ite (fun _ => .same rfl rfl) fun _ => .refl _)
  | driveLinkIdle dt => exact shownBy rfl rfl (shown_ite (fun _ => .same rfl rfl) fun _ => .refl _)


end Sys2Proof.AgeingMarks
end

section
/-! The ageing read (R55): every peer's record is judged, lowest station first, and what each judgement tells adds up to the
marks, faults and events of all. -/

-- Elaborated in order: elaborated at once, the many proofs here take more threads than the check has memory for.
set_option Elab.async false

namespace Sys2Proof.AgeingReads
open Sys2Proof Sys2Proof.Machine Sys2Proof.Laws Sys2Proof.Keeping Sys2Proof.ClassAFaults Sys2Proof.LineFaults
  Sys2Proof.Telling Sys2Proof.Reading Sys2Proof.AgeingMarks

/-! ## One judgement that marks -/

/-- The Peer Table with the silence of a part's role (R54). -/
def silenced (T : PeerTable) : Part → PeerTable
  | .leg _ => { T with peerSilent := true }
  | .body _ => { T with bodySilent := true }
  | .mission _ => { T with intentSilent := true }

/-- The report of a silence (R54). -/
def silenceReport (n : Fin 8) : Part → Report
  | .leg _ => .peerSilent n
  | .body _ => .plain .bodySilent
  | .mission _ => .plain .intentSilent

theorem silenceReport_fault (n : Fin 8) (p : Part) : (silenceReport n p).fault = silenceOf p := by
  cases p <;> rfl

/-- The state in which a judgement that marks reports the silence (R53, R54). -/
def marking (t : State) (n : Fin 8) (r : Record) : State :=
  { t with pt := silenced { t.pt with records := t.pt.records.set n (some { r with stale := true }) } r.part }

theorem judge_marks {t : State} {n : Fin 8} {r : Record} (hr : t.record n = some r) (hs : r.stale = false)
    (hold : staleLimit t r < ageOf t r.tag) : judge t n = reportFault (marking t n r) (silenceReport n r.part) := by
  unfold judge
  rw [hr]
  dsimp only
  rw [if_neg (by rw [hs]; exact Bool.false_ne_true), if_pos hold]
  unfold raiseSilence silenceReport marking silenced
  cases r.part <;> rfl

theorem judge_quiet {t : State} {n : Fin 8} (h : ∀ r, t.record n = some r → r.stale = true ∨ ageOf t r.tag ≤ staleLimit t r) :
    judge t n = t := by
  unfold judge
  cases hr : t.record n with
  | none => rfl
  | some r =>
    dsimp only
    obtain hs | hyoung := h r hr
    · rw [if_pos hs]
    · rw [if_neg (Nat.not_lt.2 hyoung), ite_self]

/-! ## The peers in their order -/

section Order
variable (e : State)

/-- The silence fault of a peer's record that a read marks. -/
def silent (n : Fin 8) : Option FaultCode := (markedPart e n).map silenceOf

/-- The stations below `k`. -/
def upto (k : Nat) : List (Fin 8) := (List.finRange 8).take k

theorem mem_upto {k : Nat} {n : Fin 8} : n ∈ upto k ↔ n.val < k := by
  unfold upto
  rw [List.mem_take_iff_getElem]
  constructor
  · rintro ⟨i, hi, rfl⟩
    simp at hi ⊢
    omega
  · intro h
    exact ⟨n.val, by simp; omega, by simp⟩

theorem upto_succ {k : Nat} (h : k < 8) : upto (k + 1) = upto k ++ [⟨k, h⟩] := by
  unfold upto
  rw [List.take_add_one, List.getElem?_eq_getElem (by simpa using h)]
  simp

theorem upto_all : upto 8 = List.finRange 8 := rfl

/-- Some station below `k` has a record that a read marks for this fault. -/
def silentBelow (k : Nat) (c : FaultCode) : Bool := (upto k).any fun n => silent e n == some c

/-- The event of a read of a station's record, among those of the lower ones (R54, R150). -/
def noteAt (n : Fin 8) : List Note :=
  match silent e n with
  | none => []
  | some .peerSilent => [{ bit := 4, code := 0x02, detail := BitVec.ofNat 8 n.val }]
  | some c =>
    if e.flt.flags[c.idx] ∨ ∃ m < n, silent e m = some c then [] else [{ bit := 4, code := 0x01, detail := c.code }]

def notesBelow (k : Nat) : List Note := (upto k).flatMap (noteAt e)

theorem silenceNotes_eq : silenceNotes e = notesBelow e 8 := rfl

theorem newlySilent_eq (c : FaultCode) : newlySilent e c = silentBelow e 8 c := rfl

variable {e}

theorem silentBelow_succ {k : Nat} (h : k < 8) (c : FaultCode) :
    silentBelow e (k + 1) c = (silentBelow e k c || silent e ⟨k, h⟩ == some c) := by
  rw [silentBelow, upto_succ h, List.any_append, List.any_cons, List.any_nil, Bool.or_false]
  rfl

theorem notesBelow_succ {k : Nat} (h : k < 8) : notesBelow e (k + 1) = notesBelow e k ++ noteAt e ⟨k, h⟩ := by
  rw [notesBelow, upto_succ h, List.flatMap_append, List.flatMap_singleton]
  rfl

theorem silentBelow_iff {k : Nat} {c : FaultCode} (h : k < 8) :
    silentBelow e k c = true ↔ ∃ m < (⟨k, h⟩ : Fin 8), silent e m = some c := by
  rw [silentBelow, List.any_eq_true]
  simp only [mem_upto, beq_iff_eq]
  rfl

/-- The event of a read, by the flags that the reads before it leave. -/
theorem noteAt_some {k : Nat} {h : k < 8} {c : FaultCode} (hc : silent e ⟨k, h⟩ = some c) (hpeer : c ≠ .peerSilent) :
    noteAt e ⟨k, h⟩ =
      if (e.flt.flags[c.idx] || silentBelow e k c) = true then [] else [{ bit := 4, code := 0x01, detail := c.code }] := by
  have hiff : ((e.flt.flags[c.idx] || silentBelow e k c) = true) ↔
      (e.flt.flags[c.idx] = true ∨ ∃ m < (⟨k, h⟩ : Fin 8), silent e m = some c) := by
    rw [Bool.or_eq_true, silentBelow_iff h]
  unfold noteAt
  rw [hc]
  simp only [hiff]

/-! ## What the reads of the lower stations have left -/

/-- `t` is `e` after the records of the peers below `k` have been read. -/
structure Below (e : State) (k : Nat) (t : State) : Prop where
  reads : Reads e t
  record : ∀ n : Fin 8, t.record n = if n.val < k ∧ n ≠ e.sbi.station then (aged e).record n else e.record n
  table : t.pt = { e.pt with
    records := t.pt.records, peerSilent := e.pt.peerSilent || silentBelow e k .peerSilent
    bodySilent := e.pt.bodySilent || silentBelow e k .bodySilent
    intentSilent := e.pt.intentSilent || silentBelow e k .intentSilent }
  flags : ∀ c : FaultCode, t.flt.flags[c.idx] = (e.flt.flags[c.idx] || silentBelow e k c)
  conds : ∀ c : FaultCode, t.flt.conds[c.idx] = (e.flt.conds[c.idx] || silentBelow e k c)
  sources : t.flt.clashStation = e.flt.clashStation ∧ t.flt.clashPosition = e.flt.clashPosition
  tells : Tells e t (notesBelow e k)

theorem below_zero (e : State) : Below e 0 e where
  reads := .refl e
  record n := by rw [if_neg (by omega)]
  table := by simp only [silentBelow, upto, List.take_zero, List.any_nil, Bool.or_false]
  flags c := (Bool.or_false _).symm
  conds c := (Bool.or_false _).symm
  sources := ⟨rfl, rfl⟩
  tells := .still

/-- One step of the read in order. -/
def readStep (e t : State) (n : Fin 8) : State := if n != e.sbi.station then judge t n else t

/-- A station whose record a read does not mark: the read leaves all as it is. -/
theorem below_quiet {k : Nat} (h : k < 8) {t : State} (hb : Below e k t) (hnone : markedPart e ⟨k, h⟩ = none) :
    Below e (k + 1) (readStep e t ⟨k, h⟩) := by
  obtain ⟨n, hn⟩ : ∃ n : Fin 8, n = ⟨k, h⟩ := ⟨_, rfl⟩
  have hnk : n.val = k := by rw [hn]
  rw [← hn] at hnone ⊢
  have hrec : t.record n = e.record n := by rw [hb.record, if_neg (by omega)]
  have hkept : n ≠ e.sbi.station → ∀ r, e.record n = some r → r.stale = true ∨ ageOf e r.tag ≤ staleLimit e r := by
    intro hne r hr
    unfold markedPart at hnone
    rw [hr] at hnone
    dsimp only at hnone
    split at hnone
    · cases hnone
    next hnot =>
      by_cases hs : r.stale = true
      · exact .inl hs
      · refine .inr (Nat.not_lt.1 fun hold => hnot ⟨hne, by simpa using hs, hold⟩)
  have hsame : readStep e t n = t := by
    unfold readStep
    split
    next hne =>
      refine judge_quiet fun r hr => ?_
      rw [staleLimit_congr hb.reads.setup, ageOf, hb.reads.time]
      exact hkept (by simpa using hne) r (by rwa [← hrec])
    · rfl
  have hsilent : silent e ⟨k, h⟩ = none := by rw [← hn, silent, hnone]; rfl
  have hbelow (c : FaultCode) : silentBelow e (k + 1) c = silentBelow e k c := by
    rw [silentBelow_succ h, hsilent]
    exact Bool.or_false _
  have hnotes : notesBelow e (k + 1) = notesBelow e k := by
    rw [notesBelow_succ h, noteAt, hsilent, List.append_nil]
  rw [hsame]
  refine ⟨hb.reads, fun m => ?_, ?_, fun c => ?_, fun c => ?_, hb.sources, ?_⟩
  · rw [hb.record]
    by_cases hm : m = n
    · have hmk : m.val = k := by rw [hm, hnk]
      rw [if_neg (by omega)]
      split
      next hne =>
        rw [record_aged, hm]
        cases hr : e.record n with
        | none => rfl
        | some r =>
          rw [Option.map_some, agedRecord_of_not_marks ((hkept (hm ▸ hne.2) r hr).imp_right Nat.not_lt.2)]
      · rfl
    · have hmk : m.val ≠ k := fun hv => hm (by rw [hn]; exact Fin.ext hv)
      have hiff : (m.val < k + 1 ∧ m ≠ e.sbi.station) ↔ (m.val < k ∧ m ≠ e.sbi.station) := by omega
      simp only [hiff]
  · rw [hbelow, hbelow, hbelow]; exact hb.table
  · rw [hbelow]; exact hb.flags c
  · rw [hbelow]; exact hb.conds c
  · rw [hnotes]; exact hb.tells

/-- A station whose record a read marks. -/
theorem below_marks {k : Nat} (h : k < 8) {t : State} (hb : Below e k t) {p : Part} (hp : markedPart e ⟨k, h⟩ = some p) :
    Below e (k + 1) (readStep e t ⟨k, h⟩) := by
  obtain ⟨n, hn⟩ : ∃ n : Fin 8, n = ⟨k, h⟩ := ⟨_, rfl⟩
  have hnk : n.val = k := by rw [hn]
  rw [← hn] at hp ⊢
  have hsilent : silent e ⟨k, h⟩ = some (silenceOf p) := by rw [← hn, silent, hp]; rfl
  have hbelow (c : FaultCode) : silentBelow e (k + 1) c = (silentBelow e k c || silenceOf p == c) := by
    rw [silentBelow_succ h, hsilent]
    rfl
  obtain ⟨r, hr, ⟨hne, hs, hold⟩, rfl⟩ : ∃ r, e.record n = some r ∧
      (n ≠ e.sbi.station ∧ r.stale = false ∧ staleLimit e r < ageOf e r.tag) ∧ r.part = p := by
    unfold markedPart at hp
    split at hp
    next r hr =>
      split at hp
      next hm => exact ⟨r, hr, hm, Option.some.inj hp⟩
      · cases hp
    · cases hp
  have hrec : t.record n = some r := by rw [hb.record, if_neg (by omega), hr]
  have hold' : staleLimit t r < ageOf t r.tag := by
    rw [staleLimit_congr hb.reads.setup, ageOf, hb.reads.time]; exact hold
  obtain ⟨v, hv⟩ : ∃ v, v = marking t n r := ⟨_, rfl⟩
  have hstep : readStep e t n = reportFault v (silenceReport n r.part) := by
    rw [readStep, if_pos (by simpa using hne), judge_marks hrec hs hold', hv]
  have hB : (silenceReport n r.part).fault.classA = false := by
    rw [silenceReport_fault]; cases r.part <;> rfl
  obtain ⟨hflags, hconds, hstation, hposition, -⟩ := reportFault_flt v (silenceReport n r.part)
  have hvflt : v.flt = t.flt := by rw [hv]; rfl
  have hreads : Reads e (readStep e t n) := by
    refine hb.reads.trans ?_
    unfold readStep
    split
    · exact reads_judge t n
    · exact .refl t
  refine ⟨hreads, fun m => ?_, ?_, fun c => ?_, fun c => ?_, ?_, ?_⟩
  · have hjudge := judge_record t n m
    rw [readStep, if_pos (by simpa using hne), hjudge]
    by_cases hm : m = n
    · rw [if_pos hm, if_pos ⟨by rw [hm]; omega, hm ▸ hne⟩, hb.reads.aged_record, hm]
    · have hmk : m.val ≠ k := fun hv => hm (by rw [hn]; exact Fin.ext hv)
      have hiff : (m.val < k + 1 ∧ m ≠ e.sbi.station) ↔ (m.val < k ∧ m ≠ e.sbi.station) := by omega
      rw [if_neg hm, hb.record]
      simp only [hiff]
  · rw [hstep, reportFault_pt, hv, hbelow, hbelow, hbelow]
    unfold marking
    rw [hb.table]
    unfold silenced silenceOf
    have hother {a b : FaultCode} (hab : a ≠ b) (x y : Bool) : (x || (y || a == b)) = (x || y) := by
      rw [beq_false_of_ne hab, Bool.or_false]
    cases r.part <;> simp [hother]
  · rw [hstep, hflags, set_true_idx, silenceReport_fault, hvflt, hb.flags, hbelow, Bool.or_assoc]
  · rw [hstep, hconds, set_true_idx, silenceReport_fault, hvflt, hb.conds, hbelow, Bool.or_assoc]
  · obtain ⟨hs1, hs2⟩ := hb.sources
    rw [hstep, hstation, hposition, ← hs1, ← hs2, ← hvflt]
    cases r.part <;> exact ⟨Bool.or_false _, Bool.or_false _⟩
  · have hstill : Tells t v [] := by
      rw [hv]; exact .still
    have hreport : Tells v (reportFault v (silenceReport n r.part)) (reportNotes v (silenceReport n r.part)) :=
      .of_reportFault hB
    have hnotes : reportNotes v (silenceReport n r.part) = noteAt e ⟨k, h⟩ := by
      have hplain {c : FaultCode} (hc : silenceOf r.part = c) (hpeer : c ≠ .peerSilent) :
          reportNotes v (.plain c) = noteAt e ⟨k, h⟩ := by
        rw [reportNotes_plain, latchNote, hvflt, hb.flags, noteAt_some (hsilent.trans (congrArg some hc)) hpeer]
      cases hpart : r.part with
      | leg l => rw [noteAt, hsilent, hpart, ← hn]; rfl
      | body b => exact hplain (by rw [hpart]; rfl) nofun
      | mission m => exact hplain (by rw [hpart]; rfl) nofun
    rw [hstep, notesBelow_succ h, ← hnotes]
    exact hb.tells.trans (hstill.trans hreport)

theorem below_upto {k : Nat} (h : k ≤ 8) : Below e k ((upto k).foldl (readStep e) e) := by
  induction k with
  | zero => exact below_zero e
  | succ k ih =>
    have hk : k < 8 := by omega
    rw [upto_succ hk, List.foldl_append, List.foldl_cons, List.foldl_nil]
    cases hm : markedPart e ⟨k, hk⟩ with
    | none => exact below_quiet hk (ih (by omega)) hm
    | some p => exact below_marks hk (ih (by omega)) hm

/-- What the read of every peer's record leaves. -/
theorem below_all (e : State) : Below e 8 (e.peers.foldl judge e) := by
  have hfold : e.peers.foldl judge e = (upto 8).foldl (readStep e) e := by
    rw [State.peers, List.foldl_filter]
    rfl
  rw [hfold]
  exact below_upto (Nat.le_refl 8)

/-- The first new fault among the events is that of the first record whose silence is new (R54, R150). -/
theorem newFault_notesBelow {k : Nat} (h : k ≤ 8) : newFault e.flt.flags (notesBelow e k) =
    (upto k).findSome? fun n => (silent e n).filter fun c => !e.flt.flags[c.idx] := by
  induction k with
  | zero => rfl
  | succ k ih =>
    have hk : k < 8 := by omega
    have hlast (f : Fin 8 → Option FaultCode) : [(⟨k, hk⟩ : Fin 8)].findSome? f = f ⟨k, hk⟩ := by
      rw [List.findSome?_cons, List.findSome?_nil]
      cases f ⟨k, hk⟩ <;> rfl
    rw [notesBelow_succ hk, upto_succ hk, List.findSome?_append, ← ih (by omega), hlast]
    have happ : newFault e.flt.flags (notesBelow e k ++ noteAt e ⟨k, hk⟩) =
        (newFault e.flt.flags (notesBelow e k)).or (newFault e.flt.flags (noteAt e ⟨k, hk⟩)) := List.findSome?_append
    rw [happ]
    have hnew (x : Note) : newFault e.flt.flags [x] = x.fault.filter fun c => !e.flt.flags[c.idx] := by
      rw [newFault, List.findSome?_cons, List.findSome?_nil]
      cases x.fault.filter _ <;> rfl
    cases hsil : silent e ⟨k, hk⟩ with
    | none => rw [noteAt, hsil]; rfl
    | some c =>
      by_cases hpeer : c = .peerSilent
      · subst hpeer
        rw [noteAt, hsil, hnew]
        rfl
      · rw [noteAt_some hsil hpeer]
        split
        next htold =>
          cases hflag : e.flt.flags[c.idx] with
          | true => rw [Option.filter_some, hflag]; rfl
          | false =>
            rw [hflag, Bool.false_or] at htold
            cases hbefore : newFault e.flt.flags (notesBelow e k) with
            | some d => rfl
            | none =>
              obtain ⟨m, hm, hmc⟩ := List.any_eq_true.1 htold
              have hnone := List.findSome?_eq_none_iff.1 ((ih (by omega)).symm.trans hbefore) m hm
              rw [beq_iff_eq.1 hmc, Option.filter_some, hflag] at hnone
              cases hnone
        next huntold =>
          rw [hnew, fault_of_code]

end Order

/-- Settles O48: what any command marks, and the ageing read as the sum of its judgements. -/
theorem ageingReadMarks : Obligations.AgeingReadMarks := by
  refine ⟨fun c s t n r h hr hs ht => ?_, fun dt s => ?_⟩
  · cases hdt : dtOf c with
    | none =>
      cases c with
      | fullReset m q =>
        obtain rfl := Host.Outcome.next.inj h
        have hempty : ∀ m : Fin 8, (PeerTable.reset).records[m] = none := by decide
        exact absurd ((hempty n).symm.trans ht) nofun
      | _ => nomatch hdt
    | some dt =>
      obtain ⟨u, hu, hshown⟩ := exec_shownBy c s
      obtain rfl := Host.Outcome.next.inj (h.symm.trans hu)
      obtain ⟨hus, hmarks⟩ := hshown dt hdt
      obtain hsame | ⟨hold, hflag, hcond⟩ := hmarks n _ ht rfl
      · have heq := Option.some.inj (hr.symm.trans hsame)
        rw [heq] at hs
        cases hs
      · rw [hus]
        exact ⟨hold, hflag, hcond⟩
  · intro e
    refine ⟨fun hleg hdue => ?_, fun hidle => congrArg Host.Outcome.next (if_neg (c := s.pe.leg ≠ .setup ∧ _) ?_)⟩
    · obtain ⟨t, ht⟩ : ∃ t, t = e.peers.foldl judge e := ⟨_, rfl⟩
      have hexec : exec (.ageingRead dt) s = .next t := by
        rw [ht]; exact congrArg Host.Outcome.next (if_pos (c := s.pe.leg ≠ .setup ∧ _) ⟨hleg, hdue⟩)
      obtain ⟨hreads, hrecord, htable, hflags, hconds, ⟨hstation, hposition⟩, htells⟩ : Below e 8 t := ht ▸ below_all e
      have hmine : e.sbi.station = s.sbi.station := by simp [e]
      refine ⟨t, hexec, fun n r hr hne hs hold => ?_, fun n hn => ?_, htable, fun c => ⟨hflags c, hconds c⟩, ?_,
        hstation, hposition, hreads.alarms, htells.logs, ?_, hreads.time, hreads.sbi, hreads.setup, hreads.fsu,
        hreads.pe, hreads.scu, hreads.tu⟩
      · rw [hrecord, if_pos ⟨n.isLt, hmine ▸ hne⟩, record_aged, show e.record n = some r from hr, Option.map_some,
          agedRecord_of_old hold]
      · rw [hrecord]
        split
        next hpeer =>
          rw [record_aged]
          show (s.record n).map (agedRecord e) = s.record n
          cases hr : s.record n with
          | none => rfl
          | some r =>
            obtain hown | hstale | hyoung := hn r hr
            · exact absurd hown (hmine ▸ hpeer.2)
            · rw [Option.map_some, agedRecord_of_not_marks (.inl hstale)]
            · rw [Option.map_some, agedRecord_of_not_marks (.inr (Nat.not_lt.2 hyoung))]
        · rfl
      · rw [htells.first, firstAfter_eq, newFault_notesBelow (Nat.le_refl 8)]
        rfl
      · have hframe (r : EventRecord) : e.eventFrame r = s.eventFrame r := by
          simp only [State.eventFrame, State.newFrame, hmine]
        refine htells.offered.imp id fun ⟨r, hr, hq⟩ => ⟨r, hr, ?_⟩
        rw [hq, hframe]
        rfl
    · rintro ⟨hleg, hdue⟩
      obtain hsetup | hother := hidle
      · exact hleg hsetup
      · exact hother hdue

end Sys2Proof.AgeingReads
end

section
/-! A class-change event and the slip events at the Phase Engine (R68, R95 to R104, R154). -/

-- Elaborated in order: elaborated at once, the many proofs here take more threads than the check has memory for.
set_option Elab.async false

namespace Sys2Proof.ContactEvents
open Sys2Proof Sys2Proof.Machine Sys2Proof.Laws Sys2Proof.QueueRules Sys2Proof.Keeping Sys2Proof.ClassAFaults
  Sys2Proof.LineFaults Sys2Proof.PeerFrames Sys2Proof.Telling Sys2Proof.Reading Sys2Proof.Deadlines Sys2Proof.SupportChecks
  Sys2Proof.Expiries Sys2Proof.FootMotions

/-! ## A late LOADED (R103) -/

/-- A LOADED that comes while the load-pending mark is set. -/
def isLate (s : State) (new : Contact) : Bool := s.pe.loadPending && new == .loaded

/-- The Phase Engine after it: the mark is cleared. -/
def latePe (s : State) (new : Contact) : PhaseEngine :=
  { s.pe with loadPending := s.pe.loadPending && !isLate s new }

/-- The conditions after it: WEAK_FOOTHOLD has ended. -/
def lateConds (s : State) (new : Contact) : Vector Bool 17 :=
  if isLate s new then s.flt.conds.set FaultCode.weakFoothold.idx false else s.flt.conds

/-- What a late LOADED leaves to the leg. -/
def afterLate (s : State) (new : Contact) : State := if isLate s new then lateLoaded s else s

/-- The notice of a late LOADED in STANCE (R103). -/
def lateNotice (s : State) : TxFrame := noticeWith s .stance s.pe.applied.gait s.fsu.slipping 4 s.pe.steps 0xFF#8

theorem latePe_of_late {s : State} {new : Contact} (h : isLate s new = true) :
    latePe s new = { s.pe with loadPending := false } := by
  rw [latePe, h, Bool.not_true, Bool.and_false]

theorem latePe_of_not_late {s : State} {new : Contact} (h : isLate s new = false) : latePe s new = s.pe := by
  rw [latePe, h, Bool.not_false, Bool.and_true]

theorem afterLate_of_ne {s : State} {new : Contact} (h : s.pe.leg ≠ .stance) :
    afterLate s new = { s with pe := latePe s new, flt := { s.flt with conds := lateConds s new } } := by
  unfold afterLate lateConds
  cases hl : isLate s new with
  | false => rw [latePe_of_not_late hl]; rfl
  | true =>
    rw [latePe_of_late hl, if_pos rfl, lateLoaded]
    dsimp only
    rw [if_neg h]
    rfl

theorem afterLate_stance {s : State} {new : Contact} (h : s.pe.leg = .stance) :
    (afterLate s new).pe = latePe s new ∧ (afterLate s new).tu = s.tu ∧ (afterLate s new).pt = s.pt ∧
      OnlyConds s (afterLate s new) (lateConds s new) ∧
      (afterLate s new).txq = if isLate s new then (s.txq.place (lateNotice s)).1 else s.txq := by
  unfold afterLate lateConds
  cases hl : isLate s new with
  | false => rw [latePe_of_not_late hl]; exact ⟨rfl, rfl, rfl, rfl, rfl⟩
  | true =>
    obtain ⟨t, ht⟩ : ∃ t, t = placeFrame s (lateNotice s) := ⟨_, rfl⟩
    have hlate : lateLoaded s = { endFault t .weakFoothold with pe := { t.pe with loadPending := false } } := by
      have hframe : handNotice s .loaded = t := by
        rw [ht, lateNotice, ← h]; rfl
      rw [lateLoaded]
      dsimp only
      rw [if_pos h, hframe]
      rfl
    have hpe : t.pe = s.pe := by rw [ht]; exact placeFrame_pe_of_ne s _ (by rw [h]; nofun)
    obtain ⟨-, -, -, hpt, -, -, htu, -⟩ := placeFrame_frame s (lateNotice s)
    have hflt := placeFrame_flt s (lateNotice s)
    have htxq := placeFrame_txq s (lateNotice s)
    rw [← ht] at hpt htu hflt htxq
    rw [latePe_of_late hl, if_pos rfl, hlate, if_pos rfl, if_pos rfl]
    refine ⟨by rw [hpe], htu, hpt, ?_, htxq⟩
    show ({ t.flt with conds := t.flt.conds.set FaultCode.weakFoothold.idx false } : FaultUnit) =
      { s.flt with conds := s.flt.conds.set FaultCode.weakFoothold.idx false, retry := t.flt.retry }
    rw [hflt]

theorem classChange_eq (s : State) (old new : Contact) : classChange s old new =
    match s.pe.leg with
    | .swing =>
      if new = .air then { afterLate s new with pe := { (afterLate s new).pe with watchArmed := true } }
      else if isContact s old new then
        swingContact { afterLate s new with pe := { (afterLate s new).pe with watchArmed := false } }
      else afterLate s new
    | .search =>
      if s.pe.replacing then afterLate s new
      else if new = .air then { afterLate s new with pe := { (afterLate s new).pe with watchArmed := true } }
      else if isContact s old new then enterLoad (afterLate s new) else afterLate s new
    | .load => if new = .loaded then enterStance (afterLate s new) true else afterLate s new
    | .hold => holdContact (afterLate s new) new
    | _ => afterLate s new := by
  unfold classChange afterLate isLate
  cases s.pe.leg <;> rfl

/-! ## The branches of `ClassActs` -/

section Branches
variable {s t : State} {old new : Contact}

theorem classActs_stub (hleg : s.pe.leg = .swing) (hhit : isContact s old new = true)
    (hfirst : s.pe.stubs = 0 ∧ 2 * s.tu.plan.k < s.tu.plan.kEnd)
    (hpe : t.pe = { latePe s new with stubs := 1, stubRise := true, watchArmed := false })
    (htu : t.tu = { s.tu with stub := { z := s.tu.p.z, k := s.tu.plan.k, d0 := 0, j := 0 } }) (htxq : t.txq = s.txq)
    (hpt : t.pt = s.pt) (hflt : t.flt = { s.flt with conds := lateConds s new }) : ClassActs s t old new := by
  unfold ClassActs
  dsimp only
  rw [if_pos ⟨hleg, hhit, hfirst⟩]
  exact ⟨hpe, htu, htxq, hpt, hflt⟩

theorem classActs_landed (hleg : s.pe.leg = .swing ∨ (s.pe.leg = .search ∧ s.pe.replacing = false))
    (hhit : isContact s old new = true) (hnot : ¬ (s.pe.leg = .swing ∧ s.pe.stubs = 0 ∧ 2 * s.tu.plan.k < s.tu.plan.kEnd))
    (hland : Landed s t) (htu : t.tu = { s.tu with contact := s.tu.p }) : ClassActs s t old new := by
  unfold ClassActs
  dsimp only
  rw [if_neg (fun h => hnot ⟨h.1, h.2.2⟩), if_pos ⟨hleg, hhit⟩]
  exact ⟨hland, htu⟩

theorem classActs_stance (hleg : s.pe.leg = .load) (hnew : new = .loaded)
    (hpe : t.pe = stancePe { s with pe := latePe s new }) (htu : t.tu = s.tu)
    (hrec : ∀ n, t.record n = s.record n ∨ t.record n = (aged s).record n)
    (hquiet : (∀ n, ¬ ReadMarks s n) → t.pt = s.pt ∧ OnlyConds s t (lateConds s new) ∧
      t.txq = (s.txq.place (noticeWith s .stance t.pe.applied.gait s.fsu.slipping 4 s.pe.steps 0xFF#8)).1) :
    ClassActs s t old new := by
  unfold ClassActs
  dsimp only
  rw [if_neg (by rw [hleg]; nofun), if_neg (by rw [hleg]; rintro ⟨h | ⟨h, -⟩, -⟩ <;> cases h), if_pos ⟨hleg, hnew⟩]
  exact ⟨hpe, htu, hrec, hquiet⟩

/-- Where the leg stays in its state. -/
theorem classActs_stays
    (hno : ¬ ((s.pe.leg = .swing ∨ (s.pe.leg = .search ∧ s.pe.replacing = false)) ∧ isContact s old new = true))
    (hload : ¬ (s.pe.leg = .load ∧ new = .loaded))
    (hpe : t.pe = { latePe s new with
      watchArmed := s.pe.watchArmed ||
        (new == .air && (s.pe.leg == .swing || (s.pe.leg == .search && !s.pe.replacing))) })
    (htu : t.tu = { s.tu with
      descentStopped := s.tu.descentStopped ||
        (s.pe.leg == .hold && (s.pe.origin == some .swing || s.pe.origin == some .search) && new != .air)
      pressFrozen := s.tu.pressFrozen || (s.pe.leg == .hold && s.pe.origin == some .load && new == .loaded) })
    (hpt : t.pt = s.pt) (hflt : OnlyConds s t (lateConds s new))
    (htxq : t.txq = if isLate s new = true ∧ s.pe.leg = .stance then (s.txq.place (lateNotice s)).1 else s.txq) :
    ClassActs s t old new := by
  unfold ClassActs
  unfold isContact at hno
  dsimp only
  rw [if_neg (fun h => hno ⟨.inl h.1, h.2.1⟩), if_neg hno, if_neg hload]
  refine ⟨hpe, htu, hpt, hflt, htxq.trans ?_⟩
  have hgait : t.pe.applied = s.pe.applied := by rw [hpe]; rfl
  rw [hgait]
  rfl

end Branches

/-! ## The class change (R68) -/

section Change
variable {s : State} {old new : Contact}

/-- The state of a leg that is not in STANCE, after a late LOADED. -/
def lateState (s : State) (new : Contact) : State :=
  { s with pe := latePe s new, flt := { s.flt with conds := lateConds s new } }

/-- Outside STANCE and HOLD a change of class that is no contact arms the watch at most. -/
theorem classActs_watch {w : Bool} (hstance : s.pe.leg ≠ .stance) (hhold : s.pe.leg ≠ .hold)
    (hno : ¬ ((s.pe.leg = .swing ∨ (s.pe.leg = .search ∧ s.pe.replacing = false)) ∧ isContact s old new = true))
    (hload : ¬ (s.pe.leg = .load ∧ new = .loaded))
    (hw : w = (s.pe.watchArmed || (new == .air && (s.pe.leg == .swing || (s.pe.leg == .search && !s.pe.replacing))))) :
    ClassActs s { lateState s new with pe := { latePe s new with watchArmed := w } } old new := by
  refine classActs_stays hno hload (by rw [hw]) ?_ rfl rfl (by rw [if_neg fun h => hstance h.2]; rfl)
  simp only [beq_false_of_ne hhold, Bool.false_and, Bool.or_false]
  rfl

theorem landed_late (s : State) (new : Contact) (w : Bool) :
    Landed s (enterLoad { lateState s new with pe := { latePe s new with watchArmed := w } }) := by
  obtain ⟨hpe, hcontact, hpt, hflt, htxq⟩ :=
    enterLoad_landed { lateState s new with pe := { latePe s new with watchArmed := w } }
  have hconds : (lateConds s new).set FaultCode.weakFoothold.idx false =
      s.flt.conds.set FaultCode.weakFoothold.idx false := by
    unfold lateConds
    split
    · exact Vector.set_set ..
    · rfl
  refine ⟨hpe, hcontact, hpt, ?_, htxq⟩
  unfold OnlyConds at hflt ⊢
  rw [hflt, ← hconds]
  rfl

theorem classActs_swing (hleg : s.pe.leg = .swing) : ClassActs s (classChange s old new) old new := by
  have hlate : afterLate s new = lateState s new := afterLate_of_ne (by rw [hleg]; nofun)
  have hstays {w : Bool} := classActs_watch (s := s) (old := old) (new := new) (w := w) (by rw [hleg]; nofun)
    (by rw [hleg]; nofun)
  rw [classChange_eq, hleg]
  dsimp only
  rw [hlate]
  split
  next hair =>
    refine hstays (fun h => ?_) (fun h => ?_) ?_
    · rw [isContact, hair] at h
      simp at h
    · rw [hleg] at h; cases h.1
    · rw [hair, hleg]; simp
  next hair =>
    split
    next hhit =>
      unfold swingContact
      split
      next hfirst => exact classActs_stub hleg hhit hfirst rfl rfl rfl rfl rfl
      next hlater =>
        exact classActs_landed (.inl hleg) hhit (fun h => hlater h.2) (landed_late s new false)
          (enterLoad_tu _)
    next hno =>
      refine hstays (fun h => hno h.2) (fun h => ?_) ?_
      · rw [hleg] at h; cases h.1
      · rw [beq_false_of_ne hair, Bool.false_and, Bool.or_false]

theorem classActs_search (hleg : s.pe.leg = .search) : ClassActs s (classChange s old new) old new := by
  have hlate : afterLate s new = lateState s new := afterLate_of_ne (by rw [hleg]; nofun)
  have hstays {w : Bool} := classActs_watch (s := s) (old := old) (new := new) (w := w) (by rw [hleg]; nofun)
    (by rw [hleg]; nofun)
  have hload : ¬ (s.pe.leg = .load ∧ new = .loaded) := by rw [hleg]; rintro ⟨h, -⟩; cases h
  rw [classChange_eq, hleg]
  dsimp only
  rw [hlate]
  split
  next hrise =>
    refine hstays (fun h => ?_) hload (by rw [hleg, hrise]; simp)
    obtain ⟨h | ⟨-, h⟩, -⟩ := h
    · rw [hleg] at h; cases h
    · rw [hrise] at h; cases h
  next hrise =>
    have hdescent : s.pe.replacing = false := by simpa using hrise
    split
    next hair =>
      refine hstays (fun h => ?_) hload (by rw [hair, hleg, hdescent]; simp)
      rw [isContact, hair] at h
      simp at h
    next hair =>
      split
      next hhit =>
        exact classActs_landed (.inr ⟨hleg, hdescent⟩) hhit (by rw [hleg]; rintro ⟨h, -⟩; cases h)
          (landed_late s new s.pe.watchArmed) (enterLoad_tu _)
      next hno =>
        exact hstays (fun h => hno h.2) hload (by rw [beq_false_of_ne hair, Bool.false_and, Bool.or_false])

theorem stancePe_late (s : State) (new : Contact) : stancePe (lateState s new) = stancePe { s with pe := latePe s new } :=
  rfl

theorem classActs_load (hleg : s.pe.leg = .load) : ClassActs s (classChange s old new) old new := by
  have hlate : afterLate s new = lateState s new := afterLate_of_ne (by rw [hleg]; nofun)
  rw [classChange_eq, hleg]
  dsimp only
  rw [hlate]
  split
  next hnew =>
    obtain ⟨L, hL⟩ : ∃ L, L = lateState s new := ⟨_, rfl⟩
    rw [← hL]
    obtain ⟨r, hread, -, henter⟩ := enterStance_reads L (by rw [hL]; show s.pe.leg ≠ _; rw [hleg]; nofun)
    obtain ⟨v, hv⟩ : ∃ v : State, v = { r with pe := stancePe L } := ⟨_, rfl⟩
    obtain ⟨t, ht⟩ : ∃ t, t = placeFrame v (v.noticeFrame .loaded 0xFF#8) := ⟨_, rfl⟩
    have henter : enterStance L true = t := by rw [henter true, if_pos rfl, ← hv, ht]; rfl
    have hvpe : v.pe = stancePe { s with pe := latePe s new } := by rw [hv, hL, ← stancePe_late]
    have hpe : t.pe = stancePe { s with pe := latePe s new } := by
      rw [ht, placeFrame_pe_of_ne v _ (by rw [hvpe]; nofun), hvpe]
    obtain ⟨-, -, -, hpt, -, -, htu, -⟩ := placeFrame_frame v (v.noticeFrame .loaded 0xFF#8)
    have hflt := placeFrame_flt v (v.noticeFrame .loaded 0xFF#8)
    have htxq := placeFrame_txq v (v.noticeFrame .loaded 0xFF#8)
    rw [← ht] at hpt htu hflt htxq
    rw [henter]
    refine classActs_stance hleg hnew hpe ?_ (fun n => ?_) fun hno => ?_
    · rw [htu, hv]; exact hread.tu.trans (by rw [hL]; rfl)
    · have hrec := hread.record n
      rw [hL] at hrec
      rw [State.record, hpt, hv]
      exact hrec
    · have hsame : r = L := hread.unmarked (by rw [hL]; exact hno)
      have hframe : v.noticeFrame .loaded 0xFF#8 =
          noticeWith s .stance t.pe.applied.gait s.fsu.slipping 4 s.pe.steps 0xFF#8 := by
        rw [hpe, hv, hsame, hL]
        rfl
      refine ⟨?_, ?_, ?_⟩
      · rw [hpt, hv, hsame, hL]; rfl
      · unfold OnlyConds
        rw [hflt, hv, hsame, hL]
        rfl
      · rw [htxq, hframe, hv, hsame, hL]
        rfl
  next hnew =>
    refine classActs_watch (w := s.pe.watchArmed) (by rw [hleg]; nofun) (by rw [hleg]; nofun) ?_ (fun h => hnew h.2) ?_
    · rw [hleg]; rintro ⟨h | ⟨h, -⟩, -⟩ <;> cases h
    · rw [hleg]; simp

/-- A class change in HOLD stops a descent or freezes a press (R154). -/
theorem holdContact_eq (u : State) (new : Contact) : holdContact u new = { u with tu := { u.tu with
    descentStopped := u.tu.descentStopped ||
      ((u.pe.origin == some .swing || u.pe.origin == some .search) && new != .air)
    pressFrozen := u.tu.pressFrozen || (u.pe.origin == some .load && new == .loaded) } } := by
  unfold holdContact
  split
  next h =>
    have horigin : (u.pe.origin == some .swing || u.pe.origin == some .search) = true := by simpa using h
    have hload : (u.pe.origin == some .load) = false := by
      obtain h | h := h <;> rw [h] <;> rfl
    rw [horigin, hload]
    split
    next hair => rw [hair]; simp
    next hair => simp [hair]
  next h =>
    have horigin : (u.pe.origin == some .swing || u.pe.origin == some .search) = false := by simpa using h
    rw [horigin]
    split
    next hload => simp [hload]
    next hload =>
      have hnone : (u.pe.origin == some .load && new == .loaded) = false := by simpa using hload
      rw [hnone]
      simp

theorem classActs_hold (hleg : s.pe.leg = .hold) : ClassActs s (classChange s old new) old new := by
  have hlate : afterLate s new = lateState s new := afterLate_of_ne (by rw [hleg]; nofun)
  rw [classChange_eq, hleg]
  dsimp only
  rw [hlate, holdContact_eq]
  refine classActs_stays ?_ (by rw [hleg]; rintro ⟨h, -⟩; cases h) ?_ ?_ rfl rfl ?_
  · rw [hleg]; rintro ⟨h | ⟨h, -⟩, -⟩ <;> cases h
  · rw [hleg]; simp [lateState, latePe]
  · rw [hleg]; rfl
  · rw [if_neg (by rw [hleg]; rintro ⟨-, h⟩; cases h)]; rfl

/-- In STANCE, CLAIM, UNLOAD and READY a class change ends a weak foothold at most (R103). -/
theorem classActs_quiet (hchange : classChange s old new = afterLate s new)
    (hswing : s.pe.leg ≠ .swing) (hsearch : s.pe.leg ≠ .search) (hload : s.pe.leg ≠ .load) (hhold : s.pe.leg ≠ .hold) :
    ClassActs s (classChange s old new) old new := by
  have hafter : (afterLate s new).pe = latePe s new ∧ (afterLate s new).tu = s.tu ∧ (afterLate s new).pt = s.pt ∧
      OnlyConds s (afterLate s new) (lateConds s new) ∧ (afterLate s new).txq =
        if isLate s new = true ∧ s.pe.leg = .stance then (s.txq.place (lateNotice s)).1 else s.txq := by
    by_cases hstance : s.pe.leg = .stance
    · obtain ⟨hpe, htu, hpt, hflt, htxq⟩ := afterLate_stance (new := new) hstance
      exact ⟨hpe, htu, hpt, hflt, by simpa [hstance] using htxq⟩
    · rw [afterLate_of_ne hstance, if_neg fun h => hstance h.2]
      exact ⟨rfl, rfl, rfl, rfl, rfl⟩
  obtain ⟨hpe, htu, hpt, hflt, htxq⟩ := hafter
  rw [hchange]
  refine classActs_stays ?_ (fun h => hload h.1) ?_ ?_ hpt hflt htxq
  · rintro ⟨h | ⟨h, -⟩, -⟩
    · exact hswing h
    · exact hsearch h
  · rw [hpe, beq_false_of_ne hswing, beq_false_of_ne hsearch]
    simp [latePe]
  · rw [htu, beq_false_of_ne hhold]
    simp

/-- A class change acts by the leg state (R68, R95 to R103, R154). -/
theorem classActs_classChange (s : State) (old new : Contact) : ClassActs s (classChange s old new) old new := by
  cases hleg : s.pe.leg with
  | swing => exact classActs_swing hleg
  | search => exact classActs_search hleg
  | load => exact classActs_load hleg
  | hold => exact classActs_hold hleg
  | setup | ready | stance | claim | unload =>
    refine classActs_quiet ?_ ?_ ?_ ?_ ?_
    · rw [classChange_eq, hleg]
    all_goals rw [hleg]; nofun

end Change

/-! ## Slip (R104) -/

section Slip
variable {s : State}

/-- A notice other than LIFT loses no Lift Notice of an ordered queue, so that a claim stands (R107, R142). -/
theorem placeNotice_pe {f : TxFrame} (hclaim : f.claim = claimByte .phaseNotice s.sbi.station) (hlift : f.isLift = false)
    (hq : s.pe.leg = .claim → QueueOrdered s) : (placeFrame s f).pe = s.pe := by
  obtain h | ⟨hleg, ⟨v, hv, hvlift⟩, -⟩ := placeFrame_pe s f
  · exact h
  · exfalso
    obtain rfl | ⟨hmem, -, hlt⟩ := place_lost hv
    · rw [hlift] at hvlift; cases hvlift
    · obtain ⟨-, hown, -⟩ := hq hleg
      obtain ⟨k, hk⟩ := hown v hmem
      have hkind : some k = some FrameKind.phaseNotice := (kind_of_claim hk).symm.trans (kind_of_isLift hvlift)
      rw [hclaim, hk, Option.some.inj hkind] at hlt
      exact absurd hlt (BitVec.lt_irrefl _)

/-- The Phase Engine after the end of a slip (R104). -/
theorem endSlipPersist_eq (s : State) : endSlipPersist s = { s with
    pe := { s.pe with slipReported := false }
    flt := { s.flt with
      conds := if s.pe.slipReported then s.flt.conds.set FaultCode.slipPersist.idx false else s.flt.conds } } := by
  unfold endSlipPersist
  cases h : s.pe.slipReported with
  | true => rfl
  | false =>
    have hpe : { s.pe with slipReported := false } = s.pe := by rw [← h]
    rw [if_neg Bool.false_ne_true, if_neg Bool.false_ne_true, hpe]

theorem walks_iff (l : LegState) : (l.walking && l != .hold) = true ↔ l.walking = true ∧ l ≠ .hold := by
  rw [Bool.and_eq_true, bne_iff_ne]

/-- What a notice that is handed leaves beside the queue. -/
theorem handed (hq : s.pe.leg = .claim → QueueOrdered s) {n : Notice} (hn : n ≠ .lift) {t : State}
    (ht : t = handNotice s n) :
    t.pe = s.pe ∧ t.tu = s.tu ∧ t.pt = s.pt ∧ t.flt = { s.flt with retry := t.flt.retry } ∧
      t.txq = (s.txq.place (noticeWith s s.pe.leg s.pe.applied.gait s.fsu.slipping n.code s.pe.steps 0xFF#8)).1 ∧
      t.setup = s.setup := by
  obtain ⟨-, -, hsetup, hpt, -, -, htu, -⟩ := placeFrame_frame s (s.noticeFrame n 0xFF#8)
  have hlift : (s.noticeFrame n 0xFF#8).isLift = false := by
    have hcode : ((byteAt (s.noticeFrame n 0xFF#8).payload 1).toNat == Notice.lift.code) = false := by
      cases n with
      | lift => exact absurd rfl hn
      | _ => rfl
    rw [TxFrame.isLift, hcode, Bool.and_false]
  rw [ht]
  exact ⟨placeNotice_pe rfl hlift hq, htu, hpt, placeFrame_flt s _, placeFrame_txq s _, hsetup⟩

theorem standing_eq (l : LegState) : l.standing = (l == .stance || l == .claim || l == .unload) := by
  cases l <;> rfl

/-- A slip-start event at the Phase Engine. -/
theorem slipActs_start (hslip : s.fsu.slipping = true) (hq : s.pe.leg = .claim → QueueOrdered s) :
    SlipActs s (slipStart s) .start := by
  unfold slipStart
  cases hwalk : s.pe.leg.walking && s.pe.leg != .hold with
  | false =>
    unfold SlipActs
    dsimp only
    rw [hwalk]
    exact ⟨rfl, rfl, rfl, rfl, rfl⟩
  | true =>
    obtain ⟨t, ht⟩ : ∃ t, t = handNotice s .slip := ⟨_, rfl⟩
    obtain ⟨hpe, htu, hpt, hflt, htxq, hsetup⟩ := handed (n := .slip) hq nofun ht
    rw [hslip] at htxq
    unfold SlipActs
    dsimp only
    rw [hwalk, if_pos rfl, if_pos rfl, ← ht]
    refine ⟨hpt, ?_, ?_, hflt, htxq⟩
    · have hlimit : t.slipLimit = s.slipLimit := by simp only [State.slipLimit, State.uword, hsetup]
      show ({ t.pe with slipT := some (t.slipLimit * 1000) } : PhaseEngine) = _
      rw [hpe, hlimit]
    · show ({ t.tu with frozen := t.tu.frozen || t.pe.leg.standing } : Trajectory) = _
      rw [hpe, htu, standing_eq, ← Bool.or_assoc, ← Bool.or_assoc]

/-- A slip-end event at the Phase Engine. -/
theorem slipActs_stop (hslip : s.fsu.slipping = false) (hq : s.pe.leg = .claim → QueueOrdered s) :
    SlipActs s (slipEnd s) .stop := by
  unfold slipEnd
  by_cases hhold : s.pe.leg = .hold
  · rw [if_pos hhold, endSlipPersist_eq]
    unfold SlipActs
    dsimp only
    rw [hhold]
    exact ⟨rfl, rfl, rfl, rfl, rfl⟩
  · rw [if_neg hhold]
    cases hwalk : s.pe.leg.walking with
    | false =>
      unfold SlipActs
      dsimp only
      rw [hwalk, Bool.false_and, if_neg Bool.false_ne_true, if_neg Bool.false_ne_true, if_neg hhold]
      exact ⟨rfl, rfl, rfl, rfl, rfl⟩
    | true =>
      obtain ⟨t, ht⟩ : ∃ t, t = handNotice s .slipEnd := ⟨_, rfl⟩
      obtain ⟨hpe, htu, hpt, hflt, htxq, -⟩ := handed (n := .slipEnd) hq nofun ht
      rw [hslip] at htxq
      have hboth : (s.pe.leg.walking && s.pe.leg != .hold) = true := (walks_iff _).2 ⟨hwalk, hhold⟩
      unfold SlipActs
      dsimp only
      rw [if_pos rfl, ← ht, endSlipPersist_eq]
      dsimp only
      rw [if_pos hboth]
      refine ⟨hpt, by rw [hpe], by rw [htu], ?_, htxq⟩
      unfold OnlyConds
      dsimp only
      rw [hpe, hflt]

theorem slipActs_none : SlipActs s s .none := ⟨rfl, rfl, rfl, rfl, rfl⟩

/-- The slip state of a unit after a judged sample (R70, R71). -/
def slipVerdict (s : State) : (Bool × Nat × Nat) × SlipEvent :=
  slipTable s.slipCount s.fsu.slipping s.fsu.slipRun s.fsu.okRun s.fsu.contact (slipSample s)

theorem slipSample_eq (s : State) : slipSample s = decide (0 < s.fsu.az.out ∧
    (s.mu : Int) * s.fsu.az.out <
      ((max s.fsu.ax.out.natAbs s.fsu.ay.out.natAbs + min s.fsu.ax.out.natAbs s.fsu.ay.out.natAbs / 2 : Nat) : Int) * 256) := by
  unfold slipSample tangential
  rw [Bool.decide_and]
  push_cast
  rfl

/-- A unit whose slip state has moved to these values. -/
def withSlip (F : FootSense) (v : Bool × Nat × Nat) : FootSense :=
  { F with slipping := v.1, slipRun := v.2.1, okRun := v.2.2 }

/-- A judged sample moves the slip state by its table and hands its event (R70, R71, R104). -/
theorem judgeSlip_spec (hq : s.pe.leg = .claim → QueueOrdered s) :
    (judgeSlip s).fsu = withSlip s.fsu (slipVerdict s).1 ∧ SlipActs s (judgeSlip s) (slipVerdict s).2 := by
  have hleave : (leaveSlip s).fsu = withSlip s.fsu (false, 0, 0) ∧ SlipActs s (leaveSlip s) .stop :=
    ⟨(slipEnd_frame _).2.2.2.2.1,
      slipActs_stop (s := { s with fsu := { s.fsu with slipping := false, slipRun := 0, okRun := 0 } }) rfl hq⟩
  have hstays {F : FootSense} {v : Bool × Nat × Nat} (hv : slipVerdict s = (v, .none)) (hF : F = withSlip s.fsu v) :
      ({ s with fsu := F } : State).fsu = withSlip s.fsu (slipVerdict s).1 ∧
        SlipActs s { s with fsu := F } (slipVerdict s).2 := by
    rw [hv]
    exact ⟨hF, slipActs_none (s := s)⟩
  have hleaves (hv : slipVerdict s = ((false, 0, 0), .stop)) :
      (leaveSlip s).fsu = withSlip s.fsu (slipVerdict s).1 ∧ SlipActs s (leaveSlip s) (slipVerdict s).2 := by
    rw [hv]; exact hleave
  unfold judgeSlip
  by_cases hair : s.fsu.contact = .air
  · have htable {b : Bool} (hb : s.fsu.slipping = b) :
        slipVerdict s = slipTable s.slipCount b s.fsu.slipRun s.fsu.okRun .air (slipSample s) := by
      rw [slipVerdict, hb, hair]
    rw [if_pos hair]
    split
    next hslip => exact hleaves ((htable hslip).trans rfl)
    next hslip =>
      have hslip : s.fsu.slipping = false := by simpa using hslip
      exact hstays ((htable hslip).trans rfl) (by rw [← hslip]; rfl)
  · have htable {b x : Bool} (hb : s.fsu.slipping = b) (hx : slipSample s = x) :
        slipVerdict s = slipTable s.slipCount b s.fsu.slipRun s.fsu.okRun .touch x := by
      rw [slipVerdict, hb, hx]
      unfold slipTable
      rw [decide_eq_false hair]
      rfl
    rw [if_neg hair]
    split
    next hslip =>
      split
      next hsample => exact hstays ((htable hslip hsample).trans rfl) (by rw [← hslip]; rfl)
      next hsample =>
        have hv := htable hslip (Bool.eq_false_iff.2 hsample)
        split
        next hend => exact hleaves (hv.trans (if_pos hend))
        next hmore => exact hstays (hv.trans (if_neg hmore)) (by rw [← hslip]; rfl)
    next hslip =>
      have hslip : s.fsu.slipping = false := by simpa using hslip
      split
      next hsample =>
        have hv := htable hslip hsample
        split
        next hbegin =>
          rw [hv.trans (if_pos hbegin)]
          exact ⟨(slipStart_frame _).2.2.2.2.1,
            slipActs_start (s := { s with fsu := { s.fsu with slipping := true, slipRun := 0, okRun := 0 } }) rfl hq⟩
        next hmore => exact hstays (hv.trans (if_neg hmore)) (by rw [← hslip]; rfl)
      next hsample =>
        exact hstays ((htable hslip (Bool.eq_false_iff.2 hsample)).trans rfl) (by rw [← hslip]; rfl)

end Slip

end Sys2Proof.ContactEvents
end

section
/-! A good sample at the Foot Sense Unit, up to its judgement: the filter, the link watch and the stuck run (R63 to R66, R72,
R73), with the faults that they report and end. -/

-- Elaborated in order: elaborated at once, the many proofs here take more threads than the check has memory for.
set_option Elab.async false

namespace Sys2Proof.FootSamples
open Sys2Proof Sys2Proof.Machine Sys2Proof.Laws Sys2Proof.Keeping Sys2Proof.ClassAFaults Sys2Proof.LineFaults
  Sys2Proof.Telling Sys2Proof.Reading Sys2Proof.ContactEvents

/-! ## What stands beside the unit -/

/-- Every block but the Foot Sense Unit, the Transmit Queue and the Fault Unit stands as it stood. -/
structure Beside (s t : State) : Prop where
  time : t.time = s.time
  sbi : t.sbi = s.sbi
  setup : t.setup = s.setup
  pt : t.pt = s.pt
  pe : t.pe = s.pe
  scu : t.scu = s.scu
  tu : t.tu = s.tu
  pending : t.pending = s.pending

theorem Beside.trans {s t u : State} (h : Beside s t) (h' : Beside t u) : Beside s u :=
  ⟨h'.time.trans h.time, h'.sbi.trans h.sbi, h'.setup.trans h.setup, h'.pt.trans h.pt, h'.pe.trans h.pe,
    h'.scu.trans h.scu, h'.tu.trans h.tu, h'.pending.trans h.pending⟩

theorem beside_of_fsu {s t : State} (h : { t with fsu := s.fsu, flt := s.flt } = s := by rfl) : Beside s t := by
  rw [← h]
  exact ⟨rfl, rfl, rfl, rfl, rfl, rfl, rfl, rfl⟩

theorem beside_reportFault {s : State} {r : Report} (hB : r.fault.classA = false) : Beside s (reportFault s r) :=
  ⟨by simp, by simp, by simp, by simp, reportFault_pe s r hB, by simp, reportFault_tu s r hB, by simp⟩

theorem beside_recordEvent (s : State) (e : EventKind) (d : Byte) : Beside s (recordEvent s e d) :=
  ⟨by simp, by simp, by simp, by simp, by simp, by simp, by simp, by simp⟩

/-! ## The filter (R63 to R65) -/

/-- A condition that ends, or stays. -/
def endIf (b : Bool) (v : Vector Bool 17) (c : FaultCode) : Vector Bool 17 := if b then v.set c.idx false else v

theorem endIf_idx (b : Bool) (v : Vector Bool 17) (c d : FaultCode) :
    (endIf b v c)[d.idx] = if c = d then v[d.idx] && !b else v[d.idx] := by
  unfold endIf
  cases b with
  | false => simp
  | true =>
    rw [if_pos rfl, set_idx, Bool.not_true, Bool.and_false]

theorem shiftIn_eq (x : Half) (l : Vector Half 16) : shiftIn x l = lineAfter x l := by
  unfold shiftIn lineAfter
  congr 1
  funext k
  have hlt : k.val - 1 < 16 := by omega
  simp [Vector.getD, hlt]

theorem take_eq (s : State) (a : Axis) (x : Half) : a.take s x =
    { line := lineAfter x a.line, out := outputOf s (lineAfter x a.line)
      limit := a.limit || outputLimited s (lineAfter x a.line) } := by
  rw [Axis.take, shiftIn_eq, limitOut_filterRaw, isLimited_eq]

/-- Which axes a sample limits (R65). -/
def limitedAxes (s : State) (fx fy fz : Half) : Axes :=
  { x := outputLimited s (lineAfter fx s.fsu.ax.line), y := outputLimited s (lineAfter fy s.fsu.ay.line)
    z := outputLimited s (lineAfter fz s.fsu.az.line) }

/-- Whether a sample limits some axis (R65). -/
def limitsAny (s : State) (fx fy fz : Half) : Bool := (limitedAxes s fx fy fz).any

/-- The unit after the filter has taken a sample (R63 to R65). -/
def filteredFsu (s : State) (fx fy fz : Half) : FootSense :=
  { s.fsu with
    ax := s.fsu.ax.take s fx, ay := s.fsu.ay.take s fy, az := s.fsu.az.take s fz
    refill := min 17 (s.fsu.refill + 1), limitCond := limitsAny s fx fy fz }

/-- FILTER_LIMIT is reported by the sample (R65). -/
def limitsAnew (s : State) (fx fy fz : Half) : Bool := limitsAny s fx fy fz && !s.fsu.limitCond

/-- The conditions after the filter has taken a sample (R65). -/
def filteredConds (s : State) (fx fy fz : Half) : Vector Bool 17 :=
  if limitsAny s fx fy fz = s.fsu.limitCond then s.flt.conds
  else s.flt.conds.set FaultCode.filterLimit.idx (limitsAny s fx fy fz)

/-- The event of FILTER_LIMIT. -/
def filterNote (s : State) (fx fy fz : Half) : List Note :=
  if limitsAnew s fx fy fz then latchNote s .filterLimit else []

theorem latchNote_congr {s t : State} (h : t.flt.flags = s.flt.flags) (c : FaultCode) : latchNote t c = latchNote s c := by
  unfold latchNote
  rw [h]

section Filter
variable (s : State) (fx fy fz : Half)

theorem enterSample_eq : enterSample s fx fy fz =
    judgeLimit { s with fsu := { filteredFsu s fx fy fz with limitCond := s.fsu.limitCond } } (limitedAxes s fx fy fz) := by
  unfold enterSample limitedAxes filteredFsu
  dsimp only
  rw [isLimited_eq, isLimited_eq, isLimited_eq, shiftIn_eq, shiftIn_eq, shiftIn_eq]

/-- What the filter makes of a sample that limits no axis anew. -/
theorem enterSample_quiet (h : limitsAnew s fx fy fz = false) : enterSample s fx fy fz =
    { s with fsu := filteredFsu s fx fy fz, flt := { s.flt with conds := filteredConds s fx fy fz } } := by
  rw [enterSample_eq]
  unfold judgeLimit filteredConds filteredFsu
  unfold limitsAnew at h
  change (if limitsAny s fx fy fz = true then _ else _) = _
  cases hany : limitsAny s fx fy fz with
  | true =>
    have hcond : s.fsu.limitCond = true := by simpa [hany] using h
    rw [if_pos rfl, if_pos hcond, hcond, if_pos rfl]
  | false =>
    cases hcond : s.fsu.limitCond with
    | true => rw [if_neg Bool.false_ne_true, if_pos rfl, if_neg Bool.false_ne_true]; rfl
    | false => rw [if_neg Bool.false_ne_true, if_neg Bool.false_ne_true, if_pos rfl]

/-- What the filter makes of a sample that limits an axis anew. -/
theorem enterSample_anew (h : limitsAnew s fx fy fz = true) : enterSample s fx fy fz =
    reportFault { s with fsu := filteredFsu s fx fy fz } (.filterLimit (limitedAxes s fx fy fz)) := by
  rw [enterSample_eq]
  unfold limitsAnew at h
  obtain ⟨hany, hcond⟩ : limitsAny s fx fy fz = true ∧ s.fsu.limitCond = false := by simpa using h
  unfold judgeLimit filteredFsu
  change (if limitsAny s fx fy fz = true then _ else _) = _
  rw [if_pos hany, if_neg (Bool.eq_false_iff.1 hcond), hany]

/-- The flags after the filter has taken a sample (R65, R150). -/
def filteredFlags : Vector Bool 17 :=
  if limitsAnew s fx fy fz then s.flt.flags.set FaultCode.filterLimit.idx true else s.flt.flags

/-- The filter takes a sample (R63 to R65). -/
theorem enterSample_spec : Beside s (enterSample s fx fy fz) ∧ (enterSample s fx fy fz).fsu = filteredFsu s fx fy fz ∧
    (enterSample s fx fy fz).flt.flags = filteredFlags s fx fy fz ∧
    (enterSample s fx fy fz).flt.conds = filteredConds s fx fy fz ∧
    Tells s (enterSample s fx fy fz) (filterNote s fx fy fz) := by
  unfold filteredFlags filterNote
  cases hnew : limitsAnew s fx fy fz with
  | false =>
    rw [enterSample_quiet s fx fy fz hnew]
    exact ⟨beside_of_fsu, rfl, rfl, rfl, .still⟩
  | true =>
    obtain ⟨u, hu⟩ : ∃ u : State, u = { s with fsu := filteredFsu s fx fy fz } := ⟨_, rfl⟩
    obtain ⟨hflags, hconds, -⟩ := reportFault_flt u (.filterLimit (limitedAxes s fx fy fz))
    have hstill : Tells s u [] := by rw [hu]; exact .still
    have htells : Tells u (reportFault u (.filterLimit (limitedAxes s fx fy fz))) (latchNote s .filterLimit) := by
      have hnotes : reportNotes u (.filterLimit (limitedAxes s fx fy fz)) = latchNote s .filterLimit := by
        rw [hu]; exact List.append_nil _
      exact hnotes ▸ .of_reportFault
    have hbeside : Beside s u := by rw [hu]; exact beside_of_fsu
    rw [enterSample_anew s fx fy fz hnew, ← hu]
    refine ⟨hbeside.trans (beside_reportFault rfl), ?_, ?_, ?_, hstill.trans htells⟩
    · rw [(reportFault_frame u _).2.2.2.2.1, hu]
    · rw [hflags, hu]; rfl
    · have hchange : limitsAny s fx fy fz = true ∧ ¬ limitsAny s fx fy fz = s.fsu.limitCond := by
        obtain ⟨hany, hcond⟩ : limitsAny s fx fy fz = true ∧ s.fsu.limitCond = false := by simpa [limitsAnew] using hnew
        exact ⟨hany, by rw [hany, hcond]; nofun⟩
      rw [hconds, filteredConds, if_neg hchange.2, hchange.1, hu]
      rfl

end Filter

/-! ## The link watch and the stuck run (R72, R73) -/

/-- A sample whose Fz differs from that of the one before it. -/
def differs (prev : Option Half) (fz : Half) : Bool :=
  match prev with
  | some p => fz != p
  | none => false

theorem differs_iff {prev : Option Half} {fz : Half} : differs prev fz = true ↔ prev ≠ none ∧ prev ≠ some fz := by
  cases prev with
  | none => simp [differs]
  | some p =>
    rw [differs, bne_iff_ne]
    exact ⟨fun h => ⟨nofun, fun e => h (Option.some.inj e).symm⟩, fun ⟨_, h⟩ e => h (congrArg some e.symm)⟩

theorem restartWatch_eq (s : State) : restartWatch s = { s with
    fsu := { s.fsu with watch := some 2000, linkCond := false }
    flt := { s.flt with conds := endIf s.fsu.linkCond s.flt.conds .footLinkLost } } := by
  unfold restartWatch endIf
  cases h : s.fsu.linkCond with
  | true => rfl
  | false =>
    rw [if_neg Bool.false_ne_true, if_neg Bool.false_ne_true, ← h]
    rfl

/-- The stuck run at a good sample (R73). -/
def runAfter (F : FootSense) (fz : Half) : Nat := if F.prevFz = some fz then min 512 (F.stuckRun + 1) else 1

theorem stuckStep_eq (s : State) (fz : Half) : stuckStep s fz = { s with
    fsu := { s.fsu with
      stuckRun := runAfter s.fsu fz, stuckCond := s.fsu.stuckCond && !differs s.fsu.prevFz fz }
    flt := { s.flt with
      conds := endIf (s.fsu.stuckCond && differs s.fsu.prevFz fz) s.flt.conds .forceStuck } } := by
  unfold stuckStep runAfter endIf
  cases hprev : s.fsu.prevFz with
  | none => simp [differs]
  | some p =>
    dsimp only
    by_cases hsame : fz = p
    · simp [differs, hsame, stuckMax]
    · have hdiff : differs (some p) fz = true := by simpa [differs] using hsame
      rw [if_neg hsame, hdiff, if_neg (fun h => hsame (Option.some.inj h).symm), Bool.and_true, Bool.not_true,
        Bool.and_false]
      cases hcond : s.fsu.stuckCond with
      | true => rfl
      | false => rw [if_neg Bool.false_ne_true, if_neg Bool.false_ne_true, ← hcond]

section Sampled
variable (s : State) (fx fy fz : Half)

/-- The state after a sample has been entered and its watches judged. -/
def sampled : State := stuckStep (restartWatch (enterSample s fx fy fz)) fz

/-- Its unit. -/
def sampledFsu : FootSense :=
  { filteredFsu s fx fy fz with
    watch := some 2000, linkCond := false, stuckRun := runAfter s.fsu fz
    stuckCond := s.fsu.stuckCond && !differs s.fsu.prevFz fz }

/-- Its conditions. -/
def sampledConds : Vector Bool 17 :=
  endIf (s.fsu.stuckCond && differs s.fsu.prevFz fz) (endIf s.fsu.linkCond (filteredConds s fx fy fz) .footLinkLost)
    .forceStuck

/-- A sample that limits no axis anew. -/
theorem sampled_quiet (h : limitsAnew s fx fy fz = false) : sampled s fx fy fz =
    { s with fsu := sampledFsu s fx fy fz, flt := { s.flt with conds := sampledConds s fx fy fz } } := by
  rw [sampled, enterSample_quiet s fx fy fz h, restartWatch_eq, stuckStep_eq]
  rfl

/-- Every sample (R63 to R66, R72, R73). -/
theorem sampled_spec : Beside s (sampled s fx fy fz) ∧ (sampled s fx fy fz).fsu = sampledFsu s fx fy fz ∧
    (sampled s fx fy fz).flt.flags = filteredFlags s fx fy fz ∧
    (sampled s fx fy fz).flt.conds = sampledConds s fx fy fz ∧
    Tells s (sampled s fx fy fz) (filterNote s fx fy fz) := by
  obtain ⟨hbeside, hfsu, hflags, hconds, htells⟩ := enterSample_spec s fx fy fz
  rw [sampled, restartWatch_eq, stuckStep_eq]
  obtain ⟨u, hu⟩ : ∃ u, u = enterSample s fx fy fz := ⟨_, rfl⟩
  rw [← hu] at hbeside hfsu hflags hconds htells ⊢
  refine ⟨hbeside.trans beside_of_fsu, ?_, hflags, ?_, ?_⟩
  · dsimp only
    rw [hfsu]
    rfl
  · dsimp only
    rw [hconds, hfsu]
    rfl
  · have hstill : Tells u _ [] := .still (t := { u with
      fsu := { u.fsu with
        watch := some 2000, linkCond := false, stuckRun := runAfter u.fsu fz
        stuckCond := u.fsu.stuckCond && !differs u.fsu.prevFz fz }
      flt := { u.flt with
        conds := endIf (u.fsu.stuckCond && differs u.fsu.prevFz fz) (endIf u.fsu.linkCond u.flt.conds .footLinkLost)
          .forceStuck } })
    exact List.append_nil (filterNote s fx fy fz) ▸ htells.trans hstill

/-- A stuck run completes (R73). -/
def runsStuck : Prop :=
  s.pe.leg.stepping = true ∧ s.fsu.stuckCond = false ∧ s.fsu.prevFz = some fz ∧ 511 ≤ s.fsu.stuckRun

theorem judgeStuck_sampled : (¬ runsStuck s fz → judgeStuck (sampled s fx fy fz) = sampled s fx fy fz) ∧
    (runsStuck s fz → judgeStuck (sampled s fx fy fz) = degrade (reportFault { sampled s fx fy fz with
      fsu := { (sampled s fx fy fz).fsu with stuckCond := true } } (.plain .forceStuck)) .stuck) := by
  obtain ⟨hbeside, hfsu, -⟩ := sampled_spec s fx fy fz
  have hiff : ((sampled s fx fy fz).fsu.stuckRun = stuckMax ∧ (sampled s fx fy fz).fsu.stuckCond = false ∧
      (sampled s fx fy fz).pe.leg.stepping = true) ↔ runsStuck s fz := by
    rw [hbeside.pe, hfsu]
    show runAfter s.fsu fz = 512 ∧ (s.fsu.stuckCond && !differs s.fsu.prevFz fz) = false ∧ _ ↔ _
    unfold runAfter runsStuck
    by_cases hsame : s.fsu.prevFz = some fz
    · have hdiff : differs s.fsu.prevFz fz = false := by simp [hsame, differs]
      rw [if_pos hsame, hdiff, Bool.not_false, Bool.and_true]
      constructor
      · rintro ⟨hrun, hcond, hsteps⟩
        exact ⟨hsteps, hcond, hsame, by omega⟩
      · rintro ⟨hsteps, hcond, -, hrun⟩
        exact ⟨by omega, hcond, hsteps⟩
    · rw [if_neg hsame]
      constructor
      · rintro ⟨hrun, -⟩; omega
      · rintro ⟨-, -, h, -⟩; exact absurd h hsame
  exact ⟨fun h => if_neg (mt hiff.1 h), fun h => if_pos (hiff.2 h)⟩

end Sampled

end Sys2Proof.FootSamples
end

section
/-! A judged sample: the contact class by its thresholds and the slip state by its table, and what both make of the Phase
Engine (R63, R67 to R71, R104). -/

-- Elaborated in order: elaborated at once, the many proofs here take more threads than the check has memory for.
set_option Elab.async false

namespace Sys2Proof.JudgedSamples
open Sys2Proof Sys2Proof.Machine Sys2Proof.Laws Sys2Proof.Keeping Sys2Proof.ClassAFaults Sys2Proof.LineFaults
  Sys2Proof.Telling Sys2Proof.Reading Sys2Proof.ContactEvents Sys2Proof.FootSamples

/-- The state in which a sample of the foot link reaches the unit. -/
def arriving (s : State) (dt : Nat) : State := endFootFrame (elapse s dt)

theorem exec_sample {s : State} {l : List Byte} (h : SampleTaken s l) (dt : Nat) : exec (.forceSampleGood dt l) s =
    .next (takeSample (arriving s dt) (halfAt l 0) (halfAt l 2) (halfAt l 4)) := by
  obtain ⟨hframe, hlink, hleg⟩ := h
  have hheard : (forceFrame false l && (elapse s dt).fsu.link != .waitIdle) = true := by
    rw [hframe, Bool.true_and, bne_iff_ne]; exact hlink
  exact congrArg Host.Outcome.next ((if_pos hheard).trans (if_neg hleg))

/-- A sample in a unit that is not degraded, and without a stuck run that completes. -/
theorem takeSample_whole {s : State} {fx fy fz : Half} (hdeg : s.fsu.degraded = false) (hstuck : ¬ runsStuck s fz) :
    takeSample s fx fy fz = { judgeSample (sampled s fx fy fz) with
      fsu := { (judgeSample (sampled s fx fy fz)).fsu with prevFz := some fz } } := by
  have hwhole : (sampled s fx fy fz).fsu.degraded = false := by
    rw [(sampled_spec s fx fy fz).2.1]; exact hdeg
  have hjudge : recoveryStep (judgeStuck (sampled s fx fy fz)) fx fy fz = sampled s fx fy fz := by
    rw [(judgeStuck_sampled s fx fy fz).1 hstuck]
    exact if_neg (Bool.eq_false_iff.1 hwhole)
  unfold sampled at hjudge ⊢
  rw [takeSample]
  dsimp only
  rw [hjudge]

/-- A class change leaves a leg in CLAIM only where it was there, and with its queue. -/
theorem classActs_claim {s t : State} {old new : Contact} (h : ClassActs s t old new) (hleg : t.pe.leg = .claim) :
    s.pe.leg = .claim ∧ t.txq = s.txq := by
  unfold ClassActs at h
  dsimp only at h
  split at h
  next hc =>
    rw [h.1] at hleg
    exact absurd (hc.1.symm.trans hleg) nofun
  · split at h
    · rw [h.1.1] at hleg; cases hleg
    · split at h
      · rw [h.1] at hleg; cases hleg
      · obtain ⟨hpe, -, -, -, htxq⟩ := h
        have hclaim : s.pe.leg = .claim := by rw [hpe] at hleg; exact hleg
        rw [if_neg (by rw [hclaim]; rintro ⟨-, h⟩; cases h)] at htxq
        exact ⟨hclaim, htxq⟩

/-- Of the unit a class change goes by the slip bit of its notices alone. -/
theorem classActs_fsu {s t : State} {G : FootSense} {old new : Contact} (hslip : G.slipping = s.fsu.slipping)
    (h : ClassActs { s with fsu := G } t old new) : ClassActs s t old new := by
  unfold ClassActs Landed at h ⊢
  dsimp only at h ⊢
  rw [hslip] at h
  exact h

/-- The contact class takes a value, and a change of it acts by the leg state (R68). -/
theorem setContact_acts (s : State) {F : FootSense} (hcontact : F.contact = s.fsu.contact)
    (hslip : F.slipping = s.fsu.slipping) (new : Contact) {t : State} (ht : t = setContact { s with fsu := F } new) :
    t.fsu = { F with contact := new } ∧
      if new = s.fsu.contact then t.pe = s.pe ∧ t.tu = s.tu ∧ t.pt = s.pt ∧ t.txq = s.txq ∧ t.flt = s.flt
      else ClassActs s t s.fsu.contact new := by
  rw [ht, setContact, hcontact]
  split
  next hsame =>
    refine ⟨?_, rfl, rfl, rfl, rfl, rfl⟩
    rw [hsame, ← hcontact]
  next =>
    exact ⟨(classChange_frame _ _ _).2.2.2.1,
      classActs_fsu (G := { F with contact := new }) hslip (classActs_classChange _ _ _)⟩

/-- Settles O25: the sample is entered, and class and slip state are judged one after the other. -/
theorem judgedSampleActs : Obligations.JudgedSampleActs := by
  intro dt s l htaken hdeg hrefill hstuck hanew hq e fx fy fz new ft v c0 c1 c2 c3 b
  obtain ⟨d, hd⟩ : ∃ d, d = arriving s dt := ⟨_, rfl⟩
  have hquiet : limitsAnew d (halfAt l 0) (halfAt l 2) (halfAt l 4) = false := by
    have hany : limitsAny d (halfAt l 0) (halfAt l 2) (halfAt l 4) = sampleLimited s l := by rw [hd]; rfl
    have hcond : d.fsu.limitCond = s.fsu.limitCond := by rw [hd]; rfl
    rw [limitsAnew, hany, hcond]
    cases hlim : sampleLimited s l with
    | false => rfl
    | true => rw [hanew hlim]; rfl
  have hrun : ¬ runsStuck d (halfAt l 4) := by rw [hd]; exact hstuck
  obtain ⟨F, hF⟩ : ∃ F, F = sampledFsu d (halfAt l 0) (halfAt l 2) (halfAt l 4) := ⟨_, rfl⟩
  have hc1 : filteredConds d (halfAt l 0) (halfAt l 2) (halfAt l 4) = c1 := by
    rw [hd]
    show (if sampleLimited s l = s.fsu.limitCond then c0 else c0.set FaultCode.filterLimit.idx (sampleLimited s l)) =
      if s.fsu.limitCond = true ∧ sampleLimited s l = false then c0.set FaultCode.filterLimit.idx false else c0
    cases hlim : sampleLimited s l with
    | true => rw [hanew hlim, if_pos rfl, if_neg (fun h => nomatch h.2)]
    | false => cases s.fsu.limitCond <;> rfl
  have hc3 : sampledConds d (halfAt l 0) (halfAt l 2) (halfAt l 4) = c3 := by
    have hends : (d.fsu.stuckCond && differs d.fsu.prevFz (halfAt l 4)) = true ↔
        s.fsu.stuckCond = true ∧ s.fsu.prevFz ≠ none ∧ s.fsu.prevFz ≠ some (halfAt l 4) := by
      rw [Bool.and_eq_true, differs_iff, hd]
      rfl
    rw [sampledConds, hc1, endIf]
    simp only [hends]
    rw [hd]
    rfl
  obtain ⟨a, ha⟩ : ∃ a : State, a = { b with fsu := F } := ⟨_, rfl⟩
  have hsampled : sampled d (halfAt l 0) (halfAt l 2) (halfAt l 4) = a := by
    rw [sampled_quiet d _ _ _ hquiet, hc3, ← hF, ha, hd]
    rfl
  have haz : F.az.out = fz := by rw [hF, hd]; exact congrArg Axis.out (take_eq _ _ _)
  have hax : F.ax.out = fx := by rw [hF, hd]; exact congrArg Axis.out (take_eq _ _ _)
  have hay : F.ay.out = fy := by rw [hF, hd]; exact congrArg Axis.out (take_eq _ _ _)
  have hFold : F.contact = s.fsu.contact ∧ F.slipping = s.fsu.slipping ∧ F.slipRun = s.fsu.slipRun ∧
      F.okRun = s.fsu.okRun ∧ F.degraded = false ∧ F.refill = min 17 (s.fsu.refill + 1) := by
    rw [hF, hd]; exact ⟨rfl, rfl, rfl, rfl, hdeg, rfl⟩
  obtain ⟨hcontact, hslipping, hslipRun, hokRun, hwhole, hfilled⟩ := hFold
  obtain ⟨u, hu⟩ : ∃ u, u = setContact a new := ⟨_, rfl⟩
  have hjudge : judgeSample a = judgeSlip u := by
    have hon : (!a.fsu.degraded && refillDone a) = true := by
      rw [ha]
      show (!F.degraded && decide (s.filterN + 1 < F.refill)) = true
      rw [hwhole, hfilled, decide_eq_true hrefill]
      rfl
    have hclass : nextClass a a.fsu.contact a.fsu.az.out = new := by
      rw [nextClass_eq, ha]
      show classByForce s F.contact F.az.out = new
      rw [hcontact, haz]
    rw [judgeSample, if_pos hon, hclass, hu]
  have hchange : u.fsu = { F with contact := new } ∧
      (if new = s.fsu.contact then u.pe = b.pe ∧ u.tu = b.tu ∧ u.pt = b.pt ∧ u.txq = b.txq ∧ u.flt = b.flt
        else ClassActs b u s.fsu.contact new) :=
    setContact_acts b hcontact hslipping new (by rw [hu, ha])
  have hframe : u.time = e.time ∧ u.sbi = e.sbi ∧ u.setup = e.setup ∧ u.scu = e.scu := by
    obtain ⟨htime, hsbi, hsetup, hscu, -⟩ := setContact_frame a new
    rw [hu, htime, hsbi, hsetup, hscu, ha]
    exact ⟨rfl, rfl, rfl, rfl⟩
  obtain ⟨hufsu, hacts⟩ := hchange
  obtain ⟨hutime, husbi, husetup, huscu⟩ := hframe
  have hordered : u.pe.leg = .claim → QueueOrdered u := by
    intro hclaim
    have hsame : s.pe.leg = .claim ∧ u.txq = s.txq := by
      split at hacts
      · obtain ⟨hpe, -, -, htxq, -⟩ := hacts
        rw [hpe] at hclaim
        exact ⟨hclaim, htxq⟩
      · exact classActs_claim (s := b) hacts hclaim
    have hstation : u.sbi.station = s.sbi.station := by rw [husbi]; simp [e]
    unfold QueueOrdered
    rw [hsame.2, hstation]
    exact hq hsame.1
  obtain ⟨hslipfsu, hslipacts⟩ := judgeSlip_spec hordered
  have hverdict : slipVerdict u = v := by
    have hcount : u.slipCount = s.slipCount ∧ u.mu = s.mu := by
      simp only [State.slipCount, State.mu, State.uword, husetup]
      exact ⟨rfl, rfl⟩
    rw [slipVerdict, slipSample_eq, hcount.1, hcount.2, hufsu]
    dsimp only
    rw [hslipping, hslipRun, hokRun, hax, hay, haz]
  rw [hverdict] at hslipfsu hslipacts
  obtain ⟨t, ht⟩ : ∃ t : State, t = { judgeSlip u with fsu := { (judgeSlip u).fsu with prevFz := some (halfAt l 4) } } :=
    ⟨_, rfl⟩
  have hexec : exec (.forceSampleGood dt l) s = .next t := by
    rw [exec_sample htaken, ← hd, takeSample_whole (by rw [hd]; exact hdeg) hrun, hsampled, hjudge, ht]
  obtain ⟨htime, hsbi, hsetup, -, hscu, -⟩ := judgeSlip_frame u
  refine ⟨t, u, hexec, ?_, ?_, husbi, husetup, hacts, ?_, ?_, ?_, ?_, ?_⟩
  · rw [ht, hslipfsu, hufsu]; rfl
  · rw [ht, hslipfsu]; rfl
  · rw [ht]; exact hslipacts
  · rw [ht]; exact htime.trans hutime
  · rw [ht]; exact hsbi.trans husbi
  · rw [ht]; exact hsetup.trans husetup
  · rw [ht]; exact hscu.trans huscu

end Sys2Proof.JudgedSamples
end

section
/-! A taken reply of the drive (R68, R75, R137 to R139), and what a change of contact class leaves to log and conditions. -/

-- Elaborated in order: elaborated at once, the many proofs here take more threads than the check has memory for.
set_option Elab.async false

namespace Sys2Proof.DriveReplies
open Sys2Proof Sys2Proof.Machine Sys2Proof.Laws Sys2Proof.Keeping Sys2Proof.ClassAFaults Sys2Proof.LineFaults
  Sys2Proof.Telling Sys2Proof.Reading Sys2Proof.Deadlines Sys2Proof.ContactEvents Sys2Proof.FootSamples
  Sys2Proof.JudgedSamples

/-! ## What a change of class leaves behind -/

/-- Of the Trajectory Unit only stub, contact point and the HOLD motion marks have moved. -/
def MarksMove (a b : Trajectory) : Prop := ∃ stub contact stopped frozen,
  b = { a with stub := stub, contact := contact, descentStopped := stopped, pressFrozen := frozen }

theorem MarksMove.refl (a : Trajectory) : MarksMove a a := ⟨_, _, _, _, rfl⟩

theorem MarksMove.trans {a b c : Trajectory} (h : MarksMove a b) (h' : MarksMove b c) : MarksMove a c := by
  obtain ⟨_, _, _, _, rfl⟩ := h
  obtain ⟨_, _, _, _, rfl⟩ := h'
  exact ⟨_, _, _, _, rfl⟩

theorem marksMove_of_stopped {s t : State} (h : Stopped s t) : MarksMove s.tu t.tu := by
  unfold Stopped at h
  split at h
  · rw [h.2.2]; exact ⟨_, _, _, _, rfl⟩
  · rw [h.2]; exact .refl _

section ClassActs
variable {s t : State} {old new : Contact}

theorem classActs_marksMove (h : ClassActs s t old new) : MarksMove s.tu t.tu := by
  unfold ClassActs at h
  dsimp only at h
  split at h
  · rw [h.2.1]; exact ⟨_, _, _, _, rfl⟩
  · split at h
    · rw [h.2]; exact ⟨_, _, _, _, rfl⟩
    · split at h
      · rw [h.2.1]; exact .refl _
      · rw [h.2.1]; exact ⟨_, _, _, _, rfl⟩

/-- No change of class moves a leg but from SWING, SEARCH and LOAD. -/
theorem classActs_leg (h : ClassActs s t old new) (hleg : s.pe.leg ≠ .swing ∧ s.pe.leg ≠ .search ∧ s.pe.leg ≠ .load) :
    t.pe.leg = s.pe.leg := by
  obtain ⟨hswing, hsearch, hload⟩ := hleg
  unfold ClassActs at h
  dsimp only at h
  rw [if_neg (fun hc => hswing hc.1), if_neg (fun hc => hc.1.elim hswing fun h => hsearch h.1),
    if_neg (fun hc => hload hc.1)] at h
  rw [h.1]

/-- The conditions after a change of class that is no entry to STANCE: of them WEAK_FOOTHOLD at most has ended. -/
theorem classActs_onlyConds (h : ClassActs s t old new) (hload : ¬ (s.pe.leg = .load ∧ new = .loaded)) :
    t.pt = s.pt ∧ (OnlyConds s t s.flt.conds ∨ OnlyConds s t (s.flt.conds.set FaultCode.weakFoothold.idx false)) := by
  have hlate {b : Bool} (h : OnlyConds s t (if b then s.flt.conds.set FaultCode.weakFoothold.idx false else s.flt.conds)) :
      OnlyConds s t s.flt.conds ∨ OnlyConds s t (s.flt.conds.set FaultCode.weakFoothold.idx false) := by
    cases b with
    | true => exact .inr h
    | false => exact .inl h
  unfold ClassActs at h
  dsimp only at h
  split at h
  · obtain ⟨-, -, -, hpt, hflt⟩ := h
    refine ⟨hpt, hlate (b := isLate s new) ?_⟩
    unfold OnlyConds
    rw [hflt]
    rfl
  · split at h
    · obtain ⟨⟨-, -, hpt, hflt, -⟩, -⟩ := h
      exact ⟨hpt, .inr hflt⟩
    · obtain ⟨-, -, hpt, hflt, -⟩ := h
      exact ⟨hpt, hlate (b := isLate s new) hflt⟩

/-- A change of class moves no leg into SETUP, nor out of it. -/
theorem classActs_setup (h : ClassActs s t old new) : (t.pe.leg == .setup) = (s.pe.leg == .setup) := by
  unfold ClassActs at h
  dsimp only at h
  split at h
  · rw [h.1]
  · split at h
    next hc =>
      have hs : (s.pe.leg == .setup) = false := by
        obtain h | h := hc.1
        · rw [h]; rfl
        · rw [h.1]; rfl
      rw [hs, h.1.1]; rfl
    · split at h
      next hc => rw [h.1, hc.1]; rfl
      · rw [h.1]

end ClassActs

theorem told_of_onlyConds {s t : State} {conds : Vector Bool 17} (h : OnlyConds s t conds) (htime : t.time = s.time)
    (hsetup : t.setup = s.setup) (hleg : (t.pe.leg == .setup) = (s.pe.leg == .setup)) : Told s t [] := by
  refine told_of_logBasis ?_
  unfold OnlyConds at h
  have hlets : letIn t = letIn s := by
    funext bit
    simp only [letIn, State.eventMask, hsetup, hleg]
  simp only [logBasis, hlets, htime]
  rw [h]

/-- The faults that a class change may end or latch: the silences of the records that an entry to STANCE reads, and
WEAK_FOOTHOLD. -/
def contactFaults : List FaultCode := .weakFoothold :: silences

/-- A class change tells of nothing but the records that an entry to STANCE finds silent, and ends WEAK_FOOTHOLD at most
(R53, R68, R103). -/
theorem classChange_told (s : State) (old new : Contact) :
    (∃ ns, (∀ x ∈ ns, SilenceNote s x) ∧ Told s (classChange s old new) ns ∧ (s.pe.leg ≠ .load → ns = [])) ∧
    ∀ c, c ∉ contactFaults → (classChange s old new).flt.flags[c.idx] = s.flt.flags[c.idx] ∧
      (classChange s old new).flt.conds[c.idx] = s.flt.conds[c.idx] := by
  have hacts := classActs_classChange s old new
  obtain ⟨htime, -, hsetup, -⟩ := classChange_frame s old new
  have hleg := classActs_setup hacts
  by_cases hload : s.pe.leg = .load ∧ new = .loaded
  · obtain ⟨hleg', hnew⟩ := hload
    obtain ⟨L, hL⟩ : ∃ L, L = lateState s new := ⟨_, rfl⟩
    obtain ⟨r, hread, -, henter⟩ := enterStance_reads L (by rw [hL]; show s.pe.leg ≠ _; rw [hleg']; nofun)
    obtain ⟨v, hv⟩ : ∃ v : State, v = { r with pe := stancePe L } := ⟨_, rfl⟩
    obtain ⟨t, ht⟩ : ∃ t, t = placeFrame v (v.noticeFrame .loaded 0xFF#8) := ⟨_, rfl⟩
    have hchange : classChange s old new = t := by
      rw [classChange_eq, hleg', afterLate_of_ne (by rw [hleg']; nofun)]
      dsimp only
      rw [if_pos hnew]
      exact (congrArg (enterStance · true) hL.symm).trans ((henter true).trans (by rw [if_pos rfl, ← hv, ht]; rfl))
    rw [hchange] at htime hsetup hleg ⊢
    have hflt : t.flt = { r.flt with retry := t.flt.retry } := by
      rw [ht, hv]; exact placeFrame_flt _ _
    obtain ⟨ns, hns, htells⟩ := hread.told
    have hstill : Told r t [] := by
      refine told_of_onlyConds (conds := r.flt.conds) hflt ?_ ?_ ?_
      · rw [htime, hread.time, hL]; rfl
      · rw [hsetup, hread.setup, hL]; rfl
      · rw [hleg, hread.pe, hL]; rfl
    have hbefore : Told s L [] := by rw [hL]; exact told_of_logBasis rfl
    refine ⟨⟨ns, fun x hx => ?_, ?_, fun h => absurd hleg' h⟩, fun c hc => ?_⟩
    · have hx := hns x hx
      rw [hL] at hx
      exact hx
    · have htold := (hbefore.trans htells.toTold).trans hstill
      simpa using htold
    · obtain ⟨hweak, hsilent⟩ := List.mem_cons.not.1 hc |> not_or.1
      obtain ⟨hflags, hconds⟩ := hread.others c hsilent
      rw [hflt]
      refine ⟨hflags.trans (by rw [hL]; rfl), hconds.trans ?_⟩
      rw [hL]
      show (lateConds s new)[c.idx] = _
      unfold lateConds
      split
      · rw [set_idx, if_neg (Ne.symm hweak)]
      · rfl
  · obtain ⟨hpt, honly⟩ := classActs_onlyConds hacts hload
    refine ⟨⟨[], nofun, ?_, fun _ => rfl⟩, fun c hc => ?_⟩
    · obtain h | h := honly <;> exact told_of_onlyConds h htime hsetup hleg
    · obtain ⟨hweak, -⟩ := List.mem_cons.not.1 hc |> not_or.1
      obtain h | h := honly
      · unfold OnlyConds at h; rw [h]; exact ⟨rfl, rfl⟩
      · unfold OnlyConds at h; rw [h]; exact ⟨rfl, by rw [set_idx, if_neg (Ne.symm hweak)]⟩

theorem setContact_told (s : State) (F : FootSense) (new : Contact) :
    (∃ ns, (∀ x ∈ ns, SilenceNote s x) ∧ Told s (setContact { s with fsu := F } new) ns ∧ (s.pe.leg ≠ .load → ns = [])) ∧
    ∀ c, c ∉ contactFaults → (setContact { s with fsu := F } new).flt.flags[c.idx] = s.flt.flags[c.idx] ∧
      (setContact { s with fsu := F } new).flt.conds[c.idx] = s.flt.conds[c.idx] := by
  rw [setContact]
  split
  · exact ⟨⟨[], nofun, told_of_logBasis rfl, fun _ => rfl⟩, fun _ _ => ⟨rfl, rfl⟩⟩
  · obtain ⟨⟨ns, hns, htold, hload⟩, hkept⟩ :=
      classChange_told { s with fsu := { F with contact := new } } F.contact new
    have hstill : Told s { s with fsu := { F with contact := new } } [] := told_of_logBasis rfl
    exact ⟨⟨ns, hns, hstill.trans htold, hload⟩, hkept⟩

/-! ## The reply (R137 to R139) -/

theorem closeReply_eq (s : State) : closeReply s = { s with
    tu := { s.tu with window := none, misses := 0#8, driveLost := false }
    flt := { s.flt with
      conds := if s.tu.driveLost then s.flt.conds.set FaultCode.driveLost.idx false else s.flt.conds } } := by
  unfold closeReply
  cases h : s.tu.driveLost with
  | true => rfl
  | false =>
    rw [if_neg Bool.false_ne_true, if_neg Bool.false_ne_true, ← h]

theorem endDriveFault_eq (s : State) : endDriveFault s = { s with
    tu := { s.tu with driveFault := false }
    flt := { s.flt with
      conds := if s.tu.driveFault then s.flt.conds.set FaultCode.driveFault.idx false else s.flt.conds } } := by
  unfold endDriveFault
  cases h : s.tu.driveFault with
  | true => rfl
  | false =>
    rw [if_neg Bool.false_ne_true, if_neg Bool.false_ne_true, ← h]

/-- The drive state of a reply raises DRIVE_FAULT (R138). -/
def raises (s : State) (code : Nat) : Bool := !s.tu.driveFault && (code == 2 || (code == 3 && s.pe.leg.walking))

/-- The state after a reply but for the fault that it raises and the judgement of the class (R137 to R139). -/
def replied (s : State) (code : Nat) (q : P3) : State :=
  let c := if s.tu.driveLost then s.flt.conds.set FaultCode.driveLost.idx false else s.flt.conds
  { s with
    tu := { s.tu with
      link := .waitIdle, window := none, misses := 0#8, driveLost := false
      measured := if code = 3 then s.tu.measured else q
      p := if s.pe.leg = .ready ∧ code ≠ 3 then q else s.tu.p, driveLimit := code == 1
      started := s.tu.started || code == 0 || code == 1
      driveFault := if code ≤ 1 then false else s.tu.driveFault || raises s code }
    flt := { s.flt with
      conds := if code ≤ 1 ∧ s.tu.driveFault = true then c.set FaultCode.driveFault.idx false else c } }

/-- The state after a reply but for the judgement of the class (R138). -/
def answered (s : State) (code : Nat) (q : P3) : State :=
  if raises s code then reportFault (replied s code q) (.driveFault (code == 3)) else replied s code q

theorem driveReply_eq {s : State} {code : Nat} {d : DriveState} (h : driveStateOf code = some d) (q : P3) :
    driveReply (closeReply (endDriveFrame s)) d q =
      if code = 3 then answered s code q else handStatus (answered s code q) q := by
  rw [closeReply_eq]
  unfold answered replied raises
  unfold driveStateOf at h
  split at h
  · obtain rfl := Option.some.inj h
    rw [driveReply, endDriveFault_eq]
    cases hfault : s.tu.driveFault <;> simp [setStarted, setDriveLimit, takeMeasured, endDriveFrame, hfault]
  · obtain rfl := Option.some.inj h
    rw [driveReply, endDriveFault_eq]
    cases hfault : s.tu.driveFault <;> simp [setStarted, setDriveLimit, takeMeasured, endDriveFrame, hfault]
  · obtain rfl := Option.some.inj h
    rw [driveReply, raiseDriveFault]
    cases hfault : s.tu.driveFault <;> simp [setDriveLimit, takeMeasured, endDriveFrame, hfault]
  · obtain rfl := Option.some.inj h
    rw [driveReply]
    cases hfault : s.tu.driveFault <;> cases hwalk : s.pe.leg.walking <;>
      simp [setDriveLimit, endDriveFrame, hfault, hwalk, raiseDriveFault]
  · cases h

/-- A reply leaves every other block, and the drive's answers in the Trajectory Unit; a fault that it raises is taken whole
(R138, R150, R152). -/
theorem answered_spec (s : State) (code : Nat) (q : P3) {u : State} (hu : u = answered s code q) :
    SameElsewhere (replied s code q) u ∧ MarksMove (replied s code q).tu u.tu ∧
      u.flt.flags[FaultCode.driveFault.idx] = (s.flt.flags[FaultCode.driveFault.idx] || raises s code) ∧
      (raises s code = true → s.pe.leg.walking = true → u.pe.leg = .hold) ∧
      (raises s code = true → FaultTaken (replied s code q) u .driveFault (latchNote s .driveFault ++ holdNote s) ∧
        u.flt.conds = (replied s code q).flt.conds.set FaultCode.driveFault.idx true ∧
        u.flt.clashStation = s.flt.clashStation ∧ u.flt.clashPosition = s.flt.clashPosition) := by
  obtain ⟨b, hb⟩ : ∃ b, b = replied s code q := ⟨_, rfl⟩
  have hpe : b.pe = s.pe := by rw [hb]; rfl
  have hflags : b.flt.flags = s.flt.flags := by rw [hb]; rfl
  rw [hu, answered, ← hb]
  cases hraise : raises s code with
  | false =>
    rw [if_neg Bool.false_ne_true]
    exact ⟨⟨rfl, rfl, rfl, rfl, rfl, rfl, rfl⟩, .refl _, by rw [hflags, Bool.or_false], nofun, nofun⟩
  | true =>
    rw [if_pos rfl]
    obtain ⟨hlatch, hconds, hstation, hposition, -⟩ := reportFault_flt b (.driveFault (code == 3))
    have htaken : FaultTaken b (reportFault b (.driveFault (code == 3))) .driveFault
        (latchNote s .driveFault ++ holdNote s) := by
      have h := reportFault_taken (s := b) (r := .driveFault (code == 3)) rfl
      have hnotes : reportNotes b (.driveFault (code == 3)) = latchNote s .driveFault := by
        rw [← latchNote_congr hflags]
        exact List.append_nil _
      have hhold : holdNote b = holdNote s := by rw [holdNote, hpe]; rfl
      rwa [hnotes, hhold] at h
    obtain ⟨hsame, hrecorded, hstopped⟩ := htaken
    refine ⟨hsame, marksMove_of_stopped hstopped, ?_, fun _ hwalk => ?_, fun _ => ⟨⟨hsame, hrecorded, hstopped⟩, hconds,
      hstation.trans ?_, hposition.trans ?_⟩⟩
    · rw [hlatch, hflags]
      exact set_true_idx _ _ _
    · unfold Stopped at hstopped
      rw [hpe] at hstopped
      split at hstopped
      · exact hstopped.1
      next hno =>
        rw [hstopped.1]
        exact Classical.byContradiction fun h => hno ⟨hwalk, h⟩
    · rw [hb]; exact Bool.or_false _
    · rw [hb]; exact Bool.or_false _

/-! ## The degraded judgement (R75) -/

/-- The class that a reply gives a foot in degraded contact. -/
def replyClass (s : State) (q : P3) : Contact :=
  if s.tu.pressing then lagClass (q.z - s.tu.lastZ.getD 0)
  else if s.fsu.contact ≠ .air ∧ s.fsu.refHeight + 6000 ≤ q.z then .air else s.fsu.contact

/-- The unit with the reference height of a reply. -/
def replyFsu (s : State) (q : P3) : FootSense :=
  { s.fsu with refHeight := if s.tu.pressing then q.z else s.fsu.refHeight }

theorem handStatus_whole {s : State} (h : s.fsu.degraded = false) (q : P3) : handStatus s q = s :=
  if_neg (Bool.eq_false_iff.1 h)

theorem handStatus_degraded {s : State} (h : s.fsu.degraded = true) (q : P3) :
    handStatus s q = setContact { s with fsu := replyFsu s q } (replyClass s q) := by
  unfold handStatus degradedJudge replyFsu replyClass
  rw [if_pos h]
  split
  · rfl
  · split
    · rfl
    · exact (if_pos rfl).symm

/-- What the judgement leaves. -/
theorem handStatus_keeps (s : State) (q : P3) {t : State} (ht : t = handStatus s q) :
    MarksMove s.tu t.tu ∧ (s.pe.leg = .hold → t.pe.leg = .hold) ∧
      t.flt.flags[FaultCode.driveFault.idx] = s.flt.flags[FaultCode.driveFault.idx] := by
  cases hdeg : s.fsu.degraded with
  | false =>
    rw [ht, handStatus_whole hdeg]
    exact ⟨.refl _, id, rfl⟩
  | true =>
    rw [handStatus_degraded hdeg] at ht
    obtain ⟨-, hacts⟩ := setContact_acts s (F := replyFsu s q) rfl rfl _ ht
    have hflag := ((setContact_told s (replyFsu s q) (replyClass s q)).2 .driveFault (by decide)).1
    rw [← ht] at hflag
    split at hacts
    · obtain ⟨hpe, htu, -⟩ := hacts
      rw [htu, hpe]
      exact ⟨.refl _, id, hflag⟩
    · refine ⟨classActs_marksMove hacts, fun hhold => ?_, hflag⟩
      rw [classActs_leg hacts (by rw [hhold]; exact ⟨nofun, nofun, nofun⟩), hhold]

theorem exec_reply {s : State} {l : List Byte} (hframe : statusFrame l = true) (hlink : s.tu.link ≠ .waitIdle)
    (hopen : s.tu.window ≠ none) (htag : byteAt l 0 = s.tu.tag) (dt : Nat) : exec (.statusReply dt l) s =
    .next (let u := answered (elapse s dt) (byteAt l 1).toNat (statusPoint l)
      if (byteAt l 1).toNat = 3 then u else handStatus u (statusPoint l)) := by
  have hreply : (isReply (elapse s dt) l && (elapse s dt).tu.link != .waitIdle) = true := by
    have hsome : (elapse s dt).tu.window.isSome = true := by
      cases hw : s.tu.window with
      | none => exact absurd hw hopen
      | some k =>
        have hafter : (elapse s dt).tu.window = s.tu.window.after dt := rfl
        rw [hafter, hw]
        rfl
    have htag' : (byteAt l 0 == (elapse s dt).tu.tag) = true := beq_iff_eq.2 htag
    have hlink' : ((elapse s dt).tu.link != .waitIdle) = true := bne_iff_ne.2 hlink
    rw [isReply, hframe, hsome, htag', hlink']
    rfl
  obtain ⟨d, hd⟩ : ∃ d, driveStateOf (byteAt l 1).toNat = some d := by
    have hcode : (byteAt l 1).toNat < 4 := by
      unfold statusFrame at hframe
      simp only [Bool.and_eq_true, decide_eq_true_eq] at hframe
      exact hframe.2
    interval_cases h : (byteAt l 1).toNat <;> exact ⟨_, rfl⟩
  refine congrArg Host.Outcome.next ((if_pos hreply).trans ?_)
  rw [statusState, hd]
  exact driveReply_eq hd _

/-- Settles O52: the reply, the fault that it raises, and in degraded contact the judgement of the class. -/
theorem statusReplyTaken : Obligations.StatusReplyTaken := by
  intro dt s l hframe hlink hopen htag e code q c raise
  obtain ⟨u, hu⟩ : ∃ u, u = answered e code q := ⟨_, rfl⟩
  obtain ⟨t, ht⟩ : ∃ t, t = if code = 3 then u else handStatus u q := ⟨_, rfl⟩
  have hexec : exec (.statusReply dt l) s = .next t := by
    rw [ht, hu]
    exact exec_reply hframe hlink hopen htag dt
  obtain ⟨hsame, hmarks, hflag, hhold, htaken⟩ := answered_spec e code q hu
  obtain ⟨htime, hsbi, hsetup, -, hfsu, hscu, -⟩ := hsame
  have hjudged : MarksMove u.tu t.tu ∧ (u.pe.leg = .hold → t.pe.leg = .hold) ∧
      t.flt.flags[FaultCode.driveFault.idx] = u.flt.flags[FaultCode.driveFault.idx] := by
    by_cases hoff : code = 3
    · rw [ht, if_pos hoff]; exact ⟨.refl _, id, rfl⟩
    · exact handStatus_keeps u q (by rw [ht, if_neg hoff])
  obtain ⟨hmarks', hhold', hflag'⟩ := hjudged
  have hwhole : s.fsu.degraded = false ∨ code = 3 → t = u := by
    rintro (hdeg | hoff)
    · have hdeg' : u.fsu.degraded = false := by rw [hfsu]; exact hdeg
      rw [ht, handStatus_whole hdeg', ite_self]
    · rw [ht, if_pos hoff]
  have hplain : raise = false → u = replied e code q := fun hno => by
    rw [hu, answered]
    exact if_neg (Bool.eq_false_iff.1 hno)
  have hframe : t.time = u.time ∧ t.sbi = u.sbi ∧ t.setup = u.setup ∧ t.scu = u.scu := by
    rw [ht]
    split
    · exact ⟨rfl, rfl, rfl, rfl⟩
    · obtain ⟨h1, h2, h3, h4, -⟩ := degradedJudge_frame u q.z (u.tu.lastZ.getD 0) u.tu.pressing
      exact ⟨h1, h2, h3, h4⟩
  obtain ⟨htime', hsbi', hsetup', hscu'⟩ := hframe
  obtain ⟨_, _, _, _, htu⟩ := hmarks.trans hmarks'
  have hready : s.pe.leg = .ready → t.tu.p = (if code = 3 then s.tu.p else q) := fun hready => by
    rw [htu]
    show (if s.pe.leg = .ready ∧ code ≠ 3 then q else s.tu.p) = _
    rw [hready]
    by_cases hoff : code = 3
    · rw [if_neg (fun h => h.2 hoff), if_pos hoff]
    · rw [if_pos ⟨rfl, hoff⟩, if_neg hoff]
  refine ⟨t, hexec, by rw [htu]; rfl, by rw [htu]; rfl, by rw [htu]; rfl, by rw [htu]; rfl, by rw [htu]; rfl,
    by rw [htu]; rfl, by rw [htu]; rfl, by rw [htu]; rfl, hready, hflag'.trans hflag,
    fun hraise hwalk => hhold' (hhold hraise hwalk), fun hdeg hno => ?_, ⟨u, htaken, hplain, hwhole, ?_⟩,
    htime'.trans htime, hsbi'.trans hsbi, hsetup'.trans hsetup, hscu'.trans hscu⟩
  · rw [hwhole (.inl hdeg), hplain hno]
    exact ⟨rfl, rfl, rfl, rfl⟩
  · intro hdeg hoff v hz
    have hdeg' : u.fsu.degraded = true := by rw [hfsu]; exact hdeg
    have ht' : t = setContact { u with fsu := replyFsu u q } (replyClass u q) := by
      rw [ht, if_neg hoff, handStatus_degraded hdeg']
    obtain ⟨hfsu', hacts⟩ := setContact_acts u (F := replyFsu u q) rfl rfl _ ht'
    obtain ⟨_, _, _, _, hutu⟩ := hmarks
    have hpress : u.tu.pressing = s.tu.pressing ∧ u.tu.lastZ = some v := by
      rw [hutu]
      exact ⟨rfl, hz⟩
    unfold replyFsu at hfsu'
    unfold replyClass at hfsu' hacts
    rw [hpress.1, hpress.2, hfsu] at hfsu' hacts
    exact ⟨hfsu', hacts⟩

end Sys2Proof.DriveReplies
end

section
/-! Degraded contact (R72 to R74, R76): what the end of a slip and the entry to degraded contact leave, the link watch, and
the samples that complete a stuck run or come to a degraded unit. -/

-- Elaborated in order: elaborated at once, the many proofs here take more threads than the check has memory for.
set_option Elab.async false

namespace Sys2Proof.DegradedContacts
open Sys2Proof Sys2Proof.Machine Sys2Proof.Laws Sys2Proof.Keeping Sys2Proof.ClassAFaults Sys2Proof.LineFaults
  Sys2Proof.Telling Sys2Proof.Reading Sys2Proof.SupportChecks Sys2Proof.Decisions Sys2Proof.ContactEvents
  Sys2Proof.FootSamples Sys2Proof.JudgedSamples Sys2Proof.DriveReplies Sys2Proof.LegMoves

/-! ## The slip events, whatever the queue holds (R104) -/

section Slip
variable {s : State}

/-- A notice leaves the Trajectory Unit, and all of the Fault Unit but the retry mark; it may cost a claim. -/
theorem handNotice_leaves (n : Notice) {t : State} (ht : t = handNotice s n) :
    t.tu = s.tu ∧ OnlyConds s t s.flt.conds ∧ (t.pe.leg == .setup) = (s.pe.leg == .setup) ∧
      t.pe.slipReported = s.pe.slipReported := by
  obtain ⟨-, -, -, -, -, -, htu, -⟩ := placeFrame_frame s (s.noticeFrame n 0xFF#8)
  rw [ht]
  refine ⟨htu, placeFrame_flt s _, ?_⟩
  obtain h | ⟨hclaim, -, h⟩ := placeFrame_pe s (s.noticeFrame n 0xFF#8)
  · exact ⟨by rw [handNotice, h], by rw [handNotice, h]⟩
  · rw [handNotice, h, hclaim]
    exact ⟨rfl, rfl⟩

theorem slipStart_leaves (s : State) : OnlyConds s (slipStart s) s.flt.conds ∧ Told s (slipStart s) [] := by
  obtain ⟨htime, -, hsetup, -⟩ := slipStart_frame s
  obtain ⟨-, hflt, hleg, -⟩ := handNotice_leaves (s := s) .slip rfl
  have hparts : OnlyConds s (slipStart s) s.flt.conds ∧
      ((slipStart s).pe.leg == .setup) = (s.pe.leg == .setup) := by
    unfold slipStart
    split
    · exact ⟨hflt, hleg⟩
    · exact ⟨rfl, rfl⟩
  exact ⟨hparts.1, told_of_onlyConds hparts.1 htime hsetup hparts.2⟩

/-- The conditions after a slip has ended (R104). -/
def slipConds (s : State) : Vector Bool 17 :=
  if s.pe.slipReported then s.flt.conds.set FaultCode.slipPersist.idx false else s.flt.conds

theorem slipEnd_resting (h : s.pe.leg.walking = false) : slipEnd s = s := by
  have hhold : s.pe.leg ≠ .hold := by rintro hl; rw [hl] at h; cases h
  rw [slipEnd, if_neg hhold, if_neg (Bool.eq_false_iff.1 h)]

theorem slipEnd_hold (h : s.pe.leg = .hold) : slipEnd s = { s with
    pe := { s.pe with slipReported := false }, tu := { s.tu with frozen := false }
    flt := { s.flt with conds := slipConds s } } := by
  rw [slipEnd, if_pos h, endSlipPersist_eq]
  rfl

theorem slipEnd_walking (h : s.pe.leg.walking = true) :
    (slipEnd s).tu = { s.tu with frozen := false } ∧ OnlyConds s (slipEnd s) (slipConds s) ∧
      ((slipEnd s).pe.leg == .setup) = (s.pe.leg == .setup) := by
  by_cases hhold : s.pe.leg = .hold
  · rw [slipEnd_hold hhold]
    exact ⟨rfl, rfl, rfl⟩
  · obtain ⟨t, ht⟩ : ∃ t, t = handNotice s .slipEnd := ⟨_, rfl⟩
    obtain ⟨htu, hflt, hleg, hreported⟩ := handNotice_leaves (s := s) .slipEnd ht
    rw [slipEnd, if_neg hhold, if_pos h, ← ht, endSlipPersist_eq]
    refine ⟨by rw [← htu], ?_, hleg⟩
    unfold OnlyConds at hflt ⊢
    dsimp only
    rw [hreported, hflt]
    rfl

theorem slipEnd_keeps (s : State) :
    (slipEnd s).tu.measured = s.tu.measured ∧ (slipEnd s).flt.flags = s.flt.flags := by
  cases hwalk : s.pe.leg.walking with
  | false => rw [slipEnd_resting hwalk]; exact ⟨rfl, rfl⟩
  | true =>
    obtain ⟨htu, hflt, -⟩ := slipEnd_walking hwalk
    unfold OnlyConds at hflt
    rw [htu, hflt]
    exact ⟨rfl, rfl⟩

theorem slipEnd_told (s : State) : Told s (slipEnd s) [] := by
  cases hwalk : s.pe.leg.walking with
  | false => rw [slipEnd_resting hwalk]; exact told_of_logBasis rfl
  | true =>
    obtain ⟨htime, -, hsetup, -⟩ := slipEnd_frame s
    obtain ⟨-, hflt, hleg⟩ := slipEnd_walking hwalk
    exact told_of_onlyConds hflt htime hsetup hleg

/-- Without a notice the end of a slip leaves queue and log. -/
theorem slipEnd_silent (h : s.pe.leg.walking = false ∨ s.pe.leg = .hold) : Tells s (slipEnd s) [] := by
  obtain h | h := h
  · rw [slipEnd_resting h]; exact .still
  · rw [slipEnd_hold h]; exact .still

end Slip

/-! ## The entry to degraded contact (R74) -/

section Degrade
variable {s : State} {c : Cause}

/-- The unit that enters degraded contact, its slip over. -/
def restingFsu (s : State) (c : Cause) : FootSense :=
  { s.fsu.addCause c with degraded := true, slipping := false, slipRun := 0, okRun := 0 }

/-- The unit after the entry. -/
def degradedFsu (s : State) (c : Cause) : FootSense :=
  { restingFsu s c with refHeight := s.tu.measured.z, recovery := 0 }

/-- The state in which the end of the slip reaches the Phase Engine. -/
def resting (s : State) (c : Cause) : State := { s with fsu := restingFsu s c }

/-- The state of an entry before its event. -/
def slipOver (s : State) (c : Cause) : State :=
  { (if s.fsu.slipping then slipEnd (resting s c) else resting s c) with fsu := degradedFsu s c }

theorem degrade_again (h : s.fsu.degraded = true) : degrade s c = { s with fsu := s.fsu.addCause c } := if_pos h

theorem degrade_enters (h : s.fsu.degraded = false) :
    degrade s c = recordEvent (slipOver s c) .contactDegraded c.detail := by
  unfold degrade slipOver
  rw [if_neg (Bool.eq_false_iff.1 h)]
  dsimp only
  have hslip : (s.fsu.addCause c).slipping = s.fsu.slipping := rfl
  rw [hslip]
  cases hs : s.fsu.slipping with
  | false =>
    have hresting : resting s c = { s with fsu := { s.fsu.addCause c with degraded := true, slipRun := 0, okRun := 0 } } := by
      unfold resting restingFsu
      rw [← hs]
      rfl
    rw [if_neg Bool.false_ne_true, if_neg Bool.false_ne_true, hresting]
    unfold degradedFsu restingFsu
    rw [← hs]
  | true =>
    obtain ⟨v, hv⟩ : ∃ v, v = slipEnd (resting s c) := ⟨_, rfl⟩
    have hfsu : v.fsu = restingFsu s c := by rw [hv]; exact (slipEnd_frame _).2.2.2.2.1
    have hmeasured : v.tu.measured = s.tu.measured := by rw [hv]; exact (slipEnd_keeps _).1
    have hleave : leaveSlip { s with fsu := { s.fsu.addCause c with slipping := true, degraded := true } } = v := hv.symm
    rw [if_pos rfl, if_pos rfl, hleave, ← hv, hfsu, hmeasured]
    rfl

/-- Where the foot does not slip, or the leg does not act on its slip, nothing else moves. -/
theorem slipOver_resting (h : s.fsu.slipping = false ∨ s.pe.leg.walking = false) :
    slipOver s c = { s with fsu := degradedFsu s c } := by
  unfold slipOver
  cases hs : s.fsu.slipping with
  | false => rfl
  | true =>
    have hwalk : s.pe.leg.walking = false := h.resolve_left (by rw [hs]; nofun)
    rw [if_pos rfl, slipEnd_resting (s := resting s c) hwalk]
    rfl

theorem slipOver_keeps (s : State) (c : Cause) : (slipOver s c).flt.flags = s.flt.flags ∧ Told s (slipOver s c) [] := by
  obtain ⟨v, hv⟩ : ∃ v, v = if s.fsu.slipping then slipEnd (resting s c) else resting s c := ⟨_, rfl⟩
  have hresting : Told s (resting s c) [] := told_of_logBasis rfl
  have hkeeps : v.flt.flags = s.flt.flags ∧ Told s v [] := by
    rw [hv]
    split
    · exact ⟨(slipEnd_keeps _).2, hresting.trans (slipEnd_told _)⟩
    · exact ⟨rfl, hresting⟩
  have hstill : Told v { v with fsu := degradedFsu s c } [] := told_of_logBasis rfl
  rw [slipOver, ← hv]
  exact ⟨hkeeps.1, hkeeps.2.trans hstill⟩

/-- The event of an entry to degraded contact (R74). -/
def degradedNote (c : Cause) : Note := noteOf .contactDegraded c.detail

theorem degrade_spec (h : s.fsu.degraded = false) {u : State} (hu : u = degrade s c) :
    u.fsu = degradedFsu s c ∧ u.pe = (slipOver s c).pe ∧ u.tu = (slipOver s c).tu ∧
      u.flt.flags = s.flt.flags ∧ u.flt.conds = (slipOver s c).flt.conds ∧ Told s u [degradedNote c] ∧
      Offers (slipOver s c) u := by
  have htells : Tells (slipOver s c) u [degradedNote c] := by rw [hu, degrade_enters h]; exact .of_recordEvent c.detail
  obtain ⟨hflags, htold⟩ := slipOver_keeps s c
  refine ⟨?_, ?_, ?_, ?_, ?_, htold.trans htells.toTold, htells.toOffers⟩
  · rw [hu, degrade_enters h]; simp [slipOver]
  · rw [hu, degrade_enters h]; exact recordEvent_pe _ _ _
  · rw [hu, degrade_enters h]; simp
  · rw [hu, degrade_enters h, ← hflags]; simp
  · rw [hu, degrade_enters h]; simp

end Degrade

/-! ## A fault of the foot link or the force value, and the degraded contact that comes with it (R72 to R74) -/

section Report
variable {s : State} {f : FaultCode} {c : Cause}

theorem reportPlain_spec (hB : f.classA = false) {u : State} (hu : u = reportFault s (.plain f)) :
    Beside s u ∧ u.fsu = s.fsu ∧ u.flt.flags = s.flt.flags.set f.idx true ∧
      u.flt.conds = s.flt.conds.set f.idx true ∧ Tells s u (latchNote s f) := by
  have htells : Tells s (reportFault s (.plain f)) (reportNotes s (.plain f)) := .of_reportFault hB
  rw [reportNotes_plain] at htells
  rw [hu]
  exact ⟨beside_reportFault hB, (reportFault_frame s _).2.2.2.2.1, (reportFault_flt s _).1, (conds_plain s f).1, htells⟩

/-- The notice of a slip that ends in degraded contact (R74, R104). -/
def slipOverNotice (s : State) : TxFrame := noticeWith s s.pe.leg s.pe.applied.gait false 6 s.pe.steps 0xFF#8

theorem degraded_again (hB : f.classA = false) (h : s.fsu.degraded = true) {t : State}
    (ht : t = degrade (reportFault s (.plain f)) c) :
    Beside s t ∧ t.fsu = s.fsu.addCause c ∧ t.flt.flags = s.flt.flags.set f.idx true ∧
      t.flt.conds = s.flt.conds.set f.idx true ∧ Told s t (latchNote s f) := by
  obtain ⟨u, hu⟩ : ∃ u, u = reportFault s (.plain f) := ⟨_, rfl⟩
  obtain ⟨hbeside, hfsu, hflags, hconds, htells⟩ := reportPlain_spec hB hu
  have htu : t = { u with fsu := u.fsu.addCause c } := by
    rw [ht, ← hu]
    exact degrade_again (by rw [hfsu]; exact h)
  have hstill : Told u t [] := by rw [htu]; exact told_of_logBasis rfl
  have htold := htells.toTold.trans hstill
  rw [List.append_nil] at htold
  rw [htu] at htold ⊢
  exact ⟨hbeside.trans beside_of_fsu, by rw [hfsu], hflags, hconds, htold⟩

/-- What the fault leaves when its report brings degraded contact. -/
structure Degraded (s t : State) (f : FaultCode) (c : Cause) : Prop where
  fsu : t.fsu = degradedFsu s c
  flags : t.flt.flags = s.flt.flags.set f.idx true
  told : Told s t (latchNote s f ++ [degradedNote c])
  quiet : s.fsu.slipping = false ∨ s.pe.leg.walking = false →
    t.flt.conds = s.flt.conds.set f.idx true ∧ t.pe = s.pe ∧ t.tu = s.tu
  silent : s.fsu.slipping = false ∨ s.pe.leg.walking = false ∨ s.pe.leg = .hold → Offers s t
  slips : s.fsu.slipping = true → s.pe.leg.walking = true →
    t.tu = { s.tu with frozen := false } ∧
    t.flt.conds = (if s.pe.slipReported then (s.flt.conds.set f.idx true).set FaultCode.slipPersist.idx false
      else s.flt.conds.set f.idx true)
  held : s.fsu.slipping = true → s.pe.leg = .hold → t.pe = { s.pe with slipReported := false }
  tells : s.fsu.slipping = true → s.pe.leg.walking = true → s.pe.leg ≠ .hold → (s.pe.leg = .claim → QueueOrdered s) →
    t.pe = { s.pe with slipT := none, slipReported := false } ∧
    ∀ a, Offers a s → a.txq.frames.length ≤ 6 → slipOverNotice s ∈ t.txq.frames

theorem degraded_enters (hB : f.classA = false) (hclash : f ≠ .clash) (h : s.fsu.degraded = false) {t : State}
    (ht : t = degrade (reportFault s (.plain f)) c) : Degraded s t f c := by
  obtain ⟨u, hu⟩ : ∃ u, u = reportFault s (.plain f) := ⟨_, rfl⟩
  obtain ⟨hbeside, hfsu, hflags, hconds, htells⟩ := reportPlain_spec hB hu
  have hfresh : u.fsu.degraded = false := by rw [hfsu]; exact h
  rw [← hu] at ht
  obtain ⟨dfsu, dpe, dtu, dflags, dconds, dtold, doffers⟩ := degrade_spec hfresh ht
  have hslip : u.fsu.slipping = s.fsu.slipping := by rw [hfsu]
  have hover (hs : s.fsu.slipping = true) :
      slipOver u c = { slipEnd (resting u c) with fsu := degradedFsu u c } := by
    unfold slipOver
    rw [hslip, hs]
    rfl
  have hsilent {v : State} (hv : Tells u v []) (hv' : slipOver u c = { v with fsu := degradedFsu u c }) : Offers s t := by
    have hstill : Offers v (slipOver u c) := by rw [hv']; exact offers_of_offerBasis rfl
    exact (htells.toOffers.trans hv.toOffers).trans (hstill.trans doffers)
  refine {
    fsu := by rw [dfsu]; unfold degradedFsu restingFsu; rw [hfsu, hbeside.tu]
    flags := by rw [dflags, hflags]
    told := htells.toTold.trans dtold
    quiet := fun hq => ?_, silent := fun hq => ?_, slips := fun hs hw => ?_, held := fun hs hl => ?_
    tells := fun hs hw hl hclaim => ?_ }
  · have hresting := slipOver_resting (s := u) (c := c) (by rw [hslip, hbeside.pe]; exact hq)
    rw [dconds, dpe, dtu, hresting]
    exact ⟨hconds, hbeside.pe, hbeside.tu⟩
  · cases hs : s.fsu.slipping with
    | false => exact hsilent .still (slipOver_resting (.inl (hslip.trans hs)))
    | true =>
      have hquiet := slipEnd_silent (s := resting u c) (hbeside.pe ▸ hq.resolve_left (by rw [hs]; nofun))
      have hstill : Tells u (resting u c) [] := .still
      exact hsilent (hstill.trans hquiet) (hover hs)
  · have hwalk : (resting u c).pe.leg.walking = true := by rw [← hw, ← hbeside.pe]; rfl
    obtain ⟨etu, eflt, -⟩ := slipEnd_walking hwalk
    unfold OnlyConds at eflt
    rw [dtu, dconds, hover hs]
    dsimp only
    rw [etu, eflt]
    unfold slipConds resting
    dsimp only
    rw [hbeside.tu, hbeside.pe, hconds]
    exact ⟨rfl, rfl⟩
  · rw [dpe, hover hs]
    dsimp only
    rw [slipEnd_hold (s := resting u c) (by rw [← hl, ← hbeside.pe]; rfl)]
    unfold resting
    dsimp only
    rw [hbeside.pe]
  · obtain ⟨v, hv⟩ : ∃ v, v = slipEnd (resting u c) := ⟨_, rfl⟩
    have hordered : (resting u c).pe.leg = .claim → QueueOrdered (resting u c) := fun hleg => by
      have hkept := (keeps_reportFault s (.plain f) (by simpa using hclash)).ordered (hclaim (by rw [← hleg, ← hbeside.pe]; rfl))
      rw [← hu] at hkept
      exact hkept
    have hacts := slipActs_stop (s := resting u c) rfl hordered
    have hboth : ((resting u c).pe.leg.walking && (resting u c).pe.leg != .hold) = true := by
      show (u.pe.leg.walking && u.pe.leg != .hold) = true
      rw [hbeside.pe]
      exact (walks_iff _).2 ⟨hw, hl⟩
    unfold SlipActs at hacts
    dsimp only at hacts
    rw [if_pos hboth, ← hv] at hacts
    obtain ⟨-, hpe, -, -, htxq⟩ := hacts
    rw [dpe, hover hs, ← hv]
    refine ⟨?_, fun a ha hroom => ?_⟩
    · rw [hpe]
      unfold resting
      dsimp only
      rw [hbeside.pe]
    · have hlength := (ha.trans htells.toOffers).length_le
      have hframe : noticeWith (resting u c) (resting u c).pe.leg (resting u c).pe.applied.gait false 6
          (resting u c).pe.steps 0xFF#8 = slipOverNotice s := by
        unfold noticeWith slipOverNotice resting
        simp only [State.legPos, State.uword, hbeside.setup, hbeside.pe, hbeside.sbi]
        rfl
      rw [hframe] at htxq
      have hplaced := (notice_placed (u := resting u c) (f := slipOverNotice s) (noticeWith_kind ..)
        (by show u.txq.frames.length < 8; omega)).2
      rw [← htxq] at hplaced
      have hin : slipOverNotice s ∈ (slipOver u c).txq.frames := by rw [hover hs, ← hv]; exact hplaced
      exact notice_kept doffers (noticeWith_kind ..) hin

end Report

end Sys2Proof.DegradedContacts
end

section
/-! The link watch that expires, and the good samples that come to a degraded unit or make the unit degraded (R72 to R74,
R76). -/

-- Elaborated in order: elaborated at once, the many proofs here take more threads than the check has memory for.
set_option Elab.async false

namespace Sys2Proof.DegradedSamples
open Sys2Proof Sys2Proof.Machine Sys2Proof.Laws Sys2Proof.Keeping Sys2Proof.ClassAFaults Sys2Proof.LineFaults
  Sys2Proof.Telling Sys2Proof.Reading Sys2Proof.ContactEvents Sys2Proof.FootSamples Sys2Proof.JudgedSamples
  Sys2Proof.DegradedContacts Sys2Proof.LegMoves

/-! ## Flags and conditions by their index -/

theorem set_ne {v : Vector Bool 17} {c : FaultCode} {i : Fin 17} (h : i ≠ c.idx) (b : Bool) : (v.set c.idx b)[i] = v[i] :=
  Vector.getElem_set_ne c.idx.isLt i.isLt fun he => h (Fin.ext he.symm)

section Sampled
variable (s : State) (fx fy fz : Half)

theorem filteredFlags_idx (c : FaultCode) : (filteredFlags s fx fy fz)[c.idx] =
    (s.flt.flags[c.idx] || (limitsAnew s fx fy fz && FaultCode.filterLimit == c)) := by
  unfold filteredFlags
  cases limitsAnew s fx fy fz with
  | false => simp
  | true => rw [if_pos rfl, set_true_idx, Bool.true_and]

theorem filteredFlags_other {i : Fin 17} (h : i ≠ FaultCode.filterLimit.idx) :
    (filteredFlags s fx fy fz)[i] = s.flt.flags[i] := by
  unfold filteredFlags
  split
  · exact set_ne h true
  · rfl

theorem filteredConds_idx (c : FaultCode) : (filteredConds s fx fy fz)[c.idx] =
    if FaultCode.filterLimit = c ∧ limitsAny s fx fy fz ≠ s.fsu.limitCond then limitsAny s fx fy fz
    else s.flt.conds[c.idx] := by
  by_cases hsame : limitsAny s fx fy fz = s.fsu.limitCond
  · have hv : filteredConds s fx fy fz = s.flt.conds := if_pos hsame
    rw [hv, if_neg (fun h => h.2 hsame)]
  · have hv : filteredConds s fx fy fz = s.flt.conds.set FaultCode.filterLimit.idx (limitsAny s fx fy fz) := if_neg hsame
    rw [hv, set_idx]
    by_cases hc : FaultCode.filterLimit = c
    · rw [if_pos hc, if_pos ⟨hc, hsame⟩]
    · rw [if_neg hc, if_neg fun h => hc h.1]

theorem filteredConds_limit : (filteredConds s fx fy fz)[FaultCode.filterLimit.idx] =
    if limitsAny s fx fy fz = s.fsu.limitCond then s.flt.conds[FaultCode.filterLimit.idx] else limitsAny s fx fy fz := by
  rw [filteredConds_idx]
  by_cases h : limitsAny s fx fy fz = s.fsu.limitCond
  · rw [if_neg (fun hc => hc.2 h), if_pos h]
  · rw [if_pos ⟨rfl, h⟩, if_neg h]

theorem sampledConds_idx (c : FaultCode) : (sampledConds s fx fy fz)[c.idx] =
    if c = .forceStuck then s.flt.conds[c.idx] && !(s.fsu.stuckCond && differs s.fsu.prevFz fz)
    else if c = .footLinkLost then s.flt.conds[c.idx] && !s.fsu.linkCond
    else (filteredConds s fx fy fz)[c.idx] := by
  unfold sampledConds
  rw [endIf_idx, endIf_idx]
  split
  next h =>
    obtain rfl := h
    rw [if_neg (by decide), if_pos rfl, filteredConds_idx, if_neg (fun h => nomatch h.1)]
  next h =>
    rw [if_neg (Ne.symm h)]
    split
    next h' =>
      obtain rfl := h'
      rw [if_pos rfl, filteredConds_idx, if_neg (fun h => nomatch h.1)]
    next h' => rw [if_neg (Ne.symm h')]

theorem sampledConds_limit : (sampledConds s fx fy fz)[FaultCode.filterLimit.idx] =
    if limitsAny s fx fy fz = s.fsu.limitCond then s.flt.conds[FaultCode.filterLimit.idx] else limitsAny s fx fy fz := by
  rw [sampledConds_idx, if_neg (by decide), if_neg (by decide), filteredConds_limit]

end Sampled

theorem outputBefore_congr {s d : State} (hsetup : d.setup = s.setup) (v : Vector Half 16) :
    outputBefore d v = outputBefore s v := by
  have hn : d.filterN = s.filterN := by simp only [State.filterN, State.uword, hsetup]
  have hcoef : d.coef = s.coef := by funext k; simp only [State.coef, State.sword, hsetup]
  rw [outputBefore, hn, hcoef]
  rfl

theorem outputLimited_congr {s d : State} (hsetup : d.setup = s.setup) (v : Vector Half 16) :
    outputLimited d v = outputLimited s v := by
  simp only [outputLimited, outputBefore_congr hsetup]

/-- What the filter makes of one axis (R63 to R65). -/
theorem take_spec {s d : State} (hsetup : d.setup = s.setup) (A : Axis) (x : Half) :
    (∀ k : Fin 16, (A.take d x).line[k] = if k.val = 0 then x else A.line[k.val - 1]'(by omega)) ∧
    (A.take d x).out = outputOf s (A.take d x).line ∧
    (A.take d x).limit = (A.limit || outputLimited s (A.take d x).line) := by
  rw [take_eq]
  refine ⟨fun k => ?_, ?_, ?_⟩
  · have hlt : k.val - 1 < 16 := by omega
    simp [lineAfter, Vector.getD, hlt]
  · simp only [outputOf, outputBefore_congr hsetup]
  · simp only [outputLimited_congr hsetup]

/-- An axis that is zeroed and takes the same value once more (R76). -/
theorem take_again_spec {s c d : State} (hc : c.setup = s.setup) (hd : d.setup = s.setup) (A : Axis) (x : Half) {B : Axis}
    (hB : B = ({ Axis.reset with limit := (A.take d x).limit } : Axis).take c x) :
    (∀ k : Fin 16, B.line[k] = if k.val = 0 then x else 0#16) ∧ B.out = outputOf s B.line ∧
    B.limit = (A.limit || outputLimited s (lineAfter x A.line) || outputLimited s B.line) := by
  obtain ⟨hline, hout, hlimit⟩ := take_spec hc ({ Axis.reset with limit := (A.take d x).limit } : Axis) x
  rw [← hB] at hline hout hlimit
  refine ⟨fun k => ?_, hout, ?_⟩
  · rw [hline k]
    simp [Axis.reset]
  · rw [hlimit, take_eq, outputLimited_congr hd]

theorem limitsAny_eq (s : State) (fx fy fz : Half) : limitsAny s fx fy fz =
    (outputLimited s (s.fsu.ax.take s fx).line || outputLimited s (s.fsu.ay.take s fy).line ||
      outputLimited s (s.fsu.az.take s fz).line) := by
  simp only [take_eq]
  rfl

/-! ## The link watch (R72) -/

theorem exec_footLinkLost {s : State} {k dt : Nat} (hw : s.fsu.watch = some k) (hk : k ≤ dt) (hleg : s.pe.leg ≠ .setup) :
    exec (.footLinkLost dt) s = .next (loseLink (elapse s dt)) := by
  have hdue : due (elapse s dt).fsu.watch = true := due_after hw hk
  exact congrArg Host.Outcome.next (if_pos ⟨hdue, hleg⟩)

/-- The state in which an expired link watch reports its fault. -/
def linkOver (s : State) : State := { s with fsu := { s.fsu with watch := none, linkCond := true } }

theorem loseLink_again {s : State} (h : s.fsu.linkCond = true) :
    loseLink s = { s with fsu := { s.fsu with watch := none, recovery := 0 } } := by
  unfold loseLink
  dsimp only
  rw [if_pos h]

theorem loseLink_first {s : State} (h : s.fsu.linkCond = false) {t : State}
    (ht : t = degrade (reportFault (linkOver s) (.plain .footLinkLost)) .link) :
    loseLink s = { t with fsu := { t.fsu with recovery := 0 } } := by
  unfold loseLink
  dsimp only
  rw [if_neg (Bool.eq_false_iff.1 h), ht]
  rfl

/-! ## A sample beside the judgement of class and slip (R66, R73, R76) -/

section Take
variable {s : State} {fx fy fz : Half}

theorem sampledFsu_keeps (s : State) (fx fy fz : Half) : (sampledFsu s fx fy fz).recovery = s.fsu.recovery ∧
    (sampledFsu s fx fy fz).prevFz = s.fsu.prevFz ∧ (sampledFsu s fx fy fz).degraded = s.fsu.degraded := by
  unfold sampledFsu filteredFsu
  exact ⟨rfl, rfl, rfl⟩

theorem judgeSample_degraded (h : s.fsu.degraded = true) : judgeSample s = s := if_neg (by rw [h]; nofun)

theorem recoveryStep_degraded (h : s.fsu.degraded = true) : recoveryStep s fx fy fz =
    if differs s.fsu.prevFz fz = true then
      if recoverAt ≤ s.fsu.recovery + 1 then restoreContact s fx fy fz
      else { s with fsu := { s.fsu with recovery := s.fsu.recovery + 1 } }
    else { s with fsu := { s.fsu with recovery := 0 } } := by
  unfold recoveryStep
  rw [if_pos h]
  cases s.fsu.prevFz <;> rfl

theorem takeSample_of {j : State} (h : judgeSample (recoveryStep (judgeStuck (sampled s fx fy fz)) fx fy fz) = j) :
    takeSample s fx fy fz = { j with fsu := { j.fsu with prevFz := some fz } } := by
  subst h
  rfl

/-- The state in which a stuck run that completes reports its fault. -/
def stuckOver (s : State) (fx fy fz : Half) : State :=
  { sampled s fx fy fz with fsu := { sampledFsu s fx fy fz with stuckCond := true } }

/-- A sample that completes a stuck run. -/
theorem takeSample_stuck (h : runsStuck s fz) {t : State}
    (ht : t = degrade (reportFault (stuckOver s fx fy fz) (.plain .forceStuck)) .stuck)
    (hdeg : t.fsu.degraded = true) (hprev : t.fsu.prevFz = s.fsu.prevFz) :
    takeSample s fx fy fz = { t with fsu := { t.fsu with recovery := 0, prevFz := some fz } } := by
  have hjudge : judgeStuck (sampled s fx fy fz) = t := by
    rw [(judgeStuck_sampled s fx fy fz).2 h, ht, stuckOver, (sampled_spec s fx fy fz).2.1]
  have hsame : ¬ differs t.fsu.prevFz fz = true := by
    rw [hprev, h.2.2.1, differs_iff]
    exact fun hne => hne.2 rfl
  refine takeSample_of (j := { t with fsu := { t.fsu with recovery := 0 } }) ?_
  rw [hjudge, recoveryStep_degraded hdeg, if_neg hsame]
  exact judgeSample_degraded (s := { t with fsu := { t.fsu with recovery := 0 } }) hdeg

/-- A sample in a degraded unit that does not complete its recovery. -/
theorem takeSample_degraded (hdeg : s.fsu.degraded = true) (hstuck : ¬ runsStuck s fz)
    (hmore : differs s.fsu.prevFz fz = true → s.fsu.recovery < 15) {t : State} (ht : t = sampled s fx fy fz) :
    takeSample s fx fy fz = { t with fsu := { sampledFsu s fx fy fz with
      recovery := if differs s.fsu.prevFz fz then s.fsu.recovery + 1 else 0, prevFz := some fz } } := by
  obtain ⟨-, hfsu, -⟩ := sampled_spec s fx fy fz
  have hjudge : judgeStuck t = t := by rw [ht]; exact (judgeStuck_sampled s fx fy fz).1 hstuck
  rw [← ht] at hfsu
  obtain ⟨hrun, hprev, hdeg'⟩ := sampledFsu_keeps s fx fy fz
  rw [← hfsu] at hrun hprev hdeg'
  rw [hdeg] at hdeg'
  have hrecovery : recoveryStep t fx fy fz = { t with fsu := { t.fsu with
      recovery := if differs s.fsu.prevFz fz then s.fsu.recovery + 1 else 0 } } := by
    rw [recoveryStep_degraded hdeg', hprev, hrun]
    split
    next h =>
      have hfew := hmore h
      exact if_neg (by unfold recoverAt; omega)
    next => rfl
  rw [takeSample_of (j := { t with fsu := { t.fsu with
      recovery := if differs s.fsu.prevFz fz then s.fsu.recovery + 1 else 0 } }), hfsu]
  rw [← ht, hjudge, hrecovery]
  exact judgeSample_degraded (s := { t with fsu := { t.fsu with
    recovery := if differs s.fsu.prevFz fz then s.fsu.recovery + 1 else 0 } }) hdeg'

/-- The unit, zeroed, to which the sample that ends degraded contact is entered once more (R76; log entry 14). -/
def cleared (s : State) (fx fy fz : Half) : State :=
  { sampled s fx fy fz with fsu := { zeroLines (sampledFsu s fx fy fz) with
      degraded := false, causeLink := false, causeStuck := false, recovery := recoverAt } }

/-- The sample that ends degraded contact. -/
theorem takeSample_recovers (hdeg : s.fsu.degraded = true) (hstuck : ¬ runsStuck s fz)
    (hdiff : differs s.fsu.prevFz fz = true) (hrun : 15 ≤ s.fsu.recovery) {t : State}
    (ht : t = recordEvent (enterSample (cleared s fx fy fz) fx fy fz) .contactRestored 0#8) :
    takeSample s fx fy fz = { t with fsu := { t.fsu with prevFz := some fz } } := by
  obtain ⟨a, ha⟩ : ∃ a, a = sampled s fx fy fz := ⟨_, rfl⟩
  obtain ⟨-, hfsu, -⟩ := sampled_spec s fx fy fz
  have hjudge : judgeStuck a = a := by rw [ha]; exact (judgeStuck_sampled s fx fy fz).1 hstuck
  rw [← ha] at hfsu
  obtain ⟨hrecovery, hprev, hdeg'⟩ := sampledFsu_keeps s fx fy fz
  rw [← hfsu] at hrecovery hprev hdeg'
  rw [hdeg] at hdeg'
  have hrun' : recoverAt ≤ a.fsu.recovery + 1 := by
    rw [hrecovery]
    unfold recoverAt
    omega
  have hstep : recoveryStep a fx fy fz = t := by
    rw [recoveryStep_degraded hdeg', hprev, if_pos hdiff, if_pos hrun', ht, restoreContact, cleared, ← ha, hfsu]
  have hrefill : refillDone t = false := by
    have hfill : t.fsu.refill = 1 := by
      have hE := (enterSample_spec (cleared s fx fy fz) fx fy fz).2.1
      rw [ht, (recordEvent_frame _ _ _).2.2.2.2.1, hE]
      rfl
    rw [refillDone, hfill]
    simp
  refine takeSample_of ?_
  rw [← ha, hjudge, hstep]
  exact if_neg (by rw [hrefill, Bool.and_false]; nofun)

end Take

/-! ## A stuck run that completes (R73, R74) -/

theorem addCause_link (F : FootSense) : F.addCause .link = { F with causeLink := true } := by simp [FootSense.addCause]

theorem addCause_stuck (F : FootSense) : F.addCause .stuck = { F with causeStuck := true } := by simp [FootSense.addCause]

theorem latchNote_of_flag {s t : State} {c : FaultCode} (h : t.flt.flags[c.idx] = s.flt.flags[c.idx]) :
    latchNote t c = latchNote s c := by
  unfold latchNote
  rw [h]

theorem told_arriving (s : State) (dt : Nat) : Told s (arriving s dt) [] := told_of_logBasis rfl

theorem filterNote_arriving (s : State) (dt : Nat) (l : List Byte) :
    filterNote (arriving s dt) (halfAt l 0) (halfAt l 2) (halfAt l 4) = limitNote s l := by
  have hany : limitsAny (arriving s dt) (halfAt l 0) (halfAt l 2) (halfAt l 4) = sampleLimited s l := rfl
  have hcond : (arriving s dt).fsu.limitCond = s.fsu.limitCond := rfl
  unfold filterNote limitNote limitsAnew
  rw [hany, hcond]
  cases sampleLimited s l <;> cases s.fsu.limitCond <;> rfl

theorem stuckOver_spec (s : State) (fx fy fz : Half) {b : State} (hb : b = stuckOver s fx fy fz) :
    Beside s b ∧ b.fsu = { sampledFsu s fx fy fz with stuckCond := true } ∧ b.flt.flags = filteredFlags s fx fy fz ∧
      b.flt.conds = sampledConds s fx fy fz ∧ Tells s b (filterNote s fx fy fz) := by
  obtain ⟨a, ha⟩ : ∃ a, a = sampled s fx fy fz := ⟨_, rfl⟩
  obtain ⟨hbeside, -, hflags, hconds, htells⟩ := sampled_spec s fx fy fz
  rw [← ha] at hbeside hflags hconds htells
  have hb' : b = { a with fsu := { sampledFsu s fx fy fz with stuckCond := true } } := by rw [hb, ha]; rfl
  have hstill : Tells a b [] := by rw [hb']; exact .still
  have hall := htells.trans hstill
  rw [List.append_nil] at hall
  rw [hb'] at hall ⊢
  exact ⟨hbeside.trans beside_of_fsu, rfl, hflags, hconds, hall⟩

theorem cleared_spec (s : State) (fx fy fz : Half) {c : State} (hc : c = cleared s fx fy fz) :
    Beside s c ∧ c.flt.flags = filteredFlags s fx fy fz ∧ c.flt.conds = sampledConds s fx fy fz ∧
      Told s c (filterNote s fx fy fz) ∧ c.fsu = { zeroLines (sampledFsu s fx fy fz) with
        degraded := false, causeLink := false, causeStuck := false, recovery := recoverAt } := by
  obtain ⟨a, ha⟩ : ∃ a, a = sampled s fx fy fz := ⟨_, rfl⟩
  obtain ⟨hbeside, -, hflags, hconds, htells⟩ := sampled_spec s fx fy fz
  rw [cleared, ← ha] at hc
  rw [← ha] at hbeside hflags hconds htells
  have hstill : Told a c [] := by rw [hc]; exact told_of_logBasis rfl
  have hall := htells.toTold.trans hstill
  rw [List.append_nil] at hall
  refine ⟨?_, ?_, ?_, hall, by rw [hc]⟩
  · rw [hc]; exact hbeside.trans beside_of_fsu
  · rw [hc]; exact hflags
  · rw [hc]; exact hconds

/-- The sample that is entered again, and its event (R76). -/
theorem restored_spec (c : State) (fx fy fz : Half) {u : State}
    (hu : u = recordEvent (enterSample c fx fy fz) .contactRestored 0#8) :
    Beside c u ∧ u.fsu = filteredFsu c fx fy fz ∧ u.flt.flags = filteredFlags c fx fy fz ∧
      u.flt.conds = filteredConds c fx fy fz ∧ Told c u (filterNote c fx fy fz ++ [noteOf .contactRestored 0#8]) := by
  obtain ⟨E, hE⟩ : ∃ E, E = enterSample c fx fy fz := ⟨_, rfl⟩
  obtain ⟨hbeside, hfsu, hflags, hconds, htells⟩ := enterSample_spec c fx fy fz
  rw [← hE] at hbeside hfsu hflags hconds htells hu
  have hevent : Tells E u [noteOf .contactRestored 0#8] := by rw [hu]; exact .of_recordEvent 0#8
  refine ⟨hbeside.trans (hu ▸ beside_recordEvent E .contactRestored 0#8), ?_, ?_, ?_, htells.toTold.trans hevent.toTold⟩
  · rw [hu, (recordEvent_frame _ _ _).2.2.2.2.1, hfsu]
  · rw [hu, ← hflags]; simp
  · rw [hu, ← hconds]; simp

theorem filteredFsu_rest (s : State) (fx fy fz : Half) {F : FootSense} (hF : F = filteredFsu s fx fy fz) :
    F.contact = s.fsu.contact ∧ F.watch = s.fsu.watch ∧ F.linkCond = s.fsu.linkCond ∧ F.slipping = s.fsu.slipping ∧
      F.slipRun = s.fsu.slipRun ∧ F.okRun = s.fsu.okRun ∧ F.stuckCond = s.fsu.stuckCond := by
  unfold filteredFsu at hF
  rw [hF]
  exact ⟨rfl, rfl, rfl, rfl, rfl, rfl, rfl⟩

/-- The unit after the sample that ends degraded contact (R76). -/
theorem restored_fsu {d c : State} {fx fy fz : Half} (hc : c.fsu = { zeroLines (sampledFsu d fx fy fz) with
      degraded := false, causeLink := false, causeStuck := false, recovery := recoverAt }) {G : FootSense}
    (hG : G = filteredFsu c fx fy fz) :
    G.degraded = false ∧ G.causeLink = false ∧ G.causeStuck = false ∧ G.stuckRun = runAfter d.fsu fz ∧ G.refill = 1 ∧
      G.ax = ({ Axis.reset with limit := (d.fsu.ax.take d fx).limit } : Axis).take c fx ∧
      G.ay = ({ Axis.reset with limit := (d.fsu.ay.take d fy).limit } : Axis).take c fy ∧
      G.az = ({ Axis.reset with limit := (d.fsu.az.take d fz).limit } : Axis).take c fz ∧
      G.limitCond = limitsAny c fx fy fz ∧ c.fsu.limitCond = limitsAny d fx fy fz ∧
      limitsAny c fx fy fz = (outputLimited c G.ax.line || outputLimited c G.ay.line || outputLimited c G.az.line) := by
  have hany := limitsAny_eq c fx fy fz
  unfold filteredFsu at hG
  unfold zeroLines sampledFsu filteredFsu at hc
  rw [hG, hc]
  rw [hc] at hany
  exact ⟨rfl, rfl, rfl, rfl, rfl, rfl, rfl, rfl, rfl, rfl, hany⟩

theorem sampledFsu_stuckCond (s : State) (fx fy fz : Half) :
    (sampledFsu s fx fy fz).stuckCond = (s.fsu.stuckCond && !differs s.fsu.prevFz fz) := by
  unfold sampledFsu
  rfl

/-- What the sample leaves of the unit whatever becomes of its judgement. -/
theorem sampledFsu_rest (s : State) (fx fy fz : Half) {F : FootSense} (hF : F = sampledFsu s fx fy fz) :
    F.contact = s.fsu.contact ∧ F.watch = some 2000 ∧ F.linkCond = false ∧ F.prevFz = s.fsu.prevFz ∧
      F.degraded = s.fsu.degraded ∧ F.recovery = s.fsu.recovery ∧ F.slipping = s.fsu.slipping ∧
      F.slipRun = s.fsu.slipRun ∧ F.okRun = s.fsu.okRun ∧ F.causeLink = s.fsu.causeLink ∧
      F.causeStuck = s.fsu.causeStuck ∧ F.refHeight = s.fsu.refHeight := by
  unfold sampledFsu filteredFsu at hF
  rw [hF]
  exact ⟨rfl, rfl, rfl, rfl, rfl, rfl, rfl, rfl, rfl, rfl, rfl, rfl⟩

end Sys2Proof.DegradedSamples
end

section
/-! Degraded contact: the three ways in, and the way out (R72 to R74, R76). -/

-- Elaborated in order: elaborated at once, the many proofs here take more threads than the check has memory for.
set_option Elab.async false

namespace Sys2Proof.DegradedWays
open Sys2Proof Sys2Proof.Machine Sys2Proof.Laws Sys2Proof.Keeping Sys2Proof.ClassAFaults Sys2Proof.LineFaults
  Sys2Proof.Telling Sys2Proof.Reading Sys2Proof.ContactEvents Sys2Proof.FootSamples Sys2Proof.JudgedSamples
  Sys2Proof.DegradedContacts Sys2Proof.DegradedSamples Sys2Proof.LegMoves

/-! ## The link watch -/

section Link
variable {s : State} {dt k : Nat}

theorem linkLost_again (hw : s.fsu.watch = some k) (hk : k ≤ dt) (hleg : s.pe.leg ≠ .setup)
    (hc : s.fsu.linkCond = false) (hdeg : s.fsu.degraded = true) :
    ∃ t, exec (.footLinkLost dt) s = .next t ∧
      t.fsu = { s.fsu with watch := none, recovery := 0, linkCond := true, causeLink := true } ∧
      t.flt.flags = s.flt.flags.set FaultCode.footLinkLost.idx true ∧
      t.flt.conds = s.flt.conds.set FaultCode.footLinkLost.idx true ∧ Beside (elapse s dt) t ∧
      Reported s t (latchNote s .footLinkLost) := by
  obtain ⟨b, hb⟩ : ∃ b, b = linkOver (elapse s dt) := ⟨_, rfl⟩
  obtain ⟨u, hu⟩ : ∃ u, u = degrade (reportFault b (.plain .footLinkLost)) .link := ⟨_, rfl⟩
  obtain ⟨hbeside, hfsu, hflags, hconds, htold⟩ := degraded_again (c := .link) rfl (by rw [hb]; exact hdeg) hu
  have hexec := exec_footLinkLost hw hk hleg
  have hend : u = degrade (reportFault (linkOver (elapse s dt)) (.plain .footLinkLost)) .link := by rw [hu, hb]
  rw [loseLink_first (s := elapse s dt) hc hend] at hexec
  have hbefore : Told s b [] := by rw [hb]; exact told_of_logBasis rfl
  have hafter : Told u { u with fsu := { u.fsu with recovery := 0 } } [] := told_of_logBasis rfl
  have hall := (hbefore.trans htold).trans hafter
  rw [List.nil_append, List.append_nil] at hall
  have hbase : Beside (elapse s dt) b := by rw [hb]; exact beside_of_fsu
  refine ⟨_, hexec, ?_, by rw [hflags, hb]; rfl, by rw [hconds, hb]; rfl,
    (hbase.trans hbeside).trans beside_of_fsu, ?_⟩
  · rw [hfsu, addCause_link, hb]
    rfl
  · have hnote : latchNote b .footLinkLost = latchNote s .footLinkLost := by rw [hb]; rfl
    rw [← hnote]
    exact hall.reported

/-- The link watch of a sound unit expires into degraded contact (R72, R74). -/
theorem linkLost_degrades (hw : s.fsu.watch = some k) (hk : k ≤ dt) (hleg : s.pe.leg ≠ .setup)
    (hc : s.fsu.linkCond = false) (hdeg : s.fsu.degraded = false) :
    ∃ b u t, b = linkOver (elapse s dt) ∧ exec (.footLinkLost dt) s = .next t ∧
      t = { u with fsu := { u.fsu with recovery := 0 } } ∧ Degraded b u .footLinkLost .link ∧
      u.pt = s.pt ∧ u.sbi = (elapse s dt).sbi := by
  obtain ⟨b, hb⟩ : ∃ b, b = linkOver (elapse s dt) := ⟨_, rfl⟩
  obtain ⟨u, hu⟩ : ∃ u, u = degrade (reportFault b (.plain .footLinkLost)) .link := ⟨_, rfl⟩
  have hexec := exec_footLinkLost hw hk hleg
  have hend : u = degrade (reportFault (linkOver (elapse s dt)) (.plain .footLinkLost)) .link := by rw [hu, hb]
  rw [loseLink_first (s := elapse s dt) hc hend] at hexec
  have hwhole : b.fsu.degraded = false := by rw [hb]; exact hdeg
  refine ⟨b, u, _, hb, hexec, rfl, degraded_enters rfl (by decide) hwhole hu, ?_, ?_⟩
  · rw [hu, (degrade_frame _ _).2.2.2.1, (reportFault_frame _ _).2.2.2.1, hb]
    rfl
  · rw [hu, (degrade_frame _ _).2.1, (reportFault_frame _ _).2.1, hb]
    rfl

/-- What the expiry leaves: with a slip that ends, timer, freeze and condition end, and the notice is handed (R104). -/
theorem linkLost_enters (hw : s.fsu.watch = some k) (hk : k ≤ dt) (hleg : s.pe.leg ≠ .setup)
    (hc : s.fsu.linkCond = false) (hdeg : s.fsu.degraded = false) :
    ∃ t, exec (.footLinkLost dt) s = .next t ∧
      t.fsu = { s.fsu with
        watch := none, recovery := 0, linkCond := true, causeLink := true, degraded := true, slipping := false
        slipRun := 0, okRun := 0, refHeight := s.tu.measured.z } ∧
      t.flt.flags = s.flt.flags.set FaultCode.footLinkLost.idx true ∧ t.pt = s.pt ∧ t.sbi = (elapse s dt).sbi ∧
      (s.fsu.slipping = false ∨ s.pe.leg.walking = false →
        t.flt.conds = s.flt.conds.set FaultCode.footLinkLost.idx true ∧ t.pe = (elapse s dt).pe ∧
          t.tu = (elapse s dt).tu) ∧
      (s.fsu.slipping = false ∨ s.pe.leg.walking = false ∨ s.pe.leg = .hold →
        ∀ g ∈ t.txq.frames, g.isEvent = true ∨ g ∈ s.txq.frames) ∧
      (s.fsu.slipping = true → s.pe.leg.walking = true →
        t.tu = { (elapse s dt).tu with frozen := false } ∧
        t.flt.conds = (if s.pe.slipReported then
          (s.flt.conds.set FaultCode.footLinkLost.idx true).set FaultCode.slipPersist.idx false
          else s.flt.conds.set FaultCode.footLinkLost.idx true) ∧
        (s.pe.leg = .hold → t.pe = { (elapse s dt).pe with slipReported := false }) ∧
        (s.pe.leg ≠ .hold → (s.pe.leg = .claim → QueueOrdered s) →
          t.pe = { (elapse s dt).pe with slipT := none, slipReported := false } ∧
          (s.txq.frames.length ≤ 6 →
            noticeWith s s.pe.leg s.pe.applied.gait false 6 s.pe.steps 0xFF#8 ∈ t.txq.frames))) ∧
      Reported s t (latchNote s .footLinkLost ++ [{ bit := 1, code := 0x30, detail := 1#8 }]) := by
  obtain ⟨b, u, t, hb, hexec, ht, hd, hpt, hsbi⟩ := linkLost_degrades hw hk hleg hc hdeg
  have hbefore : Told s b [] := by rw [hb]; exact told_of_logBasis rfl
  have hoffers : Offers (elapse s dt) b := by rw [hb]; exact offers_of_offerBasis rfl
  have hafter : Told u t [] := by rw [ht]; exact told_of_logBasis rfl
  have hall := (hbefore.trans hd.told).trans hafter
  rw [List.append_nil] at hall
  have htxq : t.txq = u.txq := by rw [ht]
  have hpe : b.pe = (elapse s dt).pe := by rw [hb]; rfl
  have htu : b.tu = (elapse s dt).tu := by rw [hb]; rfl
  have hslip : b.fsu.slipping = s.fsu.slipping := by rw [hb]; rfl
  have hflt : b.flt = s.flt := by rw [hb]; rfl
  have hleg' : b.pe.leg = s.pe.leg := by rw [hb]; rfl
  have hwalk : b.pe.leg.walking = s.pe.leg.walking := by rw [hleg']
  refine ⟨t, hexec, ?_, ?_, ?_, ?_, fun hq => ?_, fun hq g hg => ?_, fun hs hw' => ⟨?_, ?_, fun hl => ?_, fun hl hclaim =>
    ?_⟩, ?_⟩
  · rw [ht, hd.fsu]
    unfold degradedFsu restingFsu
    rw [addCause_link, hb]
    rfl
  · rw [ht, hd.flags, hflt]
  · rw [ht]; exact hpt
  · rw [ht]; exact hsbi
  · obtain ⟨h1, h2, h3⟩ := hd.quiet (by rwa [hslip, hwalk])
    rw [ht, h1, h2, h3, hflt, hpe, htu]
    exact ⟨rfl, rfl, rfl⟩
  · rw [htxq] at hg
    exact (hoffers.trans (hd.silent (by rwa [hslip, hwalk, hleg']))).mem g hg
  · rw [ht, (hd.slips (by rwa [hslip]) (by rwa [hwalk])).1, htu]
  · rw [ht, (hd.slips (by rwa [hslip]) (by rwa [hwalk])).2, hflt, hpe]
    rfl
  · rw [ht, hd.held (by rwa [hslip]) (by rwa [hleg']), hpe]
  · obtain ⟨h1, h2⟩ := hd.tells (by rwa [hslip]) (by rwa [hwalk]) (by rwa [hleg']) fun h => by
      have hordered := hclaim (by rw [← hleg']; exact h)
      have hstation : b.sbi.station = s.sbi.station := by rw [hb]; simp [linkOver]
      have hq : b.txq = s.txq := by rw [hb]; rfl
      unfold QueueOrdered
      rw [hq, hstation]
      exact hordered
    refine ⟨by rw [ht, h1, hpe], fun hroom => ?_⟩
    have hnotice : slipOverNotice b = noticeWith s s.pe.leg s.pe.applied.gait false 6 s.pe.steps 0xFF#8 := by
      have hstation : b.sbi.station = s.sbi.station := by rw [hb]; simp [linkOver]
      unfold slipOverNotice noticeWith
      simp only [hstation, hpe]
      rw [hb]
      rfl
    rw [htxq, ← hnotice]
    exact h2 (elapse s dt) hoffers hroom
  · have hnote : latchNote b .footLinkLost = latchNote s .footLinkLost := by rw [hb]; rfl
    rw [← hnote]
    exact hall.reported

end Link

/-! ## The samples -/

section Samples
variable {s : State} {dt : Nat} {l : List Byte}

/-- The state in which a stuck run that completes reports its fault, beside the state before the command. -/
structure Stuck (s : State) (dt : Nat) (l : List Byte) (b : State) : Prop where
  beside : Beside (elapse s dt) b
  told : Told s b (limitNote s l)
  offers : Offers (elapse s dt) b
  flags : ∀ i : Fin 17, i ≠ FaultCode.filterLimit.idx → b.flt.flags[i] = s.flt.flags[i]
  slipPersist : b.flt.conds[FaultCode.slipPersist.idx] = s.flt.conds[FaultCode.slipPersist.idx]
  fsu : b.fsu = { sampledFsu (arriving s dt) (halfAt l 0) (halfAt l 2) (halfAt l 4) with stuckCond := true }

theorem stuck_before {b : State} (hb : b = stuckOver (arriving s dt) (halfAt l 0) (halfAt l 2) (halfAt l 4)) :
    Stuck s dt l b := by
  obtain ⟨hbeside, hfsu, hflags, hconds, htells⟩ := stuckOver_spec _ _ _ _ hb
  rw [filterNote_arriving] at htells
  have harrive : Beside (elapse s dt) (arriving s dt) := beside_of_fsu
  refine ⟨harrive.trans hbeside, (told_arriving s dt).trans htells.toTold, ?_, fun i hi => ?_, ?_, hfsu⟩
  · have hstill : Offers (elapse s dt) (arriving s dt) := offers_of_offerBasis rfl
    exact hstill.trans htells.toOffers
  · rw [hflags, filteredFlags_other _ _ _ _ hi]
    rfl
  · rw [hconds, sampledConds_idx, if_neg (by decide), if_neg (by decide), filteredConds_idx, if_neg (fun h => nomatch h.1)]
    rfl

/-- What every sample of a degraded unit leaves, and every sample that degrades it. -/
structure Common (s : State) (dt : Nat) (l : List Byte) (t : State) : Prop where
  run : exec (.forceSampleGood dt l) s = .next t
  contact : t.fsu.contact = s.fsu.contact
  watch : t.fsu.watch = some 2000
  linkCond : t.fsu.linkCond = false
  prevFz : t.fsu.prevFz = some (halfAt l 4)
  pt : t.pt = s.pt
  sbi : t.sbi = (elapse s dt).sbi
  flags : ∀ i : Fin 17, i ≠ FaultCode.filterLimit.idx → i ≠ FaultCode.forceStuck.idx → t.flt.flags[i] = s.flt.flags[i]

theorem stuck_flags {b u : State} (hb : Stuck s dt l b)
    (hflags : u.flt.flags = b.flt.flags.set FaultCode.forceStuck.idx true) :
    u.flt.flags[FaultCode.forceStuck.idx] = true ∧
    ∀ i : Fin 17, i ≠ FaultCode.filterLimit.idx → i ≠ FaultCode.forceStuck.idx → u.flt.flags[i] = s.flt.flags[i] := by
  rw [hflags]
  exact ⟨by rw [set_idx, if_pos rfl], fun i hf hs => (set_ne hs true).trans (hb.flags i hf)⟩

/-- A stuck run that completes in a degraded unit adds the cause STUCK (R73, R74). -/
theorem stuck_again (htaken : SampleTaken s l) (hstuck : StuckNow s l) (hdeg : s.fsu.degraded = true) :
    ∃ t, Common s dt l t ∧
      t.fsu.degraded = true ∧ t.fsu.stuckCond = true ∧ t.fsu.causeStuck = true ∧ t.fsu.causeLink = s.fsu.causeLink ∧
      t.fsu.recovery = 0 ∧ t.fsu.refHeight = s.fsu.refHeight ∧ t.flt.flags[FaultCode.forceStuck.idx] = true ∧
      t.flt.conds[FaultCode.forceStuck.idx] = true ∧ t.pe = (elapse s dt).pe ∧ t.tu = (elapse s dt).tu ∧
      Reported s t (limitNote s l ++ latchNote s .forceStuck) := by
  obtain ⟨b, hb⟩ : ∃ b, b = stuckOver (arriving s dt) (halfAt l 0) (halfAt l 2) (halfAt l 4) := ⟨_, rfl⟩
  obtain ⟨u, hu⟩ : ∃ u, u = degrade (reportFault b (.plain .forceStuck)) .stuck := ⟨_, rfl⟩
  have hbefore := stuck_before hb
  have hbfsu := hbefore.fsu
  obtain ⟨F, hF⟩ : ∃ F, F = sampledFsu (arriving s dt) (halfAt l 0) (halfAt l 2) (halfAt l 4) := ⟨_, rfl⟩
  obtain ⟨hcontact, hwatch, hlinkCond, hprev, hdeg', -, -, -, -, hlink, -, hheight⟩ := sampledFsu_rest _ _ _ _ hF
  rw [← hF] at hbfsu
  have hbdeg : b.fsu.degraded = true := by rw [hbfsu]; exact hdeg'.trans hdeg
  obtain ⟨hbeside, hfsu, hflags, hconds, htold⟩ := degraded_again (c := .stuck) rfl hbdeg hu
  rw [hbfsu, addCause_stuck] at hfsu
  obtain ⟨t, ht⟩ : ∃ t : State, t = { u with fsu := { u.fsu with recovery := 0, prevFz := some (halfAt l 4) } } := ⟨_, rfl⟩
  have hrun : exec (.forceSampleGood dt l) s = .next t := by
    have hrunsStuck : runsStuck (arriving s dt) (halfAt l 4) := hstuck
    have hend : u = degrade (reportFault (stuckOver (arriving s dt) (halfAt l 0) (halfAt l 2) (halfAt l 4))
        (.plain .forceStuck)) .stuck := by rw [hu, hb]
    rw [exec_sample htaken, ht, takeSample_stuck hrunsStuck hend (by rw [hfsu]; exact hdeg'.trans hdeg)
      (by rw [hfsu]; exact hprev)]
  obtain ⟨hset, hothers⟩ := stuck_flags hbefore hflags
  have hall := (hbefore.told.trans htold).trans (told_of_logBasis (t := t) (by rw [ht]; rfl))
  rw [List.append_nil, latchNote_of_flag (hbefore.flags _ (by decide))] at hall
  have hbase := hbefore.beside.trans hbeside
  rw [ht, hfsu] at hrun hall
  exact ⟨_, ⟨hrun, hcontact, hwatch, hlinkCond, rfl, hbase.pt, hbase.sbi, hothers⟩, hdeg'.trans hdeg, rfl, rfl, hlink, rfl,
    hheight, hset, by show u.flt.conds[_] = _; rw [hconds, set_idx, if_pos rfl], hbase.pe, hbase.tu, hall.reported⟩

theorem stepping_walks {g : LegState} : g.stepping = true → g.walking = true ∧ g ≠ .hold ∧ g ≠ .claim := by
  cases g <;> decide

/-- Where it ends a slip the leg acts on it, and hands the notice (R74, R104). -/
theorem stuck_slip {b u : State} (hbefore : Stuck s dt l b) (hstuck : StuckNow s l)
    (hbslip : b.fsu.slipping = s.fsu.slipping) (hd : Degraded b u .forceStuck .stuck) :
    u.pe = (if s.fsu.slipping then { (elapse s dt).pe with slipT := none, slipReported := false } else (elapse s dt).pe) ∧
    u.tu = (if s.fsu.slipping then { (elapse s dt).tu with frozen := false } else (elapse s dt).tu) ∧
    u.flt.conds[FaultCode.forceStuck.idx] = true ∧
    u.flt.conds[FaultCode.slipPersist.idx] =
      (s.flt.conds[FaultCode.slipPersist.idx] && !(s.fsu.slipping && s.pe.slipReported)) ∧
    (s.fsu.slipping = true → s.txq.frames.length ≤ 6 →
      noticeWith s s.pe.leg s.pe.applied.gait false 6 s.pe.steps 0xFF#8 ∈ u.txq.frames) := by
  have hbpe := hbefore.beside.pe
  have hbtu := hbefore.beside.tu
  have hbleg : b.pe.leg = s.pe.leg := by rw [hbpe]; rfl
  obtain ⟨hwalk, hhold, hclaim⟩ := stepping_walks hstuck.1
  rw [← hbleg] at hwalk hhold hclaim
  have hacts : u.pe = (if s.fsu.slipping then { (elapse s dt).pe with slipT := none, slipReported := false }
        else (elapse s dt).pe) ∧
      u.tu = (if s.fsu.slipping then { (elapse s dt).tu with frozen := false } else (elapse s dt).tu) ∧
      u.flt.conds = (if s.fsu.slipping && s.pe.slipReported then
        (b.flt.conds.set FaultCode.forceStuck.idx true).set FaultCode.slipPersist.idx false
        else b.flt.conds.set FaultCode.forceStuck.idx true) := by
    cases hs : s.fsu.slipping with
    | false =>
      obtain ⟨hconds, hpe, htu⟩ := hd.quiet (.inl (hbslip.trans hs))
      exact ⟨hpe.trans hbpe, htu.trans hbtu, hconds⟩
    | true =>
      obtain ⟨htu, hconds⟩ := hd.slips (hbslip.trans hs) hwalk
      obtain ⟨hpe, -⟩ := hd.tells (hbslip.trans hs) hwalk hhold fun h => absurd h hclaim
      rw [hpe, htu, hconds, hbpe, hbtu]
      exact ⟨rfl, rfl, rfl⟩
  obtain ⟨hpe, htu, hconds⟩ := hacts
  have hstuckCond : u.flt.conds[FaultCode.forceStuck.idx] = true := by
    rw [hconds]
    split
    · rw [set_idx, if_neg (by decide), set_idx, if_pos rfl]
    · rw [set_idx, if_pos rfl]
  have hslipCond : u.flt.conds[FaultCode.slipPersist.idx] =
      (s.flt.conds[FaultCode.slipPersist.idx] && !(s.fsu.slipping && s.pe.slipReported)) := by
    rw [hconds]
    split
    next h => rw [set_idx, if_pos rfl, h]; simp
    next h => rw [set_idx, if_neg (by decide), hbefore.slipPersist, Bool.eq_false_iff.2 h]; simp
  have hnotice : s.fsu.slipping = true → s.txq.frames.length ≤ 6 →
      noticeWith s s.pe.leg s.pe.applied.gait false 6 s.pe.steps 0xFF#8 ∈ u.txq.frames := fun hs hroom => by
    obtain ⟨-, hin⟩ := hd.tells (hbslip.trans hs) hwalk hhold fun h => absurd h hclaim
    have hsame : slipOverNotice b = noticeWith s s.pe.leg s.pe.applied.gait false 6 s.pe.steps 0xFF#8 := by
      have hstation : b.sbi.station = s.sbi.station := by rw [hbefore.beside.sbi]; simp
      have hpos : b.legPos = s.legPos := by
        simp only [State.legPos, State.uword, hbefore.beside.setup]
        rfl
      unfold slipOverNotice noticeWith
      rw [hstation, hpos, hbpe]
      rfl
    rw [← hsame]
    exact hin (elapse s dt) hbefore.offers hroom
  exact ⟨hpe, htu, hstuckCond, hslipCond, hnotice⟩

/-- A stuck run that completes makes a sound unit degraded, and ends its slip (R73, R74, R104). -/
theorem stuck_enters (htaken : SampleTaken s l) (hstuck : StuckNow s l) (hdeg : s.fsu.degraded = false) :
    ∃ t, Common s dt l t ∧
      (t.fsu.degraded = true ∧ t.fsu.stuckCond = true ∧ t.fsu.causeStuck = true ∧ t.fsu.causeLink = s.fsu.causeLink ∧
        t.fsu.recovery = 0 ∧ t.flt.flags[FaultCode.forceStuck.idx] = true ∧
        t.flt.conds[FaultCode.forceStuck.idx] = true) ∧
      t.fsu.refHeight = s.tu.measured.z ∧ t.fsu.slipping = false ∧ t.fsu.slipRun = 0 ∧ t.fsu.okRun = 0 ∧
      t.pe = (if s.fsu.slipping then { (elapse s dt).pe with slipT := none, slipReported := false } else (elapse s dt).pe) ∧
      t.tu = (if s.fsu.slipping then { (elapse s dt).tu with frozen := false } else (elapse s dt).tu) ∧
      t.flt.conds[FaultCode.slipPersist.idx] =
        (s.flt.conds[FaultCode.slipPersist.idx] && !(s.fsu.slipping && s.pe.slipReported)) ∧
      (s.fsu.slipping = true → s.txq.frames.length ≤ 6 →
        noticeWith s s.pe.leg s.pe.applied.gait false 6 s.pe.steps 0xFF#8 ∈ t.txq.frames) ∧
      Reported s t (limitNote s l ++ latchNote s .forceStuck ++ [{ bit := 1, code := 0x30, detail := 2#8 }]) := by
  obtain ⟨b, hb⟩ : ∃ b, b = stuckOver (arriving s dt) (halfAt l 0) (halfAt l 2) (halfAt l 4) := ⟨_, rfl⟩
  obtain ⟨u, hu⟩ : ∃ u, u = degrade (reportFault b (.plain .forceStuck)) .stuck := ⟨_, rfl⟩
  have hbefore := stuck_before hb
  have hbfsu := hbefore.fsu
  obtain ⟨F, hF⟩ : ∃ F, F = sampledFsu (arriving s dt) (halfAt l 0) (halfAt l 2) (halfAt l 4) := ⟨_, rfl⟩
  obtain ⟨hcontact, hwatch, hlinkCond, hprev, hdeg', -, hslip, -, -, hlink, -, -⟩ := sampledFsu_rest _ _ _ _ hF
  rw [← hF] at hbfsu
  have hbdeg : b.fsu.degraded = false := by rw [hbfsu]; exact hdeg'.trans hdeg
  have hbslip : b.fsu.slipping = s.fsu.slipping := by rw [hbfsu]; exact hslip
  have hd : Degraded b u .forceStuck .stuck := degraded_enters rfl (by decide) hbdeg hu
  have hfsu : u.fsu = { F with
      stuckCond := true, causeStuck := true, degraded := true, slipping := false, slipRun := 0, okRun := 0
      refHeight := s.tu.measured.z, recovery := 0 } := by
    rw [hd.fsu]
    unfold degradedFsu restingFsu
    rw [addCause_stuck, hbfsu, hbefore.beside.tu]
    rfl
  obtain ⟨t, ht⟩ : ∃ t : State, t = { u with fsu := { u.fsu with recovery := 0, prevFz := some (halfAt l 4) } } := ⟨_, rfl⟩
  have hrun : exec (.forceSampleGood dt l) s = .next t := by
    have hrunsStuck : runsStuck (arriving s dt) (halfAt l 4) := hstuck
    have hend : u = degrade (reportFault (stuckOver (arriving s dt) (halfAt l 0) (halfAt l 2) (halfAt l 4))
        (.plain .forceStuck)) .stuck := by rw [hu, hb]
    rw [exec_sample htaken, ht, takeSample_stuck hrunsStuck hend (by rw [hfsu]) (by rw [hfsu]; exact hprev)]
  obtain ⟨hset, hothers⟩ := stuck_flags hbefore hd.flags
  have hall := (hbefore.told.trans hd.told).trans (told_of_logBasis (t := t) (by rw [ht]; rfl))
  rw [List.append_nil, latchNote_of_flag (hbefore.flags _ (by decide)), ← List.append_assoc] at hall
  have hpt : u.pt = s.pt := by
    rw [hu, (degrade_frame _ _).2.2.2.1, (reportFault_frame _ _).2.2.2.1]
    exact hbefore.beside.pt
  have hsbi : u.sbi = (elapse s dt).sbi := by
    rw [hu, (degrade_frame _ _).2.1, (reportFault_frame _ _).2.1]
    exact hbefore.beside.sbi
  obtain ⟨hpe, htu, hstuckCond, hslipCond, hnotice⟩ := stuck_slip hbefore hstuck hbslip hd
  rw [ht, hfsu] at hrun hall
  exact ⟨_, ⟨hrun, hcontact, hwatch, hlinkCond, rfl, hpt, hsbi, hothers⟩,
    ⟨rfl, rfl, rfl, hlink, rfl, hset, hstuckCond⟩, rfl, rfl, rfl, rfl, hpe, htu, hslipCond, hnotice, hall.reported⟩

/-- The events of the filter on the zeroed lines add FILTER_LIMIT where the first entry of the sample has not (R65, R76). -/
theorem twice_notes {s : State} {once cond again : Bool} {m : State}
    (hflag : m.flt.flags[FaultCode.filterLimit.idx] =
      (s.flt.flags[FaultCode.filterLimit.idx] || (once && !cond))) :
    (if once = true ∧ cond = false then latchNote s .filterLimit else []) ++
        (if (again && !once) = true then latchNote m .filterLimit else []) =
      if ((once && !cond) || (again && !once)) = true then latchNote s .filterLimit else [] := by
  cases once with
  | true => cases cond <;> cases again <;> simp
  | false =>
    have hnote : latchNote m .filterLimit = latchNote s .filterLimit := latchNote_of_flag (by rw [hflag]; simp)
    cases again <;> simp [hnote]

/-- What a sample in a degraded unit leaves where it completes no stuck run. -/
structure Unstuck (s : State) (dt : Nat) (l : List Byte) (t : State) : Prop extends Common s dt l t where
  pe : t.pe = (elapse s dt).pe
  tu : t.tu = (elapse s dt).tu
  slipping : t.fsu.slipping = s.fsu.slipping
  slipRun : t.fsu.slipRun = s.fsu.slipRun
  okRun : t.fsu.okRun = s.fsu.okRun
  stuckFlag : t.flt.flags[FaultCode.forceStuck.idx] = s.flt.flags[FaultCode.forceStuck.idx]
  stuckCond : t.fsu.stuckCond = (s.fsu.stuckCond && !differs s.fsu.prevFz (halfAt l 4))
  stuckConds : t.flt.conds[FaultCode.forceStuck.idx] =
    (s.flt.conds[FaultCode.forceStuck.idx] && !(s.fsu.stuckCond && differs s.fsu.prevFz (halfAt l 4)))

/-- A sample that leaves a unit degraded moves its recovery run (R76). -/
theorem degraded_stays (htaken : SampleTaken s l) (hstuck : ¬ StuckNow s l) (hdeg : s.fsu.degraded = true)
    (hmore : differs s.fsu.prevFz (halfAt l 4) = true → s.fsu.recovery < 15) :
    ∃ t, Unstuck s dt l t ∧ t.fsu.degraded = true ∧
      t.fsu.recovery = (if differs s.fsu.prevFz (halfAt l 4) then s.fsu.recovery + 1 else 0) ∧
      Reported s t (limitNote s l) := by
  obtain ⟨a, ha⟩ : ∃ a, a = sampled (arriving s dt) (halfAt l 0) (halfAt l 2) (halfAt l 4) := ⟨_, rfl⟩
  obtain ⟨hbeside, -, hflags, hconds, htells⟩ := sampled_spec (arriving s dt) (halfAt l 0) (halfAt l 2) (halfAt l 4)
  rw [← ha] at hbeside hflags hconds htells
  rw [filterNote_arriving] at htells
  have hnot : ¬ runsStuck (arriving s dt) (halfAt l 4) := hstuck
  have hrun := (exec_sample htaken dt).trans (congrArg Host.Outcome.next (takeSample_degraded (s := arriving s dt) hdeg hnot
    hmore ha))
  have hstuckCond := sampledFsu_stuckCond (arriving s dt) (halfAt l 0) (halfAt l 2) (halfAt l 4)
  obtain ⟨F, hF⟩ : ∃ F, F = sampledFsu (arriving s dt) (halfAt l 0) (halfAt l 2) (halfAt l 4) := ⟨_, rfl⟩
  obtain ⟨hcontact, hwatch, hlinkCond, -, hdeg', -, hslip, hslipRun, hokRun, -⟩ := sampledFsu_rest _ _ _ _ hF
  rw [← hF] at hrun hstuckCond
  have hbase := (beside_of_fsu : Beside (elapse s dt) (arriving s dt)).trans hbeside
  have hother (i : Fin 17) (hi : i ≠ FaultCode.filterLimit.idx) : a.flt.flags[i] = s.flt.flags[i] := by
    rw [hflags, filteredFlags_other _ _ _ _ hi]
    rfl
  refine ⟨_, ⟨⟨hrun, hcontact, hwatch, hlinkCond, rfl, hbase.pt, hbase.sbi, fun i hi _ => hother i hi⟩, hbase.pe, hbase.tu,
    hslip, hslipRun, hokRun, hother _ (by decide), hstuckCond, ?_⟩, hdeg'.trans hdeg, rfl, ?_⟩
  · show a.flt.conds[_] = _
    rw [hconds, sampledConds_idx, if_pos rfl]
    rfl
  · have hall := ((told_arriving s dt).trans htells.toTold).trans (told_of_logBasis (t := { a with fsu := { F with
      recovery := if differs (arriving s dt).fsu.prevFz (halfAt l 4) then (arriving s dt).fsu.recovery + 1 else 0
      prevFz := some (halfAt l 4) } }) rfl)
    rw [List.append_nil] at hall
    exact hall.reported

/-- The sample that ends degraded contact is the first of the refill, entered on the zeroed lines (R76; log entry 14). -/
theorem degraded_ends (htaken : SampleTaken s l) (hstuck : ¬ StuckNow s l) (hdeg : s.fsu.degraded = true)
    (hdiff : differs s.fsu.prevFz (halfAt l 4) = true) (hrun : 15 ≤ s.fsu.recovery) :
    ∃ c t, Unstuck s dt l t ∧ c = cleared (arriving s dt) (halfAt l 0) (halfAt l 2) (halfAt l 4) ∧
      t.fsu = { filteredFsu c (halfAt l 0) (halfAt l 2) (halfAt l 4) with prevFz := some (halfAt l 4) } ∧
      t.flt.flags = filteredFlags c (halfAt l 0) (halfAt l 2) (halfAt l 4) ∧
      t.flt.conds = filteredConds c (halfAt l 0) (halfAt l 2) (halfAt l 4) ∧
      c.setup = s.setup ∧ c.flt.conds = sampledConds (arriving s dt) (halfAt l 0) (halfAt l 2) (halfAt l 4) ∧
      c.flt.flags = filteredFlags (arriving s dt) (halfAt l 0) (halfAt l 2) (halfAt l 4) ∧
      Told s t (limitNote s l ++ filterNote c (halfAt l 0) (halfAt l 2) (halfAt l 4) ++ [noteOf .contactRestored 0#8]) := by
  obtain ⟨c, hc⟩ : ∃ c, c = cleared (arriving s dt) (halfAt l 0) (halfAt l 2) (halfAt l 4) := ⟨_, rfl⟩
  obtain ⟨u, hu⟩ : ∃ u, u = recordEvent (enterSample c (halfAt l 0) (halfAt l 2) (halfAt l 4)) .contactRestored 0#8 :=
    ⟨_, rfl⟩
  obtain ⟨hbeside, hcflags, hcconds, hctold, hcfsu⟩ := cleared_spec _ _ _ _ hc
  obtain ⟨hubeside, hufsu, huflags, huconds, hutold⟩ := restored_spec _ _ _ _ hu
  rw [filterNote_arriving] at hctold
  have hbase : Beside (elapse s dt) c := (beside_of_fsu : Beside (elapse s dt) (arriving s dt)).trans hbeside
  have hwhole := hbase.trans hubeside
  have hnot : ¬ runsStuck (arriving s dt) (halfAt l 4) := hstuck
  have hend : u = recordEvent (enterSample (cleared (arriving s dt) (halfAt l 0) (halfAt l 2) (halfAt l 4))
      (halfAt l 0) (halfAt l 2) (halfAt l 4)) .contactRestored 0#8 := by rw [hu, hc]
  have hexec := (exec_sample htaken dt).trans (congrArg Host.Outcome.next (takeSample_recovers (s := arriving s dt) hdeg hnot
    hdiff hrun hend))
  have hother (i : Fin 17) (hi : i ≠ FaultCode.filterLimit.idx) : u.flt.flags[i] = s.flt.flags[i] := by
    rw [huflags, filteredFlags_other c _ _ _ hi, hcflags, filteredFlags_other _ _ _ _ hi]
    rfl
  have htold := ((told_arriving s dt).trans hctold).trans hutold
  rw [List.nil_append, ← List.append_assoc] at htold
  obtain ⟨F, hF⟩ : ∃ F, F = sampledFsu (arriving s dt) (halfAt l 0) (halfAt l 2) (halfAt l 4) := ⟨_, rfl⟩
  obtain ⟨hcontact, hwatch, hlinkCond, -, -, -, hslip, hslipRun, hokRun, -⟩ := sampledFsu_rest _ _ _ _ hF
  have hstuckCond := sampledFsu_stuckCond (arriving s dt) (halfAt l 0) (halfAt l 2) (halfAt l 4)
  rw [← hF] at hstuckCond hcfsu
  have hrest : c.fsu.contact = F.contact ∧ c.fsu.watch = F.watch ∧ c.fsu.linkCond = F.linkCond ∧
      c.fsu.slipping = F.slipping ∧ c.fsu.slipRun = F.slipRun ∧ c.fsu.okRun = F.okRun ∧ c.fsu.stuckCond = F.stuckCond := by
    rw [hcfsu]
    exact ⟨rfl, rfl, rfl, rfl, rfl, rfl, rfl⟩
  obtain ⟨G, hG⟩ : ∃ G, G = filteredFsu c (halfAt l 0) (halfAt l 2) (halfAt l 4) := ⟨_, rfl⟩
  obtain ⟨g1, g2, g3, g4, g5, g6, g7⟩ := filteredFsu_rest _ _ _ _ hG
  obtain ⟨h1, h2, h3, h4, h5, h6, h7⟩ := hrest
  obtain ⟨t, ht⟩ : ∃ t : State, t = { u with fsu := { u.fsu with prevFz := some (halfAt l 4) } } := ⟨_, rfl⟩
  rw [← ht] at hexec
  have hall := htold.trans (told_of_logBasis (t := t) (by rw [ht]; rfl))
  rw [List.append_nil] at hall
  have htfsu : t.fsu = { filteredFsu c (halfAt l 0) (halfAt l 2) (halfAt l 4) with prevFz := some (halfAt l 4) } := by
    rw [ht, hufsu]
  have htwhole : Beside u t := by rw [ht]; exact beside_of_fsu
  have htflt : t.flt = u.flt := by rw [ht]
  have hthere := hwhole.trans htwhole
  have hconds : t.flt.conds[FaultCode.forceStuck.idx] =
      (s.flt.conds[FaultCode.forceStuck.idx] && !(s.fsu.stuckCond && differs s.fsu.prevFz (halfAt l 4))) := by
    rw [htflt, huconds, filteredConds_idx, if_neg (fun h => nomatch h.1), hcconds, sampledConds_idx, if_pos rfl]
    rfl
  rw [← hG] at htfsu
  have hcommon : Common s dt l t := by
    refine ⟨hexec, ?_, ?_, ?_, ?_, hthere.pt, hthere.sbi, fun i hi _ => by rw [htflt]; exact hother i hi⟩
    · rw [htfsu]; exact (g1.trans h1).trans hcontact
    · rw [htfsu]; exact (g2.trans h2).trans hwatch
    · rw [htfsu]; exact (g3.trans h3).trans hlinkCond
    · rw [htfsu]
  refine ⟨c, t, ⟨hcommon, hthere.pe, hthere.tu, ?_, ?_, ?_, ?_, ?_, hconds⟩, hc, by rw [htfsu, hG], by rw [htflt, huflags],
    by rw [htflt, huconds], hbase.setup, hcconds, hcflags, hall⟩
  · rw [htfsu]; exact (g4.trans h4).trans hslip
  · rw [htfsu]; exact (g5.trans h5).trans hslipRun
  · rw [htfsu]; exact (g6.trans h6).trans hokRun
  · rw [htflt]; exact hother _ (by decide)
  · rw [htfsu]; exact (g7.trans h7).trans hstuckCond

/-- The unit and the faults after the sample that ends degraded contact: both entries limit axes of their own (R65, R76). -/
theorem ended_unit {c t : State} (hsome : s.fsu.prevFz ≠ some (halfAt l 4))
    (hc : c = cleared (arriving s dt) (halfAt l 0) (halfAt l 2) (halfAt l 4))
    (hfsu : t.fsu = { filteredFsu c (halfAt l 0) (halfAt l 2) (halfAt l 4) with prevFz := some (halfAt l 4) })
    (hflags : t.flt.flags = filteredFlags c (halfAt l 0) (halfAt l 2) (halfAt l 4))
    (hconds : t.flt.conds = filteredConds c (halfAt l 0) (halfAt l 2) (halfAt l 4)) (hsetup : c.setup = s.setup)
    (hcconds : c.flt.conds = sampledConds (arriving s dt) (halfAt l 0) (halfAt l 2) (halfAt l 4))
    (hcflags : c.flt.flags = filteredFlags (arriving s dt) (halfAt l 0) (halfAt l 2) (halfAt l 4))
    (htold : Told s t
      (limitNote s l ++ filterNote c (halfAt l 0) (halfAt l 2) (halfAt l 4) ++ [noteOf .contactRestored 0#8])) :
    t.fsu.degraded = false ∧ t.fsu.causeLink = false ∧ t.fsu.causeStuck = false ∧ t.fsu.stuckRun = 1 ∧ t.fsu.refill = 1 ∧
    (∀ k : Fin 16,
      t.fsu.ax.line[k] = (if k.val = 0 then halfAt l 0 else 0#16) ∧
      t.fsu.ay.line[k] = (if k.val = 0 then halfAt l 2 else 0#16) ∧
      t.fsu.az.line[k] = (if k.val = 0 then halfAt l 4 else 0#16)) ∧
    t.fsu.ax.out = outputOf s t.fsu.ax.line ∧ t.fsu.ay.out = outputOf s t.fsu.ay.line ∧
    t.fsu.az.out = outputOf s t.fsu.az.line ∧
    t.fsu.ax.limit = (s.fsu.ax.limit || outputLimited s (lineAfter (halfAt l 0) s.fsu.ax.line) ||
      outputLimited s t.fsu.ax.line) ∧
    t.fsu.ay.limit = (s.fsu.ay.limit || outputLimited s (lineAfter (halfAt l 2) s.fsu.ay.line) ||
      outputLimited s t.fsu.ay.line) ∧
    t.fsu.az.limit = (s.fsu.az.limit || outputLimited s (lineAfter (halfAt l 4) s.fsu.az.line) ||
      outputLimited s t.fsu.az.line) ∧
    (let once := sampleLimited s l
    let again := outputLimited s t.fsu.ax.line || outputLimited s t.fsu.ay.line || outputLimited s t.fsu.az.line
    let before := if once = s.fsu.limitCond then s.flt.conds[FaultCode.filterLimit.idx] else once
    let new := (once && !s.fsu.limitCond) || (again && !once)
    t.fsu.limitCond = again ∧
    t.flt.flags[FaultCode.filterLimit.idx] = (s.flt.flags[FaultCode.filterLimit.idx] || new) ∧
    t.flt.conds[FaultCode.filterLimit.idx] = (if again = once then before else again) ∧
    Reported s t ((if new then latchNote s .filterLimit else []) ++ [{ bit := 1, code := 0x31, detail := 0#8 }])) := by
  obtain ⟨G, hG⟩ : ∃ G, G = filteredFsu c (halfAt l 0) (halfAt l 2) (halfAt l 4) := ⟨_, rfl⟩
  obtain ⟨h1, h2, h3, hrun, h5, hx, hy, hz, hlimit, honce, hagain⟩ :=
    restored_fsu (cleared_spec _ _ _ _ hc).2.2.2.2 hG
  have hd : (arriving s dt).setup = s.setup := rfl
  obtain ⟨hxline, hxout, hxlimit⟩ := take_again_spec hsetup hd _ _ hx
  obtain ⟨hyline, hyout, hylimit⟩ := take_again_spec hsetup hd _ _ hy
  obtain ⟨hzline, hzout, hzlimit⟩ := take_again_spec hsetup hd _ _ hz
  have hlimits : limitsAny c (halfAt l 0) (halfAt l 2) (halfAt l 4) =
      (outputLimited s G.ax.line || outputLimited s G.ay.line || outputLimited s G.az.line) := by
    rw [hagain, outputLimited_congr hsetup, outputLimited_congr hsetup, outputLimited_congr hsetup]
  have honce' : limitsAny (arriving s dt) (halfAt l 0) (halfAt l 2) (halfAt l 4) = sampleLimited s l := rfl
  have hanew : limitsAnew (arriving s dt) (halfAt l 0) (halfAt l 2) (halfAt l 4) =
    (sampleLimited s l && !s.fsu.limitCond) := rfl
  have hanew' : limitsAnew c (halfAt l 0) (halfAt l 2) (halfAt l 4) =
      ((outputLimited s G.ax.line || outputLimited s G.ay.line || outputLimited s G.az.line) && !sampleLimited s l) := by
    rw [limitsAnew, hlimits, honce, honce']
  have hcflag : c.flt.flags[FaultCode.filterLimit.idx] = (s.flt.flags[FaultCode.filterLimit.idx] || (sampleLimited s l && !s.fsu.limitCond)) := by
    rw [hcflags, filteredFlags_idx, hanew]
    simp only [beq_self_eq_true, Bool.and_true]
    rfl
  rw [← hG] at hfsu
  rw [hfsu]
  refine ⟨h1, h2, h3, hrun.trans (if_neg hsome), h5, fun k => ⟨hxline k, hyline k, hzline k⟩, hxout, hyout, hzout,
    hxlimit, hylimit, hzlimit, hlimit.trans hlimits, ?_, ?_, ?_⟩
  · rw [hflags, filteredFlags_idx, hanew', hcflag]
    simp only [beq_self_eq_true, Bool.and_true, Bool.or_assoc]
  · rw [hconds, filteredConds_limit, hlimits, honce, honce', hcconds, sampledConds_limit, honce']
    rfl
  · have hnotes := twice_notes (s := s) (once := sampleLimited s l) (cond := s.fsu.limitCond)
      (again := outputLimited s G.ax.line || outputLimited s G.ay.line || outputLimited s G.az.line) hcflag
    rw [← hnotes, ← hanew']
    exact htold.reported

end Samples

/-- A sample whose Fz differs ends the stuck condition (R73). -/
theorem Unstuck.ends {s : State} {dt : Nat} {l : List Byte} {t : State} (h : Unstuck s dt l t) (hnone : s.fsu.prevFz ≠ none)
    (hdiff : s.fsu.prevFz ≠ some (halfAt l 4)) : t.fsu.stuckCond = false ∧
      t.flt.conds[FaultCode.forceStuck.idx] = (s.flt.conds[FaultCode.forceStuck.idx] && !s.fsu.stuckCond) := by
  have hdiffers : differs s.fsu.prevFz (halfAt l 4) = true := differs_iff.2 ⟨hnone, hdiff⟩
  rw [h.stuckCond, h.stuckConds, hdiffers]
  simp

/-- Settles O51: the link watch, the sample that completes a stuck run, and the sample in a degraded unit. -/
theorem degradedContact : Obligations.DegradedContact := by
  refine ⟨fun dt s k hw hk hleg => ?_, fun dt s l htaken hor => ?_⟩
  · intro e conds flags slipOver
    refine ⟨fun hc => ?_, fun hc hdeg => ?_, fun hc hdeg => ?_⟩
    · rw [exec_footLinkLost hw hk hleg, loseLink_again (s := elapse s dt) hc]
      rfl
    · obtain ⟨t, hexec, hfsu, hflags, hconds, hbeside, hreported⟩ := linkLost_again hw hk hleg hc hdeg
      exact ⟨t, hexec, hfsu, hflags, hconds, hbeside.pe, hbeside.tu, hbeside.pt, hbeside.sbi, hreported⟩
    · exact linkLost_enters hw hk hleg hc hdeg
  · intro e f
    by_cases hstuck : StuckNow s l
    · cases hdeg : s.fsu.degraded with
      | true =>
        obtain ⟨t, ⟨hrun, hcontact, hwatch, hlink, hprev, hpt, hsbi, hflags⟩, h1, h2, h3, h4, h5, hheight, h6, h7, hpe, htu,
          hreported⟩ := stuck_again (dt := dt) htaken hstuck hdeg
        exact ⟨t, hrun, hcontact, hwatch, hlink, hprev, hpt, hsbi, hflags, fun _ => ⟨h1, h2, h3, h4, h5, h6, h7,
          fun _ => ⟨hpe, htu, hheight, hreported⟩, nofun⟩, fun hno => absurd hstuck hno⟩
      | false =>
        obtain ⟨t, ⟨hrun, hcontact, hwatch, hlink, hprev, hpt, hsbi, hflags⟩, ⟨h1, h2, h3, h4, h5, h6, h7⟩, hrest⟩ :=
          stuck_enters (dt := dt) htaken hstuck hdeg
        exact ⟨t, hrun, hcontact, hwatch, hlink, hprev, hpt, hsbi, hflags, fun _ => ⟨h1, h2, h3, h4, h5, h6, h7, nofun,
          fun _ => hrest⟩, fun hno => absurd hstuck hno⟩
    · have hdeg := hor.resolve_right hstuck
      by_cases hend : differs s.fsu.prevFz (halfAt l 4) = true ∧ 15 ≤ s.fsu.recovery
      · obtain ⟨hdiff, hfull⟩ := hend
        obtain ⟨hnone, hsome⟩ := differs_iff.1 hdiff
        obtain ⟨c, t, hun, hc, hfsu, hflags, hconds, hsetup, hcconds, hcflags, htold⟩ :=
          degraded_ends (dt := dt) htaken hstuck hdeg hdiff hfull
        refine ⟨t, hun.run, hun.contact, hun.watch, hun.linkCond, hun.prevFz, hun.pt, hun.sbi, hun.flags,
          fun h => absurd h hstuck, fun _ => ⟨hun.pe, hun.tu, hun.slipping, hun.slipRun, hun.okRun, hun.stuckFlag,
          fun h => (h.elim hnone hsome).elim, hun.ends, fun _ _ h => absurd hfull (by omega), fun _ _ _ => ?_⟩⟩
        exact ended_unit hsome hc hfsu hflags hconds hsetup hcconds hcflags htold
      · obtain ⟨t, hun, hstays, hrun, hreported⟩ := degraded_stays (dt := dt) htaken hstuck hdeg fun hdiff =>
          Nat.lt_of_not_le fun h => hend ⟨hdiff, h⟩
        refine ⟨t, hun.run, hun.contact, hun.watch, hun.linkCond, hun.prevFz, hun.pt, hun.sbi, hun.flags,
          fun h => absurd h hstuck, fun _ => ⟨hun.pe, hun.tu, hun.slipping, hun.slipRun, hun.okRun, hun.stuckFlag,
          fun h => ?_, hun.ends, fun hnone hsome _ => ?_, fun hnone hsome hfull => ?_⟩⟩
        · have hsame : differs s.fsu.prevFz (halfAt l 4) = false :=
            Bool.eq_false_iff.2 fun hdiff => h.elim (differs_iff.1 hdiff).1 (differs_iff.1 hdiff).2
          rw [hsame] at hrun
          exact ⟨hstays, hrun, hreported⟩
        · rw [differs_iff.2 ⟨hnone, hsome⟩] at hrun
          exact ⟨hstays, hrun, hreported⟩
        · exact absurd ⟨differs_iff.2 ⟨hnone, hsome⟩, hfull⟩ hend

end Sys2Proof.DegradedWays
end

section
/-! A good sample at the Foot Sense Unit, degraded or not: filter, watches, faults, events and contact class (R62 to R67, R72,
R73). -/

-- Elaborated in order: elaborated at once, the many proofs here take more threads than the check has memory for.
set_option Elab.async false

namespace Sys2Proof.SamplesTaken
open Sys2Proof Sys2Proof.Machine Sys2Proof.Laws Sys2Proof.Keeping Sys2Proof.ClassAFaults Sys2Proof.LineFaults
  Sys2Proof.Telling Sys2Proof.Reading Sys2Proof.ContactEvents Sys2Proof.FootSamples Sys2Proof.JudgedSamples
  Sys2Proof.DriveReplies Sys2Proof.DegradedContacts Sys2Proof.DegradedSamples Sys2Proof.DegradedWays

/-! ## The judgement (R67, R70, R71) -/

/-- The faults that a judgement may latch or end. -/
def judgedFaults : List FaultCode := .slipPersist :: contactFaults

/-- Flag and condition of every fault but these stand as they stood. -/
def FaultsKept (l : List FaultCode) (s t : State) : Prop := ∀ c, c ∉ l →
  t.flt.flags[c.idx] = s.flt.flags[c.idx] ∧ t.flt.conds[c.idx] = s.flt.conds[c.idx]

theorem FaultsKept.trans {l : List FaultCode} {s t u : State} (h : FaultsKept l s t) (h' : FaultsKept l t u) :
    FaultsKept l s u := fun c hc => ⟨(h' c hc).1.trans (h c hc).1, (h' c hc).2.trans (h c hc).2⟩

theorem FaultsKept.mono {l m : List FaultCode} {s t : State} (h : FaultsKept l s t) (hsub : ∀ c ∈ l, c ∈ m) :
    FaultsKept m s t := fun c hc => h c fun hl => hc (hsub c hl)

theorem faultsKept_of_onlyConds {s t : State} (h : OnlyConds s t s.flt.conds) (l : List FaultCode) : FaultsKept l s t := by
  intro c _
  unfold OnlyConds at h
  rw [h]
  exact ⟨rfl, rfl⟩

theorem slipEnd_faults (s : State) : FaultsKept judgedFaults s (slipEnd s) := by
  cases hwalk : s.pe.leg.walking with
  | false => rw [slipEnd_resting hwalk]; exact fun _ _ => ⟨rfl, rfl⟩
  | true =>
    intro c hc
    obtain ⟨-, hflt, -⟩ := slipEnd_walking hwalk
    have hne : FaultCode.slipPersist ≠ c := fun h => hc (h ▸ List.mem_cons_self)
    unfold OnlyConds at hflt
    rw [hflt]
    refine ⟨rfl, ?_⟩
    show (slipConds s)[c.idx] = _
    unfold slipConds
    split
    · rw [set_idx, if_neg hne]
    · rfl

/-- What a step of the slip table leaves: slip state and SLIP_PERSIST apart, unit and log. -/
structure SlipLeaves (s t : State) : Prop where
  fsu : ∃ v, t.fsu = withSlip s.fsu v
  told : Told s t []
  faults : FaultsKept judgedFaults s t

theorem slipLeaves_fsu (s : State) (v : Bool × Nat × Nat) : SlipLeaves s { s with fsu := withSlip s.fsu v } :=
  ⟨⟨v, rfl⟩, told_of_logBasis rfl, fun _ _ => ⟨rfl, rfl⟩⟩

theorem slipLeaves_leaveSlip (s : State) : SlipLeaves s (leaveSlip s) := by
  obtain ⟨-, htold, hfaults⟩ := slipLeaves_fsu s (false, 0, 0)
  exact ⟨⟨(false, 0, 0), (slipEnd_frame _).2.2.2.2.1⟩, htold.trans (slipEnd_told _), hfaults.trans (slipEnd_faults _)⟩

theorem slipLeaves_slipStart (s : State) (v : Bool × Nat × Nat) :
    SlipLeaves s (slipStart { s with fsu := withSlip s.fsu v }) := by
  obtain ⟨-, htold, hfaults⟩ := slipLeaves_fsu s v
  obtain ⟨hconds, hstart⟩ := slipStart_leaves { s with fsu := withSlip s.fsu v }
  exact ⟨⟨v, (slipStart_frame _).2.2.2.2.1⟩, htold.trans hstart, hfaults.trans (faultsKept_of_onlyConds hconds _)⟩

theorem judgeSlip_leaves (s : State) : SlipLeaves s (judgeSlip s) := by
  unfold judgeSlip
  split
  · split
    · exact slipLeaves_leaveSlip s
    · exact slipLeaves_fsu s (s.fsu.slipping, 0, s.fsu.okRun)
  · split
    · split
      · exact slipLeaves_fsu s (s.fsu.slipping, s.fsu.slipRun, 0)
      · split
        · exact slipLeaves_leaveSlip s
        · exact slipLeaves_fsu s (s.fsu.slipping, s.fsu.slipRun, s.fsu.okRun + 1)
    · split
      · split
        · exact slipLeaves_slipStart s (true, 0, 0)
        · exact slipLeaves_fsu s (s.fsu.slipping, s.fsu.slipRun + 1, s.fsu.okRun)
      · exact slipLeaves_fsu s (s.fsu.slipping, 0, s.fsu.okRun)

/-- A judged sample moves class and slip state of the unit; it tells of the records that an entry to STANCE finds silent. -/
structure JudgementLeaves (s t : State) : Prop where
  fsu : ∃ v c, t.fsu = { withSlip s.fsu v with contact := c } ∧
    (s.fsu.degraded = false → c = if s.filterN + 1 < s.fsu.refill then classByForce s s.fsu.contact s.fsu.az.out
      else s.fsu.contact)
  told : ∃ ns, (∀ x ∈ ns, SilenceNote s x) ∧ Told s t ns ∧ (s.pe.leg ≠ .load → ns = [])
  faults : FaultsKept judgedFaults s t

theorem judgeSample_leaves (s : State) : JudgementLeaves s (judgeSample s) := by
  unfold judgeSample
  split
  next hon =>
    obtain ⟨hwhole, hfull⟩ : s.fsu.degraded = false ∧ refillDone s = true := by simpa using hon
    obtain ⟨u, hu⟩ : ∃ u, u = setContact s (nextClass s s.fsu.contact s.fsu.az.out) := ⟨_, rfl⟩
    obtain ⟨hfsu, -⟩ := setContact_acts s (F := s.fsu) rfl rfl _ hu
    obtain ⟨⟨ns, hns, htold, hload⟩, hfaults⟩ := setContact_told s s.fsu (nextClass s s.fsu.contact s.fsu.az.out)
    obtain ⟨⟨v, hv⟩, hslip, hslipFaults⟩ := judgeSlip_leaves u
    have hsame : setContact { s with fsu := s.fsu } (nextClass s s.fsu.contact s.fsu.az.out) = u := hu.symm
    rw [hsame] at htold hfaults
    rw [← hu]
    refine ⟨⟨v, nextClass s s.fsu.contact s.fsu.az.out, ?_, fun _ => ?_⟩, ⟨ns, hns, ?_, hload⟩, ?_⟩
    · rw [hv, hfsu]
      rfl
    · rw [if_pos (by simpa [refillDone] using hfull), nextClass_eq]
    · have hall := htold.trans hslip
      rwa [List.append_nil] at hall
    · exact FaultsKept.trans (FaultsKept.mono hfaults fun c hc => List.mem_cons_of_mem _ hc) hslipFaults
  next hoff =>
    refine ⟨⟨(s.fsu.slipping, s.fsu.slipRun, s.fsu.okRun), s.fsu.contact, rfl, fun hwhole => ?_⟩,
      ⟨[], nofun, told_of_logBasis rfl, fun _ => rfl⟩, fun _ _ => ⟨rfl, rfl⟩⟩
    have hfew : refillDone s = false := by simpa [hwhole] using hoff
    rw [if_neg (by simpa [refillDone] using hfew)]

/-! ## The sample (R63 to R66, R72, R73) -/

/-- The filter, its limits and the watches of a unit are those of another. -/
def SameFilter (F G : FootSense) : Prop := ∃ contact slip recovery degraded causeLink causeStuck height stuckCond prev,
  G = { withSlip F slip with
    contact := contact, recovery := recovery, degraded := degraded, causeLink := causeLink, causeStuck := causeStuck
    refHeight := height, stuckCond := stuckCond, prevFz := prev }

/-- The faults that a sample may latch or end beside those of filter and link watch. -/
def sampleFaults : List FaultCode := .forceStuck :: judgedFaults

/-- A good sample is filtered and the watches run anew, whatever becomes of its judgement. -/
structure Entered (s : State) (fx fy fz : Half) (t : State) : Prop where
  fsu : SameFilter (sampledFsu s fx fy fz) t.fsu
  prevFz : t.fsu.prevFz = some fz
  faults : ∀ c, c ∉ sampleFaults →
    t.flt.flags[c.idx] = (filteredFlags s fx fy fz)[c.idx] ∧ t.flt.conds[c.idx] = (sampledConds s fx fy fz)[c.idx]
  stuck : ¬ runsStuck s fz → t.fsu.stuckCond = (sampledFsu s fx fy fz).stuckCond ∧
    t.flt.conds[FaultCode.forceStuck.idx] = (sampledConds s fx fy fz)[FaultCode.forceStuck.idx]

section Entered
variable {s : State} {fx fy fz : Half}

theorem stuck_conds_degraded {b u : State} {f : FaultCode} {c : Cause} (h : Degraded b u f c) :
    ∀ d, d ≠ f → d ≠ .slipPersist → u.flt.conds[d.idx] = b.flt.conds[d.idx] := by
  intro d hf hslip
  by_cases hq : b.fsu.slipping = false ∨ b.pe.leg.walking = false
  · rw [(h.quiet hq).1, set_idx, if_neg (Ne.symm hf)]
  · obtain ⟨h1, h2⟩ := not_or.1 hq
    rw [(h.slips (by simpa using h1) (by simpa using h2)).2]
    split
    · rw [set_idx, if_neg (Ne.symm hslip), set_idx, if_neg (Ne.symm hf)]
    · rw [set_idx, if_neg (Ne.symm hf)]

theorem ne_of_sampleFault {c : FaultCode} (h : c ∉ sampleFaults) : c ≠ .forceStuck ∧ c ≠ .slipPersist ∧ c ∉ judgedFaults := by
  refine ⟨?_, ?_, fun hc => h (List.mem_cons_of_mem _ hc)⟩
  · rintro rfl; exact h (by decide)
  · rintro rfl; exact h (by decide)

theorem entered_stuck (h : runsStuck s fz) : Entered s fx fy fz (takeSample s fx fy fz) := by
  obtain ⟨b, hb⟩ : ∃ b, b = stuckOver s fx fy fz := ⟨_, rfl⟩
  obtain ⟨u, hu⟩ : ∃ u, u = degrade (reportFault b (.plain .forceStuck)) .stuck := ⟨_, rfl⟩
  obtain ⟨-, hbfsu, hbflags, hbconds, -⟩ := stuckOver_spec s fx fy fz hb
  obtain ⟨F, hF⟩ : ∃ F, F = sampledFsu s fx fy fz := ⟨_, rfl⟩
  obtain ⟨-, -, -, hprev, -⟩ := sampledFsu_rest s fx fy fz hF
  rw [← hF] at hbfsu
  have hu' : u = degrade (reportFault (stuckOver s fx fy fz) (.plain .forceStuck)) .stuck := by rw [hu, hb]
  have hspec : (∃ v r dl ds g, u.fsu = { withSlip F v with
        recovery := r, degraded := true, causeLink := dl, causeStuck := ds, refHeight := g, stuckCond := true }) ∧
      u.flt.flags = b.flt.flags.set FaultCode.forceStuck.idx true ∧
      ∀ d : FaultCode, d ≠ .forceStuck → d ≠ .slipPersist → u.flt.conds[d.idx] = b.flt.conds[d.idx] := by
    cases hdeg : b.fsu.degraded with
    | true =>
      obtain ⟨-, hfsu, hflags, hconds, -⟩ := degraded_again (c := .stuck) (f := .forceStuck) rfl hdeg hu
      refine ⟨⟨(F.slipping, F.slipRun, F.okRun), F.recovery, F.causeLink, true, F.refHeight, ?_⟩, hflags,
        fun d hd _ => ?_⟩
      · have hFdeg : F.degraded = true := by rw [hbfsu] at hdeg; exact hdeg
        rw [hfsu, addCause_stuck, hbfsu, ← hFdeg]
        rfl
      · rw [hconds, set_idx, if_neg (Ne.symm hd)]
    | false =>
      have hd : Degraded b u .forceStuck .stuck := degraded_enters rfl (by decide) hdeg hu
      refine ⟨⟨(false, 0, 0), 0, F.causeLink, true, b.tu.measured.z, ?_⟩, hd.flags, stuck_conds_degraded hd⟩
      rw [hd.fsu]
      unfold degradedFsu restingFsu
      rw [addCause_stuck, hbfsu]
      rfl
  obtain ⟨⟨v, r, dl, ds, g, hfsu⟩, hflags, hconds⟩ := hspec
  rw [takeSample_stuck h hu' (by rw [hfsu]) (by rw [hfsu]; exact hprev), hfsu]
  refine ⟨?_, rfl, fun c hc => ?_, fun hno => absurd h hno⟩
  · rw [← hF]
    exact ⟨_, _, _, _, _, _, _, _, _, rfl⟩
  · obtain ⟨hstuck, hslip, -⟩ := ne_of_sampleFault hc
    refine ⟨?_, (hconds c hstuck hslip).trans (by rw [hbconds])⟩
    show u.flt.flags[_] = _
    rw [hflags, set_idx, if_neg (Ne.symm hstuck), hbflags]

theorem entered_degraded (hstuck : ¬ runsStuck s fz) (hdeg : s.fsu.degraded = true)
    (hmore : differs s.fsu.prevFz fz = true → s.fsu.recovery < 15) : Entered s fx fy fz (takeSample s fx fy fz) := by
  obtain ⟨a, ha⟩ : ∃ a, a = sampled s fx fy fz := ⟨_, rfl⟩
  obtain ⟨-, -, hflags, hconds, -⟩ := sampled_spec s fx fy fz
  rw [← ha] at hflags hconds
  obtain ⟨F, hF⟩ : ∃ F, F = sampledFsu s fx fy fz := ⟨_, rfl⟩
  rw [takeSample_degraded hdeg hstuck hmore ha, ← hF]
  refine ⟨?_, rfl, fun c _ => ⟨by rw [← hflags], by rw [← hconds]⟩, fun _ => ⟨by rw [← hF], by rw [← hconds]⟩⟩
  rw [← hF]
  exact ⟨F.contact, (F.slipping, F.slipRun, F.okRun), _, F.degraded, F.causeLink, F.causeStuck, F.refHeight, F.stuckCond, _, rfl⟩

theorem entered_whole (hstuck : ¬ runsStuck s fz) (hwhole : s.fsu.degraded = false) :
    Entered s fx fy fz (takeSample s fx fy fz) ∧ (takeSample s fx fy fz).fsu.degraded = false ∧
      (takeSample s fx fy fz).fsu.contact = (if s.filterN + 1 < min 17 (s.fsu.refill + 1) then
        classByForce s s.fsu.contact (takeSample s fx fy fz).fsu.az.out else s.fsu.contact) ∧
      ∃ ns, (∀ x ∈ ns, SilenceNote (sampled s fx fy fz) x) ∧
        Told s (takeSample s fx fy fz) (filterNote s fx fy fz ++ ns) ∧ (s.pe.leg ≠ .load → ns = []) := by
  obtain ⟨a, ha⟩ : ∃ a, a = sampled s fx fy fz := ⟨_, rfl⟩
  obtain ⟨hbeside, hafsu, haflags, haconds, hatells⟩ := sampled_spec s fx fy fz
  rw [takeSample_whole hwhole hstuck]
  rw [← ha] at hbeside hafsu haflags haconds hatells ⊢
  obtain ⟨F, hF⟩ : ∃ F, F = sampledFsu s fx fy fz := ⟨_, rfl⟩
  obtain ⟨hcontact, -, -, -, hdeg, -⟩ := sampledFsu_rest s fx fy fz hF
  have hrefill : F.refill = min 17 (s.fsu.refill + 1) := by
    rw [hF]
    unfold sampledFsu filteredFsu
    rfl
  obtain ⟨⟨v, c, hfsu, hclass⟩, ⟨ns, hns, htold, hload⟩, hfaults⟩ := judgeSample_leaves a
  rw [hafsu, ← hF] at hfsu hclass
  have hclass := hclass (hdeg.trans hwhole)
  refine ⟨⟨?_, rfl, fun d hd => ?_, fun _ => ⟨?_, ?_⟩⟩, ?_, ?_, ns, hns, ?_, fun h => hload (by rwa [hbeside.pe])⟩
  · rw [← hF]
    exact ⟨c, v, F.recovery, F.degraded, F.causeLink, F.causeStuck, F.refHeight, F.stuckCond, some fz, by rw [hfsu]; rfl⟩
  · obtain ⟨hflags, hconds⟩ := hfaults d (ne_of_sampleFault hd).2.2
    exact ⟨hflags.trans (by rw [haflags]), hconds.trans (by rw [haconds])⟩
  · rw [← hF]
    show (judgeSample a).fsu.stuckCond = _
    rw [hfsu]
    rfl
  · exact (hfaults .forceStuck (by decide)).2.trans (by rw [haconds])
  · show (judgeSample a).fsu.degraded = _
    rw [hfsu]
    exact hdeg.trans hwhole
  · have hclassBy : classByForce a = classByForce s := by
      have htouch : a.tTouch = s.tTouch := by simp only [State.tTouch, State.uword, hbeside.setup]
      have hloaded : a.tLoaded = s.tLoaded := by simp only [State.tLoaded, State.uword, hbeside.setup]
      have hhyst : a.hyst = s.hyst := by simp only [State.hyst, State.uword, hbeside.setup]
      unfold classByForce
      rw [htouch, hloaded, hhyst]
    have hn : a.filterN = s.filterN := by simp only [State.filterN, State.uword, hbeside.setup]
    show (judgeSample a).fsu.contact = if _ then classByForce s s.fsu.contact (judgeSample a).fsu.az.out else _
    rw [hfsu]
    refine hclass.trans ?_
    rw [hclassBy, hn, hrefill, hcontact]
    rfl
  · have hstill : Told (judgeSample a) { judgeSample a with fsu := { (judgeSample a).fsu with prevFz := some fz } } [] :=
      told_of_logBasis rfl
    have hall := (hatells.toTold.trans htold).trans hstill
    rwa [List.append_nil] at hall

end Entered

/-! ## The silence that a sample's entry to STANCE tells of -/

/-- A record found silent after the filter has reported was silent before. -/
theorem silenceNote_beside {s t : State} (h : Beside s t)
    (hflags : ∀ i : Fin 17, i ≠ FaultCode.filterLimit.idx → t.flt.flags[i] = s.flt.flags[i]) {x : Note}
    (hx : SilenceNote t x) : SilenceNote s x := by
  obtain ⟨n, r, hr, ⟨r', hr', hs, hage⟩, hx⟩ := hx
  have hrecord : t.record n = s.record n := by rw [State.record, h.pt]; rfl
  have hage' : staleLimit s r' < ageOf s r'.tag := by rwa [staleLimit_congr h.setup, ageOf, h.time] at hage
  refine ⟨n, r, by rw [← hrecord, hr], ⟨r', by rw [← hrecord, hr'], hs, hage'⟩, ?_⟩
  have hlatch {c : FaultCode} (hc : c.idx ≠ FaultCode.filterLimit.idx) (hmem : x ∈ latchNote t c) : x ∈ latchNote s c := by
    rwa [latchNote_of_flag (hflags c.idx hc)] at hmem
  unfold silenceOf at hx ⊢
  cases hp : r.part with
  | leg => rwa [hp] at hx
  | body => rw [hp] at hx; exact hlatch (c := .bodySilent) (by decide) hx
  | mission => rw [hp] at hx; exact hlatch (c := .intentSilent) (by decide) hx

theorem exec_sample_setup {s : State} {l : List Byte} (hframe : forceFrame false l = true) (hlink : s.fsu.link ≠ .waitIdle)
    (hleg : s.pe.leg = .setup) (dt : Nat) : exec (.forceSampleGood dt l) s = .next (arriving s dt) := by
  have hheard : (forceFrame false l && (elapse s dt).fsu.link != .waitIdle) = true := by
    rw [hframe, Bool.true_and, bne_iff_ne]
    exact hlink
  exact congrArg Host.Outcome.next ((if_pos hheard).trans (if_pos hleg))

/-- The unit of a good sample is that which `SameFilter` says. -/
theorem entered_sample {s : State} {fx fy fz : Half}
    (h : ¬ (s.fsu.degraded = true ∧ differs s.fsu.prevFz fz = true ∧ 15 ≤ s.fsu.recovery)) :
    Entered s fx fy fz (takeSample s fx fy fz) := by
  by_cases hstuck : runsStuck s fz
  · exact entered_stuck hstuck
  · cases hdeg : s.fsu.degraded with
    | false => exact (entered_whole hstuck hdeg).1
    | true => exact entered_degraded hstuck hdeg fun hdiff => Nat.lt_of_not_le fun hrun => h ⟨hdeg, hdiff, hrun⟩

/-- What a sample that completes no stuck run records (R150, R158). -/
theorem sample_told {s : State} {l : List Byte} (htaken : SampleTaken s l) (hno : ¬ RecoversNow s l)
    (hstuck : ¬ StuckNow s l) {dt : Nat} {t : State} (ht : exec (.forceSampleGood dt l) s = .next t) :
    ReportedAmongReads (elapse s dt) t (limitNote s l) [] ∧ (s.pe.leg ≠ .load → Reported s t (limitNote s l)) := by
  cases hdeg : s.fsu.degraded with
  | true =>
    obtain ⟨t', hun, -, -, hreported⟩ := degraded_stays (dt := dt) htaken hstuck hdeg fun hdiff =>
      Nat.lt_of_not_le fun hrun => hno ⟨hdeg, (differs_iff.1 hdiff).1, (differs_iff.1 hdiff).2, hrun⟩
    obtain rfl : t = t' := Host.Outcome.next.inj (ht.symm.trans hun.run)
    refine ⟨⟨[], nofun, ?_⟩, fun _ => hreported⟩
    rw [List.append_nil, List.append_nil]
    exact hreported
  | false =>
    have hnot : ¬ runsStuck (arriving s dt) (halfAt l 4) := hstuck
    obtain ⟨-, -, -, ns, hns, htold, hload⟩ := entered_whole (s := arriving s dt) (fx := halfAt l 0) (fy := halfAt l 2)
      hnot hdeg
    obtain rfl : t = _ := Host.Outcome.next.inj (ht.symm.trans (exec_sample htaken dt))
    rw [filterNote_arriving] at htold
    obtain ⟨hbeside, -, hflags, -⟩ := sampled_spec (arriving s dt) (halfAt l 0) (halfAt l 2) (halfAt l 4)
    have hbefore : Told (elapse s dt) (arriving s dt) [] := told_of_logBasis rfl
    refine ⟨⟨ns, fun x hx => ?_, ?_⟩, fun hleg => ?_⟩
    · have hnote := silenceNote_beside hbeside (fun i hi => by rw [hflags, filteredFlags_other _ _ _ _ hi]) (hns x hx)
      exact hnote
    · rw [List.append_nil]
      exact (hbefore.trans htold).reported
    · have hall := (told_arriving s dt).trans htold
      rw [hload hleg, List.append_nil] at hall
      exact hall.reported

theorem sampledFsu_filter (s : State) (fx fy fz : Half) {F : FootSense} (hF : F = sampledFsu s fx fy fz) :
    F.link = s.fsu.link ∧ F.watch = some 2000 ∧ F.linkCond = false ∧ F.bad = s.fsu.bad ∧
      F.refill = min 17 (s.fsu.refill + 1) ∧ F.ax = s.fsu.ax.take s fx ∧ F.ay = s.fsu.ay.take s fy ∧
      F.az = s.fsu.az.take s fz ∧ F.limitCond = limitsAny s fx fy fz ∧ F.stuckRun = runAfter s.fsu fz := by
  unfold sampledFsu filteredFsu at hF
  rw [hF]
  exact ⟨rfl, rfl, rfl, rfl, rfl, rfl, rfl, rfl, rfl, rfl⟩

/-- Settles O49: in SETUP the sample is discarded; after it the sample is filtered, and the rest by its judgement. -/
theorem forceSampleTaken : Obligations.ForceSampleTaken := by
  intro dt s l hframe hlink e limited f
  refine ⟨fun hleg => exec_sample_setup hframe hlink hleg dt, fun hleg hno => ?_⟩
  have htaken : SampleTaken s l := ⟨hframe, hlink, hleg⟩
  have hrun := exec_sample htaken dt
  obtain ⟨d, hd⟩ : ∃ d, d = arriving s dt := ⟨_, rfl⟩
  obtain ⟨t, ht⟩ : ∃ t, t = takeSample d (halfAt l 0) (halfAt l 2) (halfAt l 4) := ⟨_, rfl⟩
  have hentered : Entered d (halfAt l 0) (halfAt l 2) (halfAt l 4) t := by
    rw [ht]
    refine entered_sample ?_
    rw [hd]
    rintro ⟨hdeg, hdiff, hfull⟩
    exact hno ⟨hdeg, (differs_iff.1 hdiff).1, (differs_iff.1 hdiff).2, hfull⟩
  obtain ⟨htime, hsbi, hsetup, hscu, -⟩ := takeSample_frame d (halfAt l 0) (halfAt l 2) (halfAt l 4)
  rw [← hd, ← ht] at hrun
  rw [← ht] at htime hsbi hsetup hscu
  obtain ⟨hsame, hprev, hfaults, hstuck⟩ := hentered
  obtain ⟨F, hF⟩ : ∃ F, F = sampledFsu d (halfAt l 0) (halfAt l 2) (halfAt l 4) := ⟨_, rfl⟩
  obtain ⟨hlink', hwatch, hlinkCond, hbad, hrefill, hx, hy, hz, hlimit, hrun'⟩ := sampledFsu_filter _ _ _ _ hF
  have hdsetup : d.setup = s.setup := by rw [hd]; rfl
  obtain ⟨hxline, hxout, hxlimit⟩ := take_spec hdsetup d.fsu.ax (halfAt l 0)
  obtain ⟨hyline, hyout, hylimit⟩ := take_spec hdsetup d.fsu.ay (halfAt l 2)
  obtain ⟨hzline, hzout, hzlimit⟩ := take_spec hdsetup d.fsu.az (halfAt l 4)
  rw [← hx] at hxline hxout hxlimit
  rw [← hy] at hyline hyout hylimit
  rw [← hz] at hzline hzout hzlimit
  have hany : limitsAny d (halfAt l 0) (halfAt l 2) (halfAt l 4) = limited := by rw [hd]; rfl
  have hanew : limitsAnew d (halfAt l 0) (halfAt l 2) (halfAt l 4) = (limited && !s.fsu.limitCond) := by
    rw [limitsAnew, hany, hd]; rfl
  have hnot (h : ¬ StuckNow s l) : ¬ runsStuck d (halfAt l 4) := by rw [hd]; exact h
  rw [← hF] at hsame hstuck
  have hwatches (h : ¬ StuckNow s l) :
      t.fsu.stuckCond = (s.fsu.stuckCond && !differs s.fsu.prevFz (halfAt l 4)) ∧
      t.flt.conds[FaultCode.forceStuck.idx] =
        (s.flt.conds[FaultCode.forceStuck.idx] && !(s.fsu.stuckCond && differs s.fsu.prevFz (halfAt l 4))) := by
    obtain ⟨h1, h2⟩ := hstuck (hnot h)
    rw [h1, h2, hF, sampledFsu_stuckCond, sampledConds_idx, if_pos rfl, hd]
    exact ⟨rfl, rfl⟩
  obtain ⟨_, _, _, _, _, _, _, _, _, hfsu⟩ := hsame
  have hline : t.fsu.ax = F.ax ∧ t.fsu.ay = F.ay ∧ t.fsu.az = F.az := by rw [hfsu]; exact ⟨rfl, rfl, rfl⟩
  obtain ⟨htx, hty, htz⟩ := hline
  refine ⟨t, hrun, ?_, ?_, ?_, ?_, hprev, ?_, fun k => ?_, ?_, ?_, ?_, ?_, ?_, ?_, ?_, ?_, ?_, ?_, fun hnone hsome => ?_,
    fun hequal hno' => ?_, ?_, fun hno' => (sample_told htaken hno hno' hrun).1,
    fun hno' => (sample_told htaken hno hno' hrun).2, fun hwhole hsteps => ?_, ?_, ?_, ?_, ?_⟩
  · rw [hfsu]; exact hlink'.trans (by rw [hd]; rfl)
  · rw [hfsu]; exact hwatch
  · rw [hfsu]; exact hlinkCond
  · rw [hfsu]; exact hbad.trans (by rw [hd]; rfl)
  · rw [hfsu]; exact hrefill.trans (by rw [hd]; rfl)
  · rw [htx, hty, htz, hxline, hyline, hzline, hd]
    exact ⟨rfl, rfl, rfl⟩
  · rw [htx]; exact hxout
  · rw [hty]; exact hyout
  · rw [htz]; exact hzout
  · rw [htx, hxlimit, hd]; rfl
  · rw [hty, hylimit, hd]; rfl
  · rw [htz, hzlimit, hd]; rfl
  · rw [hfsu]; exact hlimit.trans hany
  · rw [(hfaults .filterLimit (by decide)).1, filteredFlags_idx, hanew, hd, beq_self_eq_true, Bool.and_true]
    rfl
  · rw [(hfaults .filterLimit (by decide)).2, sampledConds_limit, hany, hd]
    rfl
  · rw [(hfaults .footLinkLost (by decide)).2, sampledConds_idx, if_neg (by decide), if_pos rfl, hd]
    rfl
  · have hdiff : differs s.fsu.prevFz (halfAt l 4) = true := differs_iff.2 ⟨hnone, hsome⟩
    obtain ⟨h1, h2⟩ := hwatches fun h => hsome h.2.2.1
    rw [h1, h2, hdiff, Bool.not_true, Bool.and_false, Bool.and_true]
    exact ⟨rfl, rfl⟩
  · have hdiff : differs s.fsu.prevFz (halfAt l 4) = false :=
      Bool.eq_false_iff.2 fun h => hequal.elim (differs_iff.1 h).1 (differs_iff.1 h).2
    obtain ⟨h1, h2⟩ := hwatches hno'
    rw [h1, h2, hdiff, Bool.not_false, Bool.and_false, Bool.and_true]
    exact ⟨rfl, Bool.and_true _⟩
  · rw [hfsu]; exact hrun'.trans (by rw [hd]; rfl)
  · have hno' : ¬ StuckNow s l := fun h => by rw [h.1] at hsteps; cases hsteps
    have hdwhole : d.fsu.degraded = false := by rw [hd]; exact hwhole
    obtain ⟨-, hdeg, hcontact, -⟩ := entered_whole (fx := halfAt l 0) (fy := halfAt l 2) (hnot hno') hdwhole
    rw [← ht] at hdeg hcontact
    refine ⟨hdeg, hcontact.trans ?_⟩
    rw [hd]
    rfl
  · rw [htime, hd]; rfl
  · rw [hsbi, hd]; rfl
  · rw [hsetup, hd]; rfl
  · rw [hscu, hd]; rfl

end Sys2Proof.SamplesTaken
end
